-- ==== Sys2Proof/Word.lean ====
section
/-! DEFINITION. The character of a rack-line frame and the fixed-size collections the part's blocks are made of. -/

namespace Sys2Proof

/-- One character's eight data bits (R152). -/
abbrev Byte := BitVec 8

namespace Vec

/-- The item at index `k` of a fixed number of like things. -/
def get (v : Vector α n) (k : Fin n) : α := v[k]

/-- The same collection with index `k` replaced. -/
def set (v : Vector α n) (k : Fin n) (x : α) : Vector α n := v.set k x

end Vec
end Sys2Proof
end

