-- ==== Sys2Proof/Machine/Records.lean ====
section
/-! DEFINITION. The named values and records of the UB4: codes of Table 10-1, table entries, the session, batch,
dose and note records. Plain data only. -/

namespace Sys2Proof

/-! ### Named values (Table 10-1) -/

inductive PermitState | active | suspended | lockedOut
deriving DecidableEq, Repr

inductive VehicleState | active | barred
deriving DecidableEq, Repr

/-- Permit source (Table 1-3) and quota source (Table 1-6). -/
inductive Source | local_ | server
deriving DecidableEq, Repr

inductive Basis | gross | standard
deriving DecidableEq, Repr

inductive BayState | outOfService | idle | session | closing | faulted
deriving DecidableEq, Repr

inductive ArmState | idle | ready | waitInjector | lowStart | full | slowdown | stopping | suspended
deriving DecidableEq, Repr

/-- The valve command of Table 5-3. -/
inductive Valve | closed | low | high
deriving DecidableEq, Repr

inductive EndReason | complete | stopped | capacity | estop | fault | sessionAbort | reset | powerLoss
deriving DecidableEq, Repr

inductive CloseReason | orderly | idleTimeout | abort | fault | reset | powerLoss
deriving DecidableEq, Repr

inductive SuspendCause | ground | overfill | deadman | noFlow | vehicleChange | request
deriving DecidableEq, Repr

inductive SessionReason
  | bayNotReady | bayBusy | cardUnknown | permitSuspended | permitLocked | permitExpired | noVehicle
  | vehicleUnknown | vehicleBarred | vehicleExpired | vehicleNotAllowed | noteQueueFull | serverDenied | noAnswer
deriving DecidableEq, Repr

inductive BatchReason
  | noSession | armDisabled | armBusy | armFaulted | compartmentUnknown | compartmentClaimed | productNotOnArm
  | productNotPermitted | incompatibleLastProduct | belowMinimum | quotaExhausted | tempMissing | permissiveOpen
  | batchLimit | recipeUnavailable | doseRateInvalid
deriving DecidableEq, Repr

inductive BatchOp | setup | start | stop | suspend | resume
deriving DecidableEq, Repr

/-- The eleven fault classes, in the order of Table 2-5. -/
inductive FaultClass
  | estop | valve | retention | unauthFlow | meterPulse | meterReverse | tempLost | injector | dose | overrun | deviceLost
deriving DecidableEq, Repr

/-- Response modes of the FAULT_POLICY table; `recipe` is held by the DOSE entry alone (R37). -/
inductive ResponseMode | report | stopArm | stopBay | recipe
deriving DecidableEq, Repr

/-- The response a latch is stored under (Table 2-6). -/
inductive Latch | stopArm | stopBay
deriving DecidableEq, Repr

/-- The safety inputs in the order of Table 10-1. -/
inductive SafetyInput | ground | overfill | estop | deadman
deriving DecidableEq, Repr

/-- The two permissives whose falls suspend the flowing arms (R31). -/
inductive Permissive | ground | overfill
deriving DecidableEq, Repr

inductive PlaceState | reserved | ready | damaged
deriving DecidableEq, Repr

inductive DoseVerdict | treated | under | over | untreated
deriving DecidableEq, Repr

inductive FailureAction | stopArm | continueUntreated
deriving DecidableEq, Repr

inductive Role | cardReader | tagReader | tempXmtr | keypad
deriving DecidableEq, Repr

inductive StationState | absent | online | silent | offline
deriving DecidableEq, Repr

inductive Link | online | standalone
deriving DecidableEq, Repr

inductive RelayOutcome | replied | noResponse | noSuchStation | locked
deriving DecidableEq, Repr

/-- The ten tables, in the order of Table 9-2. -/
inductive TableId | permit | vehicle | compat | product | recipe | injector | arm | device | faultPolicy | bay
deriving DecidableEq, Repr

/-- Answer codes of a reply (R176). -/
inductive AnswerCode
  | accepted | refused | unknownRequest | badLength | badTable | badIndex | badValue | inUse | wrongState | queueFull
  | locked | noSuchNote | noSuchStation | late | damaged
deriving DecidableEq, Repr

/-- Batch phase (R85): whether the batch has ever entered LOW_START. -/
inductive Phase | setUp | started
deriving DecidableEq, Repr

inductive TempState | absent | fresh | stale
deriving DecidableEq, Repr

/-- Injector run states (Table 6-2). -/
inductive InjState | free | claimedIdle | injecting
deriving DecidableEq, Repr

/-- The two claimants of the reply slots (R163). -/
inductive SlotClass | event | relay
deriving DecidableEq, Repr

/-- The serial line an event belongs to. -/
inductive Line | u | d
deriving DecidableEq, Repr

/-- The channel of a meter pin. -/
inductive Channel | a | b
deriving DecidableEq, Repr

/-- Where a bay reset comes from (R186). -/
inductive ResetSource | pin | request
deriving DecidableEq, Repr

/-- The fourteen totalizers (R146). -/
inductive TotalizerId | gross (k : Fin 4) | standard (k : Fin 4) | additive (j : Fin 6)
deriving DecidableEq, Repr

/-- Who set up or started a batch: the server, or the keypad at a D address (Table 5-4). -/
inductive StartSource | server | keypad (address : Byte)
deriving DecidableEq, Repr

/-- What a fault names as its subject (R39, Table 10-1); a retention item is named by its code. -/
inductive Subject | none | injector (j : Fin 6) | device (address : Byte) | retention (item : Nat)
deriving DecidableEq, Repr

/-! ### Table entries -/

/-- Table 1-1. An empty `vehicles` list is an absent vehicle list. -/
structure PermitEntry where
  card : Nat
  state : PermitState
  carrier : Nat
  products : BitVec 16
  dailyQuota : Nat
  usedToday : Nat
  expiryDay : Nat
  vehicles : List Nat
  refusals : Nat
deriving DecidableEq, Repr

/-- One compartment of Table 1-2; `last` is none for UNKNOWN. -/
structure Compartment where
  capacity : Nat
  last : Option (Fin 16)
deriving DecidableEq, Repr

/-- Table 1-2; the compartment count is the length of `compartments`. -/
structure VehicleEntry where
  tag : Nat
  state : VehicleState
  inspectionDay : Nat
  compartments : List Compartment
deriving DecidableEq, Repr

/-- Table 4-1; `recipe` is none for NONE. -/
structure ProductEntry where
  code : Nat
  alpha : Nat
  recipe : Option (Fin 16)
deriving DecidableEq, Repr

/-- One dose of a recipe (Table 6-3). -/
structure Dose where
  code : Nat
  rate : Nat
deriving DecidableEq, Repr

/-- Table 6-3. -/
structure RecipeEntry where
  doses : List Dose
  tolerance : Nat
  action : FailureAction
deriving DecidableEq, Repr

/-- Table 6-1. -/
structure InjectorEntry where
  code : Nat
  stroke : Nat
  ppl : Nat
  timeoutMs : Nat
  plumbing : BitVec 4
  inService : Bool
deriving DecidableEq, Repr

/-- One point of a meter curve (R65). -/
structure CurvePoint where
  q : Nat
  f : Nat
deriving DecidableEq, Repr

/-- Table 5-1; an absent curve is the empty list, `station` is none for NONE. -/
structure ArmEntry where
  enabled : Bool
  products : BitVec 16
  ppl : Nat
  curve : List CurvePoint
  lowStart : Nat
  slowdown : Nat
  noFlowTimeout : Nat
  stopTimeout : Nat
  maxOverrun : Nat
  station : Option (Fin 12)
deriving DecidableEq, Repr

/-- A device directory entry (R166). -/
structure DeviceEntry where
  address : Byte
  role : Option Role
  arm : Option (Fin 4)
  forward : Bool
deriving DecidableEq, Repr

/-- A FAULT_POLICY entry (R37). -/
structure PolicyEntry where
  mode : ResponseMode
  mask : Bool
deriving DecidableEq, Repr

/-- The bay parameters (Table 9-4). Times in the units of the table. -/
structure BayEntry where
  permitSource : Source
  authorisationWait : Nat
  tagFreshness : Nat
  idleMinutes : Nat
  unknownAllowed : Bool
  basis : Basis
  debounceMs : Vector Nat 4
  deadmanInterval : Nat
  reverseAllowance : Nat
  discrepancyLimit : Nat
  unauthLimit : Nat
  tRef : Nat
  minBatch : Nat
  maxBatch : Nat
  linkSilence : Nat
  dResponseMs : Nat
  resumeInService : Bool
deriving DecidableEq, Repr

/-- A stored entry with the DAMAGED mark of R188. -/
structure Slot (α : Type) where
  entry : α
  damaged : Bool
deriving DecidableEq, Repr

/-- A table of many entries: (index, entry) pairs, indices strictly rising, no pair equal to the cleared entry. -/
abbrev Tab (α : Type) := List (Nat × Slot α)

/-- The ten tables of retention (Table 9-2). -/
structure Tables where
  permits : Tab PermitEntry
  vehicles : Tab VehicleEntry
  compat : Slot (Vector (BitVec 16) 16)
  products : Tab ProductEntry
  recipes : Tab RecipeEntry
  injectors : Tab InjectorEntry
  arms : Tab ArmEntry
  devices : Tab DeviceEntry
  policies : Vector (Slot PolicyEntry) 11
  bay : Slot BayEntry
deriving DecidableEq, Repr

/-! ### Batch, session and note records -/

/-- Batch line flags (Table 5-4, bits of Table 10-1). -/
structure BatchFlags where
  presetClamped : Bool
  tempHeld : Bool
  tempClamped : Bool
  meterFault : Bool
  doseFault : Bool
  injectorLost : Bool
deriving DecidableEq, Repr

/-- A dose record (Table 6-4). Interval, next due point, out-of-tolerance count and overflow mark are volatile. -/
structure DoseRec where
  code : Nat
  rate : Nat
  injector : Fin 6
  stroke : Nat
  ppl : Nat
  timeoutMs : Nat
  tolerance : Nat
  action : FailureAction
  interval : Nat
  nextDue : Nat
  done : Nat
  owed : Nat
  measured : Nat
  expected : Nat
  outCount : Nat
  overflow : Bool
  claimLost : Bool
  verdict : Option DoseVerdict
deriving DecidableEq, Repr

/-- The batch record (Table 5-4). `startDamaged` says whether the totalizer carried its damaged mark when the start
reading was taken (R147). Start source, suspend cause and overrun observed are volatile. -/
structure Batch where
  compartment : Fin 8
  product : Fin 16
  code : Nat
  alpha : Nat
  tRef : Nat
  basis : Basis
  recipe : Option (Fin 16)
  source : StartSource
  preset : Nat
  phase : Phase
  gross : Nat
  standard : Nat
  rg : Nat
  rs : Nat
  weight : Int
  k5 : Option Nat
  totalStart : Nat
  startDamaged : Bool
  atStopping : Option Nat
  flags : BatchFlags
  doses : List DoseRec
  cause : Option SuspendCause
  endReason : Option EndReason
  overrun : Option Nat
deriving DecidableEq, Repr

/-- A dose record as a batch line carries it (R135, Table 10-11). -/
structure LineDose where
  code : Nat
  injector : Fin 6
  verdict : DoseVerdict
  owed : Nat
  done : Nat
  rate : Nat
  expected : Nat
  measured : Nat
deriving DecidableEq, Repr

/-- A batch line (Table 7-3). -/
structure BatchLine where
  arm : Fin 4
  compartment : Fin 8
  code : Nat
  recipe : Option (Fin 16)
  preset : Nat
  grossL : Nat
  standardL : Nat
  average : Option Int
  k5 : Option Nat
  endReason : EndReason
  flags : BatchFlags
  totalStart : Nat
  totalEnd : Nat
  doses : List LineDose
deriving DecidableEq, Repr

/-- The session record (Table 1-6). `products` and `quota` are the AUTHORISE figures, read under SERVER source only.
`closing` is the close reason of an abort under way (R23), `closed` the mark of R134, `damaged` the mark of R188. -/
structure Session where
  number : Nat
  openTime : Nat
  card : Nat
  carrier : Nat
  permit : Option Nat
  vehicle : Nat
  tag : Nat
  products : BitVec 16
  source : Source
  quota : Nat
  delivered : Nat
  reserved : Nat
  claims : Vector (Option (Fin 4)) 8
  lines : List BatchLine
  closing : Option CloseReason
  closed : Bool
  damaged : Bool
deriving DecidableEq, Repr

/-- The session record with the batch accumulators, as retention returns it (Table 9-7's item). -/
structure SessionImage where
  session : Session
  batches : Vector (Option Batch) 4
deriving DecidableEq, Repr

/-- The note record (Table 7-2) less its state, which the place holds. `basis` and `tRef` are byte 31 of Table 10-9. -/
structure NoteRec where
  number : Nat
  openTime : Nat
  closeTime : Nat
  card : Nat
  carrier : Nat
  tag : Nat
  source : Source
  reason : CloseReason
  basis : Basis
  tRef : Nat
  lines : List BatchLine
deriving DecidableEq, Repr

/-- One place of the note queue (R136): the note and its serial form once written, and which of its words have
suffered an uncorrectable error (R144, R145). -/
structure Place where
  number : Nat
  state : PlaceState
  note : Option NoteRec
  form : List Byte
  headerBad : Bool
  bodyBad : Bool
deriving DecidableEq, Repr

/-- The note counter (R132). -/
inductive NoteCounter | next (n : Nat) | usedUp
deriving DecidableEq, Repr

/-! ### What retention reports on a read -/

/-- The ECC finding of one retention word (R188). -/
inductive Ecc | clean | single | multi
deriving DecidableEq, Repr

/-- The item a retention word belongs to (Table 9-7). Where the rule rewrites or keeps the item AS READ, the item
carries what retention returned. A note word names its place, the byte of the serial form it holds first, and its bytes
as read, none for a word of the note's record or lines kept beside the form (log 12). -/
inductive RetItem
  | tableEntry (table : TableId) (index : Nat)
  | sessionRecord (asRead : SessionImage)
  | quotaDay
  | noteWord (place : Nat) (offset : Nat) (asRead : List Byte)
  | placeList (bothCopies : Bool)
  | noteCounter (bothCopies : Bool)
  | totalizer (t : TotalizerId) (asRead : Nat)
  | faultRecord (c : FaultClass)
  | serviceFlag
  | bayClock (asRead : Nat)
  | validityMarker
deriving DecidableEq, Repr

/-- One word's finding. -/
structure Finding where
  item : RetItem
  ecc : Ecc
deriving DecidableEq, Repr

/-- The strap pins (R152). -/
structure Straps where
  sa : BitVec 5
  usp : BitVec 2
  dsp : BitVec 2
deriving DecidableEq, Repr

/-- The input levels standing when the part starts (R190, step 5). -/
structure PinLevels where
  straps : Straps
  grd : Bool
  ovf : Bool
  estp : Bool
  dmn : Bool
  brst : Bool
  ma : Vector Bool 4
  mb : Vector Bool 4
deriving DecidableEq, Repr

end Sys2Proof
end

