-- ==== Sys2Proof/Syntax.lean ====
section
/-! DEFINITION. The commands: one constructor per row of the table of operations and events. -/

namespace Sys2Proof

/-- The commands of the UB4. A request carries its request tag and its payload bytes (R154, R193); `reads` is what
retention's ECC reports on the words the request reads (R179, R188). A station record carries the D address it came
from (R171). `k` is an arm, `j` an injector. -/
inductive Instr
  | authorise (tag : Byte) (payload : List Byte)
  | deny (tag : Byte) (payload : List Byte)
  | sessionEnd (tag : Byte) (payload : List Byte)
  | sessionAbort (tag : Byte) (payload : List Byte)
  | clearFault (tag : Byte) (payload : List Byte)
  | faultDrill (tag : Byte) (payload : List Byte)
  | batchSetup (tag : Byte) (payload : List Byte)
  | batchStart (tag : Byte) (payload : List Byte)
  | batchStop (tag : Byte) (payload : List Byte)
  | batchSuspend (tag : Byte) (payload : List Byte)
  | batchResume (tag : Byte) (payload : List Byte)
  | noteList (tag : Byte) (payload : List Byte) (reads : List Finding)
  | noteRead (tag : Byte) (payload : List Byte) (reads : List Finding)
  | noteRelease (tag : Byte) (payload : List Byte) (reads : List Finding)
  | relay (tag : Byte) (payload : List Byte)
  | tableWrite (tag : Byte) (payload : List Byte)
  | tableRead (tag : Byte) (payload : List Byte) (reads : List Finding)
  | tableClear (tag : Byte) (payload : List Byte)
  | statusRead (tag : Byte) (payload : List Byte)
  | counterRead (tag : Byte) (payload : List Byte)
  | clockSet (tag : Byte) (payload : List Byte)
  | bayCommand (tag : Byte) (payload : List Byte)
  | resetRequest (tag : Byte) (payload : List Byte)
  | unknownRequest (kind : Byte) (tag : Byte) (payload : List Byte)
  | broadcastRequest (kind : Byte) (payload : List Byte)
  | replyComplete
  | linkSilenceExpiry
  /-- `inFrame`: whether a frame was being assembled when the character came. -/
  | framingError (line : Line) (inFrame : Bool)
  | frameSilenceTimeout (line : Line)
  | frameCheckError (line : Line)
  | overlappingRequest
  | poll
  | verdictFrame
  | relayTurn
  | stationResponse (source : Byte) (kind : Byte) (payload : List Byte)
  | relayResponse (source : Byte) (payload : List Byte)
  /-- `receiving`: a frame whose address character came within the timeout is still being received (R169). -/
  | dResponseTimeout (receiving : Bool)
  | unexpectedFrame
  | card (address : Byte) (number : BitVec 40)
  | tag (address : Byte) (number : BitVec 32)
  | temp (address : Byte) (t : BitVec 16) (quality : Byte)
  | keySetup (address arm compartment product : Byte) (preset : BitVec 24) (recipe : Byte)
  | keyStart (address arm : Byte)
  | keyStop (address arm : Byte)
  | keySuspend (address arm : Byte)
  | keyResume (address arm : Byte)
  | permissiveFall (i : Permissive)
  | estopFall
  | deadmanRelease
  | debounceStart (i : SafetyInput)
  | debounceExpiry (i : SafetyInput)
  | deadmanWarning
  | deadmanExpiry
  | meterAEdge (k : Fin 4)
  | meterBEdge (k : Fin 4)
  | gateWindowClose (k : Fin 4)
  | suspendStopTimeout (k : Fin 4)
  | stoppingTimeout (k : Fin 4)
  | stalenessExpiry (k : Fin 4)
  | lostTimerExpiry (k : Fin 4)
  | idleTimeout
  | authorisationDeadline
  | feedbackPulse (j : Fin 6)
  | injectionTimeout (j : Fin 6)
  | feedbackWindowClose (j : Fin 6)
  | dayRollover
  | scrubVisit (finding : Finding)
  | bayReset (source : ResetSource)
  /-- `kept`: whether VBAK kept retention; `findings`: what the scan of step 3 finds, in order (R190). -/
  | powerOn (pins : PinLevels) (kept : Bool) (findings : List Finding)
  | powerFail
  | meterFallingEdge (k : Fin 4) (c : Channel)
  | frameEndedByAddressCharacter (line : Line) (address : Byte)
  | payloadLengthOverMaximum (line : Line)
  | turnLastCharacterSent
  | brstRelease
  | bayClockStop
deriving DecidableEq, Repr

end Sys2Proof
end

