-- ==== Sys2Proof/Decode.lean ====
section
/-! DEFINITION. Decoding of the words of the table of operations and events. No row of the table gives bits, so no word
spells a command. -/

namespace Sys2Proof

/-- The command that a word spells by the table's bits: none, for no row gives bits. -/
def decodeTableWord (_nbits _w : Nat) : Option Instr := none

end Sys2Proof
end

