-- ==== Sys2Proof/Config.lean ====
section
/-! DEFINITION. What an implementation fixes and the spec does not give: opaque constants, so that no proof can see
their values. -/

namespace Sys2Proof.Config

/-- The verdict (row, column) that a DAMAGED COMPAT matrix reads as: R188 says it reads as empty, and no rule says
what an empty matrix is. FREE VALUE, log 9. -/
opaque damagedCompat : Nat → Nat → Bool

/-- How many retention words one scrub pass visits, less one: no rule gives the number (R189). FREE VALUE, log 10. -/
opaque lastRetentionWord : Nat

/-- The request-tag character of the n-th D-line frame: no rule gives it (R195). FREE VALUE, log 11. -/
opaque dFrameTag : Nat → Byte

/-- The ms between the end of a request and the begin of its reply beyond the least that R158 sets: no rule gives it
within R158's bounds. FREE VALUE, log 30. -/
opaque replyDelay : Nat → Nat

/-- What a field of so many bytes carries for a figure too large for it: R198 says it for counts of seconds and R196 for
the litres of a note, and no rule says it for another figure. FREE VALUE, log 17. -/
opaque overField : Nat → Int → Nat

/-- The deviation of a dose check whose expected quantity is 0, by the measured total: R125 holds the quantity to be above 0,
and a session record rewritten as read (R188) can make it 0. FREE VALUE, log 72. -/
opaque zeroExpected : Nat → Int

/-- The increment and the new remainder of a feedback pulse under a ppl_milli of 0, by the numerator: R122 divides by
ppl_milli, and a dose record rewritten as read (R188) can make it 0. FREE VALUE, log 73. -/
opaque zeroScale : Nat → Nat × Nat

end Sys2Proof.Config
end

