-- ==== Sys2Proof/Machine/Blocks.lean ====
section
/-! DEFINITION. The state of the UB4, block by block as Table 2 lists it. A timer is `none` while stopped and holds the
timebase reading of its expiry while it runs. -/

namespace Sys2Proof.Machine

/-! ### Events, verdicts, relay records, replies -/

/-- The event kinds with the fields of Table 10-6. -/
inductive Event
  | sessionOpened (number card tag : Nat) (source : Source) (quota : Nat)
  | sessionRefused (card tag : Nat) (reason : SessionReason) (serverReason : Nat)
  | sessionClosed (number : Nat) (reason : CloseReason) (lines : Nat)
  | cardPresented (card tag wait : Nat)
  | tagConfirmed (tag : Nat) (mismatch : Bool)
  | batchStarted (arm : Fin 4) (compartment : Fin 8) (code : Nat) (recipe : Option (Fin 16)) (preset total : Nat)
  | batchRefused (arm : Nat) (op : BatchOp) (source : StartSource) (reason : BatchReason)
  | batchEnded (arm : Fin 4) (compartment : Fin 8) (code : Nat) (reason : EndReason) (grossL standardL : Nat)
      (flags : BatchFlags) (overrun : Option Nat)
  | armSuspended (arm : Fin 4) (cause : SuspendCause) (deliveredL : Nat) (remainingL : Int)
  | armResumed (arm : Fin 4) (cause : Option SuspendCause)
  | permissiveChange (i : SafetyInput) (level : Bool) (chatter : Nat)
  | deadmanWarning (seconds : Nat)
  | faultRaised (c : FaultClass) (arm : Option (Fin 4)) (subject : Subject) (count : Nat) (response : ResponseMode)
      (drill : Bool)
  | faultCleared (c : FaultClass) (count : Nat)
  | injectorWait (arm : Fin 4) (position : Nat) (blockers : List (Fin 6))
  | doseAlarm (arm : Fin 4) (position : Nat) (injector : Fin 6) (expected measured : Nat) (deviation : Int)
  | noteReady (number : Nat) (reason : CloseReason) (lines flagged inUse : Nat)
  | noteQueueHigh (inUse filled : Nat)
  | linkState (state : Link)
  | deviceState (address : Byte) (role : Option Role) (arm : Option (Fin 4)) (state : StationState)
  | dayRollover (day : Nat)
  | tempStale (arm : Fin 4) (t : Int) (pastReady : Bool)
  | retentionLost
  | lost (count : Nat)
deriving DecidableEq, Repr

/-- An event record (R160): what happened and the bay clock when it was raised. -/
structure EventRec where
  event : Event
  clock : Nat
deriving DecidableEq, Repr

/-- A verdict waiting for a station (R170, Table 5-5). `arm` is the arm byte of the key record. -/
inductive Verdict
  | accept
  | refuse (reason : SessionReason)
  | stopArmsFirst
  | setupAccepted (arm : Byte) (preset : Nat) (clamped : Bool)
  | started (arm : Byte)
  | waiting (arm : Byte)
  | accepted (arm : Byte)
  | refused (arm : Byte) (reason : BatchReason)
  | notNow (arm : Byte)
deriving DecidableEq, Repr

/-- A relay record (R162): a forwarded copy or the outcome of a RELAY. -/
inductive RelayRec
  | copy (address : Byte) (role : Role) (record : List Byte)
  | outcome (tag address : Byte) (result : RelayOutcome) (payload : List Byte)
deriving DecidableEq, Repr

/-- A place of the relay-up queue (R162). -/
inductive RelayPlace
  | reserved (tag address : Byte)
  | filled (r : RelayRec)
deriving DecidableEq, Repr

/-- A relay waiting in the relay-down queue (R172). -/
structure Relay where
  address : Byte
  tag : Byte
  payload : List Byte
deriving DecidableEq, Repr

/-- What one reply slot carries (R159). -/
inductive SlotRec
  | event (r : EventRec)
  | relay (r : RelayRec)
deriving DecidableEq, Repr

/-- An owner's answer (R176). -/
structure Answer where
  code : AnswerCode
  detail : Nat
  data : List Byte
deriving DecidableEq, Repr

/-- The reply to the request in hand (R158, R159, R163). -/
structure Reply where
  kind : Byte
  tag : Byte
  source : BitVec 5
  answer : Answer
  slots : List SlotRec
  moreEvents : Bool
  moreRelay : Bool
  eventsLost : Bool
deriving DecidableEq, Repr

/-! ### The blocks -/

/-- The pins that are only read at certain steps. -/
structure Pins where
  straps : Straps
  /-- BRST asserted since its last release (R186). -/
  brst : Bool
deriving DecidableEq, Repr

/-- The tag record (R7). -/
structure TagRec where
  tag : Nat
  confirmed : Nat
deriving DecidableEq, Repr

/-- The pending presentation (R14); `vehicle` is the index check 2 of R12 found (log 5). -/
structure Presentation where
  card : Nat
  tag : Nat
  vehicle : Nat
  presented : Nat
  deadline : Nat
deriving DecidableEq, Repr

/-- The session unit. Retention: `inService`, `quotaDay`, `record`. -/
structure SessionBlk where
  inService : Bool
  quotaDay : Nat
  record : Option Session
  candidate : Option Nat
  tagRecord : Option TagRec
  chattered : Nat
  presentation : Option Presentation
  idleTimer : Option Nat
deriving DecidableEq, Repr

/-- One safety or deadman input (R28, R29). `level` is true for PERMITTED or PRESSED. -/
structure Input where
  pin : Bool
  level : Bool
  timer : Option Nat
  chatter : Nat
deriving DecidableEq, Repr

/-- The deadman (R34 to R36). `warned`: the warning of this run of the timer has been given. -/
structure Deadman where
  timer : Option Nat
  warned : Bool
  warn : Bool
  expired : Bool
  presses : Nat
deriving DecidableEq, Repr

/-- A fault record (Table 2-6), retention. -/
structure FaultRec where
  latch : Option Latch
  count : Nat
  firstArm : Option (Fin 4)
  firstTime : Option Nat
  lastTime : Option Nat
  armsNamed : BitVec 4
  armsLatched : BitVec 4
  drill : Bool
deriving DecidableEq, Repr

/-- The safety monitor; inputs in the order of Table 10-1, records in the order of Table 2-5. -/
structure SafetyBlk where
  inputs : Vector Input 4
  deadman : Deadman
  faults : Vector FaultRec 11
deriving DecidableEq, Repr

/-- A meter channel (chapter 3). `aCount`, `bCount`, `n` belong to the open window; `window` is its close. -/
structure Meter where
  running : Bool
  ppl : Nat
  seenA : Bool
  seenB : Bool
  aCount : Nat
  bCount : Nat
  n : Nat
  lastN : Nat
  lastA : Nat
  lastB : Nat
  q : Nat
  debt : Nat
  excess : Bool
  history : List Nat
  unauth : Nat
  unauthFlag : Bool
  discrepancies : Nat
  reverses : Nat
  window : Option Nat
deriving DecidableEq, Repr

/-- The temperature-in-use record (R69). -/
structure TempRec where
  state : TempState
  t : Int
  clamped : Bool
  accepted : Nat
  processed : Bool
deriving DecidableEq, Repr

/-- The volume engine's state for one arm (chapter 4). The ppl_milli it copies at a start is the channel's. -/
structure VolArm where
  curve : List CurvePoint
  factor : Option Nat
  temp : TempRec
  staleTimer : Option Nat
  lostTimer : Option Nat
  badSamples : Nat
  clamps : Nat
  overruns : Nat
  unauthRem : Nat
deriving DecidableEq, Repr

/-- An arm controller (chapter 5). `batch` holds the retained batch record. -/
structure Arm where
  state : ArmState
  batch : Option Batch
  history : List Nat
  noFlow : Nat
  stopTimer : Option Nat
  zeroCloses : Nat
deriving DecidableEq, Repr

/-- An injector's run state (Table 6-2). The injection fields describe the owner of the feedback window: `open_` while
its solenoid is driven; `owner` is the arm and dose whose running batch still holds its dose record. -/
structure Injector where
  state : InjState
  claimant : Option (Fin 4)
  misses : Nat
  remainder : Nat
  stray : Nat
  windowOpen : Bool
  windowTimer : Option Nat
  open_ : Bool
  timer : Option Nat
  stroke : Nat
  ppl : Nat
  measured : Nat
  owner : Option (Fin 4 × Nat)
deriving DecidableEq, Repr

/-- The additive unit: run states and the waiting list, oldest first (R112, R117). -/
structure AdditiveBlk where
  injectors : Vector Injector 6
  waiting : List (Fin 4)
deriving DecidableEq, Repr

/-- A totalizer with its damaged mark (R146, R147). -/
structure Totalizer where
  value : Nat
  damaged : Bool
deriving DecidableEq, Repr

/-- The custody store, retention but for `midnight`: a midnight passed whose rollover is still to be made (R184). -/
structure CustodyBlk where
  places : List Place
  counter : NoteCounter
  gross : Vector Totalizer 4
  standard : Vector Totalizer 4
  additive : Vector Totalizer 6
  clock : Nat
  phase : Nat
  midnight : Bool
deriving DecidableEq, Repr

/-- How far the reply to the request in hand has come (R155, R158): built at a timebase reading and still to be begun,
or being sent. -/
inductive ReplyPhase
  | none
  | built (at_ : Nat)
  | sending
deriving DecidableEq, Repr

/-- The U port (chapter 8). -/
structure UPort where
  address : BitVec 5
  speed : BitVec 2
  assembling : Bool
  inHand : Option Reply
  phase : ReplyPhase
  events : List EventRec
  lost : Nat
  relayUp : List RelayPlace
  firstClaim : SlotClass
  link : Link
  silence : Option Nat
  framing : Nat
  check : Nat
  incomplete : Nat
  overlapping : Nat
  resetAsked : Bool
  resetDue : Bool
deriving DecidableEq, Repr

/-- A D station as the port sees it (R167, R170); `carried` counts the verdicts the frame in flight carries. -/
structure Station where
  state : StationState
  misses : Nat
  verdicts : List Verdict
  carried : Nat
deriving DecidableEq, Repr

/-- What a turn sent (R169). -/
inductive TurnKind | poll | verdict | relay
deriving DecidableEq, Repr

/-- How far a turn has come: its frame is being sent; it waits for a response; its timeout has expired while a frame
that began in time is still being received. -/
inductive TurnPhase | sending | waiting | overdue
deriving DecidableEq, Repr

/-- A turn of the D line (R169) with the frame it sent: destination, kind and payload; `tag` is a free value (log 11). -/
structure Turn where
  kind : TurnKind
  address : Byte
  tag : Byte
  payload : List Byte
  phase : TurnPhase
  timer : Option Nat
deriving DecidableEq, Repr

/-- The D port (chapter 8). `passed`: a relay of this turn was disposed of without a frame, so that the turn passes to
the next choice of R169. -/
structure DPort where
  speed : BitVec 2
  stations : Vector Station 12
  relayDown : List Relay
  round : Nat
  cursor : Option (Fin 12)
  turn : Option Turn
  passed : Bool
  assembling : Bool
  framing : Nat
  check : Nat
  incomplete : Nat
  unexpected : Nat
  verdictDrop : Nat
  relayDrop : Nat
deriving DecidableEq, Repr

/-- The retention controller (R187, R190). `reads` is the MODEL's own: what retention's ECC reports on the words that
the next command's blocks read (log 46). -/
structure RetCtl where
  marker : Bool
  lastValid : Bool
  correctable : Nat
  overflow : Bool
  cursor : Nat
  passes : Nat
  reads : List Finding
deriving DecidableEq, Repr

end Sys2Proof.Machine
end

