-- ==== Sys2Proof/Machine/Values.lean ====
section
/-! DEFINITION. Cleared and power-on values, block by block. -/

namespace Sys2Proof.Machine

/-! ### Cleared table entries (R178) -/

/-- R1. -/
def emptyPermit : PermitEntry := ⟨0, .active, 0, 0, 0, 0, 0, [], 0⟩

/-- R3; the compartment count of an empty entry is 0. -/
def emptyVehicle : VehicleEntry := ⟨0, .active, 0, []⟩

/-- R63. -/
def emptyProduct : ProductEntry := ⟨0, 0, none⟩

/-- R113. -/
def emptyRecipe : RecipeEntry := ⟨[], 0, .stopArm⟩

/-- R111. -/
def emptyInjector : InjectorEntry := ⟨0, 0, 0, 0, 0, false⟩

/-- R81, Table 5-1. -/
def emptyArm : ArmEntry := ⟨false, 0, 0, [], 0, 0, 20, 8, 10, none⟩

/-- R166. -/
def emptyDevice : DeviceEntry := ⟨0, none, none, false⟩

/-- R5: the same product may follow itself, the other 240 verdicts are FORBIDDEN. -/
def clearedCompat : Vector (BitVec 16) 16 := Vector.ofFn fun r => BitVec.ofNat 16 (2 ^ r.val)

/-- The eleven classes in the order of Table 2-5. -/
def faultClasses : List FaultClass :=
  [.estop, .valve, .retention, .unauthFlow, .meterPulse, .meterReverse, .tempLost, .injector, .dose, .overrun,
    .deviceLost]

/-- The code of a class (Table 10-1). -/
def faultCode : FaultClass → Fin 11
  | .estop => 0 | .valve => 1 | .retention => 2 | .unauthFlow => 3 | .meterPulse => 4 | .meterReverse => 5
  | .tempLost => 6 | .injector => 7 | .dose => 8 | .overrun => 9 | .deviceLost => 10

/-- The default response of a class (Table 2-5, R37). -/
def defaultMode : FaultClass → ResponseMode
  | .estop | .valve | .retention | .unauthFlow => .stopBay
  | .meterPulse | .meterReverse => .stopArm
  | .tempLost | .injector | .overrun | .deviceLost => .report
  | .dose => .recipe

/-- R37: the default response with the mask clear. -/
def defaultPolicy (c : FaultClass) : PolicyEntry := ⟨defaultMode c, false⟩

/-- R37. -/
def clearedPolicies : Vector (Slot PolicyEntry) 11 :=
  Vector.ofFn fun i => ⟨defaultPolicy (faultClasses.getD i.val .estop), false⟩

/-- The defaults of Table 9-4. -/
def defaultBay : BayEntry where
  permitSource := .local_
  authorisationWait := 10
  tagFreshness := 120
  idleMinutes := 30
  unknownAllowed := false
  basis := .gross
  debounceMs := #v[100, 100, 100, 100]
  deadmanInterval := 0
  reverseAllowance := 20
  discrepancyLimit := 10
  unauthLimit := 2
  tRef := 1500
  minBatch := 100
  maxBatch := 40000
  linkSilence := 30
  dResponseMs := 20
  resumeInService := false

/-- Every table at its cleared value, no entry DAMAGED (R178, R191). -/
def clearedTables : Tables where
  permits := []
  vehicles := []
  compat := ⟨clearedCompat, false⟩
  products := []
  recipes := []
  injectors := []
  arms := []
  devices := []
  policies := clearedPolicies
  bay := ⟨defaultBay, false⟩

/-! ### Power-on values -/

/-- R7, R14, R22: the volatile part of the session unit. -/
def SessionBlk.loseVolatile (b : SessionBlk) : SessionBlk :=
  { b with candidate := none, tagRecord := none, chattered := 0, presentation := none, idleTimer := none }

/-- R30: accepted low, timer stopped, count 0; the pin is as it stands. -/
def Input.powerOn (pin : Bool) : Input := ⟨pin, false, none, 0⟩

/-- R34, R45. -/
def Deadman.powerOn : Deadman := ⟨none, false, false, false, 0⟩

/-- R38: the empty record. -/
def FaultRec.empty : FaultRec := ⟨none, 0, none, none, none, 0, 0, false⟩

/-- Table 3-5, stopped; the seen levels are those of the pins. -/
def Meter.powerOn (a b : Bool) : Meter where
  running := false
  ppl := 0
  seenA := a
  seenB := b
  aCount := 0
  bCount := 0
  n := 0
  lastN := 0
  lastA := 0
  lastB := 0
  q := 0
  debt := 0
  excess := false
  history := []
  unauth := 0
  unauthFlag := false
  discrepancies := 0
  reverses := 0
  window := none

/-- R69: ABSENT. -/
def TempRec.absent : TempRec := ⟨.absent, 0, false, 0, false⟩

/-- R80; the unauthorised-path remainder is 0 at power-on (R73). -/
def VolArm.powerOn : VolArm := ⟨[], none, TempRec.absent, none, none, 0, 0, 0, 0⟩

/-- R110, with the batch record that retention holds. -/
def Arm.powerOn (b : Option Batch) : Arm := ⟨.idle, b, [], 0, none, 0⟩

/-- R112. -/
def Injector.powerOn : Injector := ⟨.free, none, 0, 0, 0, false, none, false, none, 0, 0, 0, none⟩

/-- R112, R117. -/
def AdditiveBlk.powerOn : AdditiveBlk := ⟨Vector.replicate 6 Injector.powerOn, []⟩

/-- R146. -/
def Totalizer.zero : Totalizer := ⟨0, false⟩

/-- R150, R191: the custody store after a power-on that finds retention invalid. -/
def CustodyBlk.cleared : CustodyBlk :=
  ⟨[], .next 1, Vector.replicate 4 Totalizer.zero, Vector.replicate 4 Totalizer.zero,
    Vector.replicate 6 Totalizer.zero, 0, 0, false⟩

/-- Table 8-7, with the straps read (R152). -/
def UPort.powerOn (straps : Straps) : UPort where
  address := straps.sa
  speed := straps.usp
  assembling := false
  inHand := none
  phase := .none
  events := []
  lost := 0
  relayUp := []
  firstClaim := .event
  link := .standalone
  silence := none
  framing := 0
  check := 0
  incomplete := 0
  overlapping := 0
  resetAsked := false
  resetDue := false

/-- R167: the state of a station whose entry is empty or not. -/
def Station.powerOn (present : Bool) : Station := ⟨if present then .silent else .absent, 0, [], 0⟩

/-- Table 8-7, with the straps read and an empty directory. -/
def DPort.powerOn (straps : Straps) : DPort where
  speed := straps.dsp
  stations := Vector.replicate 12 (Station.powerOn false)
  relayDown := []
  round := 0
  cursor := none
  turn := none
  passed := false
  assembling := false
  framing := 0
  check := 0
  incomplete := 0
  unexpected := 0
  verdictDrop := 0
  relayDrop := 0

/-- R187. -/
def RetCtl.powerOn (valid : Bool) : RetCtl := ⟨true, valid, 0, false, 0, 0, []⟩

end Sys2Proof.Machine
end

