-- ==== Sys2Proof/Machine/State.lean ====
section
/-! DEFINITION. The state of the machine, the reasons it can stop, and the state right after reset. -/

namespace Sys2Proof.Machine

/-- No meaning ends in a fault: every rule gives an answer, a counted discard or no effect (see NOTES.md, Stops). -/
inductive Fault
deriving DecidableEq, Repr

/-- Reasons a command can be refused by the model. -/
inductive Refusal
  /-- Raised by `exec` alone, for a row without a meaning; safe: the machine stops. No arm raises it now. -/
  | notModelled (mnemonic : String)
deriving DecidableEq, Repr

/-- The machine. -/
structure State where
  /-- Main supply is present and start-up is done (R190). -/
  powered : Bool
  /-- The part's timebase, in ms. -/
  now : Nat
  /-- Straps and BRST (R152, R186). -/
  pins : Pins
  /-- The ten tables, retention (Table 9-2). -/
  tables : Tables
  /-- The session unit (chapter 1). -/
  session : SessionBlk
  /-- The safety monitor (chapter 2). -/
  safety : SafetyBlk
  /-- The meter channels (chapter 3). -/
  meters : Vector Meter 4
  /-- The volume engine, per arm (chapter 4). -/
  volumes : Vector VolArm 4
  /-- The arm controllers (chapter 5). -/
  arms : Vector Arm 4
  /-- The additive unit (chapter 6). -/
  additive : AdditiveBlk
  /-- The custody store (chapter 7). -/
  custody : CustodyBlk
  /-- The U port (chapter 8). -/
  uport : UPort
  /-- The D port (chapter 8). -/
  dport : DPort
  /-- The retention controller (chapter 9). -/
  retention : RetCtl
  /-- How many free values have been drawn; the MODEL's own field (log 3). -/
  freeUsed : Nat
  /-- The commands waiting, first in first out; the MODEL's own field (log 1). -/
  pending : List Instr
deriving DecidableEq, Repr

/-! ### One update per field -/

/-- Replace `powered`. -/
def State.withPowered (s : State) (x : Bool) : State := { s with powered := x }

/-- Replace `now`. -/
def State.withNow (s : State) (x : Nat) : State := { s with now := x }

/-- Replace `pins`. -/
def State.withPins (s : State) (x : Pins) : State := { s with pins := x }

/-- Replace `tables`. -/
def State.withTables (s : State) (x : Tables) : State := { s with tables := x }

/-- Replace `session`. -/
def State.withSession (s : State) (x : SessionBlk) : State := { s with session := x }

/-- Replace `safety`. -/
def State.withSafety (s : State) (x : SafetyBlk) : State := { s with safety := x }

/-- Replace `meters`. -/
def State.withMeters (s : State) (x : Vector Meter 4) : State := { s with meters := x }

/-- Replace `volumes`. -/
def State.withVolumes (s : State) (x : Vector VolArm 4) : State := { s with volumes := x }

/-- Replace `arms`. -/
def State.withArms (s : State) (x : Vector Arm 4) : State := { s with arms := x }

/-- Replace `additive`. -/
def State.withAdditive (s : State) (x : AdditiveBlk) : State := { s with additive := x }

/-- Replace `custody`. -/
def State.withCustody (s : State) (x : CustodyBlk) : State := { s with custody := x }

/-- Replace `uport`. -/
def State.withUport (s : State) (x : UPort) : State := { s with uport := x }

/-- Replace `dport`. -/
def State.withDport (s : State) (x : DPort) : State := { s with dport := x }

/-- Replace `retention`. -/
def State.withRetention (s : State) (x : RetCtl) : State := { s with retention := x }

/-- Replace `freeUsed`. -/
def State.withFreeUsed (s : State) (x : Nat) : State := { s with freeUsed := x }

/-- Replace `pending`. -/
def State.withPending (s : State) (x : List Instr) : State := { s with pending := x }

/-- The straps a board without any strap but SA0 reads as. DESIGN CHOICE (log 4): the spec leaves them to the board. -/
def State.resetStraps : Straps := ⟨1, 0, 0⟩

/-- The machine right after the start-up of a power-on that finds retention invalid (R190, R191), the only reset for
which the rules give every retained value. RETENTION_LOST is queued (R191); the inputs stand low (log 4). -/
def State.reset : State where
  powered := true
  now := 0
  pins := ⟨State.resetStraps, false⟩
  tables := clearedTables
  session := ⟨false, 0, none, none, none, 0, none, none⟩
  safety := ⟨Vector.replicate 4 (Input.powerOn false), Deadman.powerOn, Vector.replicate 11 FaultRec.empty⟩
  meters := Vector.replicate 4 (Meter.powerOn false false)
  volumes := Vector.replicate 4 VolArm.powerOn
  arms := Vector.replicate 4 (Arm.powerOn none)
  additive := AdditiveBlk.powerOn
  custody := CustodyBlk.cleared
  uport := { UPort.powerOn State.resetStraps with events := [⟨.retentionLost, 0⟩] }
  dport := DPort.powerOn State.resetStraps
  retention := RetCtl.powerOn false
  freeUsed := 0
  pending := []

end Sys2Proof.Machine
end

