-- ==== Sys2Proof/Machine/Codes.lean ====
section
/-! DEFINITION. The codes of Table 10-1. -/

namespace Sys2Proof.Machine

def answerCode : AnswerCode → Nat
  | .accepted => 0 | .refused => 1 | .unknownRequest => 2 | .badLength => 3 | .badTable => 4 | .badIndex => 5
  | .badValue => 6 | .inUse => 7 | .wrongState => 8 | .queueFull => 9 | .locked => 10 | .noSuchNote => 11
  | .noSuchStation => 12 | .late => 13 | .damaged => 14

def sessionReasonCode : SessionReason → Nat
  | .bayNotReady => 1 | .bayBusy => 2 | .cardUnknown => 3 | .permitSuspended => 4 | .permitLocked => 5
  | .permitExpired => 6 | .noVehicle => 7 | .vehicleUnknown => 8 | .vehicleBarred => 9 | .vehicleExpired => 10
  | .vehicleNotAllowed => 11 | .noteQueueFull => 12 | .serverDenied => 13 | .noAnswer => 14

def batchReasonCode : BatchReason → Nat
  | .noSession => 1 | .armDisabled => 2 | .armBusy => 3 | .armFaulted => 4 | .compartmentUnknown => 5
  | .compartmentClaimed => 6 | .productNotOnArm => 7 | .productNotPermitted => 8 | .incompatibleLastProduct => 9
  | .belowMinimum => 10 | .quotaExhausted => 11 | .tempMissing => 12 | .permissiveOpen => 13 | .batchLimit => 14
  | .recipeUnavailable => 15 | .doseRateInvalid => 16

def endReasonCode : EndReason → Nat
  | .complete => 1 | .stopped => 2 | .capacity => 3 | .estop => 4 | .fault => 5 | .sessionAbort => 6 | .reset => 7
  | .powerLoss => 8

def closeReasonCode : CloseReason → Nat
  | .orderly => 1 | .idleTimeout => 2 | .abort => 3 | .fault => 4 | .reset => 5 | .powerLoss => 6

def causeCode : SuspendCause → Nat
  | .ground => 1 | .overfill => 2 | .deadman => 3 | .noFlow => 4 | .vehicleChange => 5 | .request => 6

def opCode : BatchOp → Nat
  | .setup => 1 | .start => 2 | .stop => 3 | .suspend => 4 | .resume => 5

def bayStateCode : BayState → Nat
  | .outOfService => 0 | .idle => 1 | .session => 2 | .closing => 3 | .faulted => 4

def armStateCode : ArmState → Nat
  | .idle => 0 | .ready => 1 | .waitInjector => 2 | .lowStart => 3 | .full => 4 | .slowdown => 5 | .stopping => 6
  | .suspended => 7

def modeCode : ResponseMode → Nat
  | .report => 0 | .stopArm => 1 | .stopBay => 2 | .recipe => 3

def inputCode : SafetyInput → Nat
  | .ground => 0 | .overfill => 1 | .estop => 2 | .deadman => 3

def permitStateCode : PermitState → Nat
  | .active => 0 | .suspended => 1 | .lockedOut => 2

def vehicleStateCode : VehicleState → Nat
  | .active => 0 | .barred => 1

def sourceCode : Source → Nat
  | .local_ => 0 | .server => 1

def basisCode : Basis → Nat
  | .gross => 0 | .standard => 1

def placeStateCode : PlaceState → Nat
  | .reserved => 1 | .ready => 2 | .damaged => 3

def doseVerdictCode : DoseVerdict → Nat
  | .treated => 1 | .under => 2 | .over => 3 | .untreated => 4

def actionCode : FailureAction → Nat
  | .stopArm => 0 | .continueUntreated => 1

def roleCode : Role → Nat
  | .cardReader => 1 | .tagReader => 2 | .tempXmtr => 3 | .keypad => 4

def stationStateCode : StationState → Nat
  | .absent => 0 | .online => 1 | .silent => 2 | .offline => 3

def linkCode : Link → Nat
  | .online => 1 | .standalone => 4

def relayOutcomeCode : RelayOutcome → Nat
  | .replied => 1 | .noResponse => 2 | .noSuchStation => 3 | .locked => 4

def slotClassCode : SlotClass → Nat
  | .event => 1 | .relay => 2

def injStateCode : InjState → Nat
  | .free => 0 | .claimedIdle => 1 | .injecting => 2

def tempStateCode : TempState → Nat
  | .absent => 0 | .fresh => 1 | .stale => 2

def valveCode : Valve → Nat
  | .closed => 0 | .low => 1 | .high => 2

def phaseCode : Phase → Nat
  | .setUp => 1 | .started => 2

def tableCode : TableId → Nat
  | .permit => 0 | .vehicle => 1 | .compat => 2 | .product => 3 | .recipe => 4 | .injector => 5 | .arm => 6
  | .device => 7 | .faultPolicy => 8 | .bay => 9

/-- The table a table identifier names, if any (Table 9-2). -/
def tableOf : Nat → Option TableId
  | 0 => some .permit | 1 => some .vehicle | 2 => some .compat | 3 => some .product | 4 => some .recipe
  | 5 => some .injector | 6 => some .arm | 7 => some .device | 8 => some .faultPolicy | 9 => some .bay | _ => none

/-- The fault class a code names, if any. -/
def faultOf (n : Nat) : Option FaultClass := faultClasses[n]?

/-- A flag as a byte's value. -/
def bit (b : Bool) : Nat := if b then 1 else 0

/-- Batch line flags as the bits of Table 10-1. -/
def flagBits (f : BatchFlags) : Nat :=
  bit f.presetClamped + 2 * bit f.tempHeld + 4 * bit f.tempClamped + 8 * bit f.meterFault + 16 * bit f.doseFault
    + 32 * bit f.injectorLost

/-- Whether any flag is set. -/
def anyFlag (f : BatchFlags) : Bool := flagBits f != 0

/-- No flag set. -/
def noFlags : BatchFlags := ⟨false, false, false, false, false, false⟩

/-- A latch as a response mode. -/
def latchMode : Latch → ResponseMode
  | .stopArm => .stopArm | .stopBay => .stopBay

/-- An absent optional index is coded 255 (R192). -/
def optFin (o : Option (Fin n)) : Nat :=
  match o with
  | some k => k.val
  | none => 255

/-- A start source as BATCH_REFUSED carries it: 0 for the server, else the keypad's D address (Table 10-6). -/
def startSourceCode : StartSource → Nat
  | .server => 0
  | .keypad a => a.toNat

/-- Subject kind and subject of FAULT_RAISED (Table 10-1). Of an absent subject the subject byte is 0 (DESIGN CHOICE, log
81). -/
def subjectCodes : Subject → Nat × Nat
  | .none => (0, 0)
  | .injector j => (1, j.val)
  | .device a => (2, a.toNat)
  | .retention i => (3, i)

end Sys2Proof.Machine
end

