-- ==== Sys2Proof/Machine/Bytes.lean ====
section
/-! DEFINITION. Byte order, the frame check, frames, and the slots of a reply (R154, R192, R194). -/

namespace Sys2Proof.Machine

/-- `n` as `w` bytes, most significant first (R192); higher bits are dropped. -/
def be : (w : Nat) → (n : Nat) → List Byte
  | 0, _ => []
  | w + 1, n => BitVec.ofNat 8 (n / 256 ^ w) :: be w n

/-- The number that bytes spell, most significant first (R192). -/
def ofBe (l : List Byte) : Nat := l.foldl (fun n b => n * 256 + b.toNat) 0

/-- A signed figure in `w` bytes of two's complement (R192). -/
def beInt (w : Nat) (i : Int) : List Byte := be w (i % (256 ^ w : Nat)).toNat

/-- A figure in `w` bytes; one too large for them is a free value (log 17). -/
def beFig (w n : Nat) : List Byte := if n < 256 ^ w then be w n else be w (Config.overField w n)

/-- A signed figure in `w` bytes; one out of their range is a free value (log 17). -/
def beIntFig (w : Nat) (i : Int) : List Byte :=
  if -(256 ^ w : Nat) ≤ 2 * i ∧ 2 * i < (256 ^ w : Nat) then beInt w i else be w (Config.overField w i)

/-- The signed value of two bytes (R192). -/
def int16 (t : BitVec 16) : Int := t.toInt

/-- A count of seconds too large for its field is sent at the field's largest value (R198). -/
def beSat (w n : Nat) : List Byte := be w (min n (256 ^ w - 1))

/-- The `w` bytes at offset `at_` of a payload, as a number. -/
def field (l : List Byte) (at_ w : Nat) : Nat := ofBe ((l.drop at_).take w)

/-- `l` cut or filled with zeros to `w` bytes. -/
def pad (w : Nat) (l : List Byte) : List Byte := (l ++ List.replicate w 0).take w

/-- One bit through the check register of R154: the generator x¹⁶ + x¹² + x⁵ + 1. -/
def crcShift (r : BitVec 16) : BitVec 16 := if r.msb then (r <<< 1) ^^^ 0x1021 else r <<< 1

/-- One character through the check register, most significant bit first (R154). -/
def crcByte (r : BitVec 16) (b : Byte) : BitVec 16 :=
  (List.range 8).foldl (fun x _ => crcShift x) (r ^^^ (b.zeroExtend 16 <<< 8))

/-- The check of R154: the register starts at 65,535 and its final value is sent unchanged. -/
def crc (l : List Byte) : BitVec 16 := l.foldl crcByte 0xFFFF

/-- The frame of Table 10-2: the check covers every character after the address character. -/
def frameBytes (dest source kind tag : Byte) (payload : List Byte) : List Byte :=
  let body := source :: BitVec.ofNat 8 payload.length :: kind :: tag :: payload
  dest :: (body ++ be 2 (crc body).toNat)

/-- The kind and the fields of an event record, in the order of Table 10-6. A figure of a record rewritten as read (R188)
may be too large for its field (log 17). -/
def eventFields : Event → Nat × List Byte
  | .sessionOpened n c t s q => (1, beFig 4 n ++ be 5 c ++ be 4 t ++ be 1 (sourceCode s) ++ be 3 q)
  | .sessionRefused c t r v => (2, be 5 c ++ be 4 t ++ be 1 (sessionReasonCode r) ++ be 1 v)
  | .sessionClosed n r l => (3, beFig 4 n ++ be 1 (closeReasonCode r) ++ beFig 1 l)
  | .cardPresented c t w => (4, be 5 c ++ be 4 t ++ be 1 w)
  | .tagConfirmed t m => (5, be 4 t ++ be 1 (bit m))
  | .batchStarted k c p r v t =>
      (6, be 1 k.val ++ be 1 (c.val + 1) ++ beFig 2 p ++ be 1 (optFin r) ++ beFig 3 v ++ beFig 8 t)
  | .batchRefused k o s r =>
      (7, be 1 k ++ be 1 (opCode o) ++ be 1 (startSourceCode s) ++ be 1 (batchReasonCode r))
  | .batchEnded k c p r g s f o =>
      (8, be 1 k.val ++ be 1 (c.val + 1) ++ beFig 2 p ++ be 1 (endReasonCode r) ++ beFig 3 g ++ beFig 3 s
        ++ be 2 (flagBits f) ++ match o with
          | some n => beFig 4 n
          | none => be 4 0xFFFFFFFF)
  | .armSuspended k c d r => (9, be 1 k.val ++ be 1 (causeCode c) ++ beFig 3 d ++ beIntFig 4 r)
  | .armResumed k c => (10, be 1 k.val ++ be 1 ((c.map causeCode).getD 0))
  | .permissiveChange i l n => (11, be 1 (inputCode i) ++ be 1 (bit l) ++ be 2 n)
  | .deadmanWarning n => (12, be 1 n)
  | .faultRaised c k s n m d =>
      (13, be 1 (faultCode c).val ++ be 1 (optFin k) ++ be 1 (subjectCodes s).1 ++ be 1 (subjectCodes s).2
        ++ be 1 n ++ be 1 (modeCode m) ++ be 1 (bit d))
  | .faultCleared c n => (14, be 1 (faultCode c).val ++ be 1 n)
  | .injectorWait k p b => (15, be 1 k.val ++ be 1 p ++ be 1 (b.foldl (fun m j => m ||| 2 ^ j.val) 0))
  | .doseAlarm k p j e m d => (16, be 1 k.val ++ be 1 p ++ be 1 j.val ++ beFig 4 e ++ beFig 4 m ++ beIntFig 2 d)
  | .noteReady n r l f u => (17, beFig 4 n ++ be 1 (closeReasonCode r) ++ beFig 1 l ++ beFig 1 f ++ be 1 u)
  | .noteQueueHigh u f => (18, be 1 u ++ be 1 f)
  | .linkState l => (19, be 1 0 ++ be 1 255 ++ be 1 255 ++ be 1 (linkCode l))
  | .deviceState a r k st =>
      (19, [a] ++ be 1 ((r.map roleCode).getD 255) ++ be 1 (optFin k) ++ be 1 (stationStateCode st))
  | .dayRollover d => (20, beFig 2 d)
  | .tempStale k t p => (21, be 1 k.val ++ beInt 2 t ++ be 1 (bit p))
  | .retentionLost => (22, [])
  | .lost n => (23, be 1 n)

/-- An event record in its slot (Table 10-5). -/
def eventSlot (r : EventRec) : List Byte :=
  let f := eventFields r.event
  pad 56 (be 1 1 ++ be 1 f.1 ++ beFig 5 r.clock ++ be 1 f.2.length ++ f.2)

/-- A relay record in its slot (Table 10-5). -/
def relaySlot : RelayRec → List Byte
  | .copy a role rec =>
      pad 56 (be 1 2 ++ be 1 1 ++ [a] ++ be 1 (roleCode role) ++ be 1 0 ++ be 1 rec.length ++ rec)
  | .outcome t a o p =>
      pad 56 (be 1 2 ++ be 1 2 ++ [a] ++ be 1 (relayOutcomeCode o) ++ [t] ++ be 1 p.length ++ p)

/-- What a slot carries, as bytes. -/
def slotBytes : SlotRec → List Byte
  | .event r => eventSlot r
  | .relay r => relaySlot r

/-- The payload of a reply (R159, R194): answer header, answer data, slots. -/
def replyPayload (r : Reply) : List Byte :=
  be 1 (answerCode r.answer.code) ++ be 1 r.answer.detail ++ be 1 r.slots.length
    ++ be 1 (bit r.moreEvents + 2 * bit r.moreRelay + 4 * bit r.eventsLost)
    ++ r.answer.data ++ (r.slots.map slotBytes).flatten

/-- The reply frame (R158): destination 0, the UB4's address as source, the request's kind and tag. -/
def replyFrame (r : Reply) : List Byte :=
  frameBytes 0 (r.source.zeroExtend 8) r.kind r.tag (replyPayload r)

/-- The frame a turn of the D line sends: source 0, the line master (R152, R195). -/
def turnFrame (t : Turn) : List Byte :=
  frameBytes t.address 0 (match t.kind with | .poll => 0x40 | .verdict => 0x41 | .relay => 0x42) t.tag t.payload

end Sys2Proof.Machine
end

