-- ==== Sys2Proof/Machine/Operands.lean ====
section
/-! DEFINITION. The operands a request or a key record carries in its bytes (R192, R193), and the list of the indices
of each fixed collection. -/

namespace Sys2Proof.Machine

/-- The four arms in arm order. -/
def armIxs : List (Fin 4) := [0, 1, 2, 3]

/-- The six injectors in index order. -/
def injIxs : List (Fin 6) := [0, 1, 2, 3, 4, 5]

/-- The twelve directory indices in index order. -/
def deviceIxs : List (Fin 12) := [0, 1, 2, 3, 4, 5, 6, 7, 8, 9, 10, 11]

/-- An index in range. -/
def finOf (m n : Nat) : Option (Fin m) := if h : n < m then some ⟨n, h⟩ else none

/-- An optional index: a byte below `m` names one, 255 names none (R192), another names nothing valid. -/
inductive OptField (m : Nat)
  | named (k : Fin m)
  | absent
  | invalid
deriving DecidableEq, Repr

/-- An optional index coded in one byte (R192). -/
def optField (m n : Nat) : OptField m :=
  match finOf m n with
  | some k => .named k
  | none => if n = 255 then .absent else .invalid

/-- A flag coded 0 or 1. -/
def flagOf : Nat → Option Bool
  | 0 => some false
  | 1 => some true
  | _ => none

/-- The fields of a setup, from a BATCH_SETUP request or a KEY record (Tables 10-3, 10-8). `none` names none. -/
structure SetupFields where
  compartment : Fin 8
  product : Option (Fin 16)
  preset : Nat
  recipe : Option (Fin 16)
deriving DecidableEq, Repr

/-- A compartment number 1-8 as an index. -/
def compartmentOf (n : Nat) : Option (Fin 8) := if n = 0 then none else finOf 8 (n - 1)

/-- The fields of a BATCH_SETUP payload after its arm; none where one lies outside its range (R86). -/
def setupFields (p : List Byte) : Option SetupFields :=
  match compartmentOf (field p 1 1), optField 16 (field p 2 1), optField 16 (field p 6 1) with
  | some c, .named i, .named r => if field p 3 3 ≤ 999999 then some ⟨c, some i, field p 3 3, some r⟩ else none
  | some c, .named i, .absent => if field p 3 3 ≤ 999999 then some ⟨c, some i, field p 3 3, none⟩ else none
  | some c, .absent, .named r => if field p 3 3 ≤ 999999 then some ⟨c, none, field p 3 3, some r⟩ else none
  | some c, .absent, .absent => if field p 3 3 ≤ 999999 then some ⟨c, none, field p 3 3, none⟩ else none
  | _, _, _ => none

end Sys2Proof.Machine
end

