-- ==== Sys2Proof/Machine/TableOps.lean ====
section
/-! DEFINITION. Reading and writing table entries: the sparse form of a table, and what a DAMAGED entry reads as
(R188). -/

namespace Sys2Proof.Machine

/-- An entry's stored slot; an unlisted index holds the cleared entry. -/
def tabGet (empty : α) : Tab α → Nat → Slot α
  | [], _ => ⟨empty, false⟩
  | (j, x) :: r, i => if j = i then x else tabGet empty r i

/-- Put `x` before `r` unless it is the cleared entry. -/
def tabCons [DecidableEq α] (empty : α) (i : Nat) (x : Slot α) (r : Tab α) : Tab α :=
  if x = ⟨empty, false⟩ then r else (i, x) :: r

/-- Replace an entry's slot, keeping the canonical form. -/
def tabSet [DecidableEq α] (empty : α) : Tab α → Nat → Slot α → Tab α
  | [], i, x => tabCons empty i x []
  | (j, y) :: r, i, x =>
    if i < j then tabCons empty i x ((j, y) :: r)
    else if i = j then tabCons empty i x r
    else (j, y) :: tabSet empty r i x

/-- Change every undamaged listed entry (R20: a DAMAGED entry keeps its words). -/
def tabMap [DecidableEq α] (empty : α) (f : α → α) (t : Tab α) : Tab α :=
  (t.map fun p => (p.1, if p.2.damaged then p.2 else ⟨f p.2.entry, false⟩)).filter fun p => p.2 != ⟨empty, false⟩

/-- The canonical form: indices strictly rising, no entry equal to the cleared one. -/
def tabWf [DecidableEq α] (empty : α) (t : Tab α) : Bool :=
  decide ((t.map Prod.fst).Pairwise (· < ·)) && t.all fun p => p.2 != ⟨empty, false⟩

/-- What an entry reads as: a DAMAGED entry reads as empty (R188). -/
def tabRead (empty : α) (t : Tab α) (i : Nat) : α :=
  let x := tabGet empty t i
  if x.damaged then empty else x.entry

/-- The first index whose entry, as read, satisfies `p`; `p` refuses the empty entry. -/
def tabFind (p : α → Bool) : Tab α → Option Nat
  | [] => none
  | (i, x) :: r => if !x.damaged && p x.entry then some i else tabFind p r

/-- Whether an entry other than `i`, as read, satisfies `p` (R177: a DAMAGED entry counts as empty). -/
def tabOther (p : α → Bool) (t : Tab α) (i : Nat) : Bool :=
  t.any fun e => e.1 != i && !e.2.damaged && p e.2.entry

/-! ### Entries as read -/

def State.permit (s : State) (i : Nat) : PermitEntry := tabRead emptyPermit s.tables.permits i
def State.vehicle (s : State) (i : Nat) : VehicleEntry := tabRead emptyVehicle s.tables.vehicles i
def State.product (s : State) (i : Fin 16) : ProductEntry := tabRead emptyProduct s.tables.products i.val
def State.recipe (s : State) (i : Fin 16) : RecipeEntry := tabRead emptyRecipe s.tables.recipes i.val
def State.injEntry (s : State) (j : Fin 6) : InjectorEntry := tabRead emptyInjector s.tables.injectors j.val
def State.armEntry (s : State) (k : Fin 4) : ArmEntry := tabRead emptyArm s.tables.arms k.val
def State.device (s : State) (i : Fin 12) : DeviceEntry := tabRead emptyDevice s.tables.devices i.val

/-- The bay parameters as read: a DAMAGED BAY entry reads as its defaults (R188). -/
def State.bay (s : State) : BayEntry := if s.tables.bay.damaged then defaultBay else s.tables.bay.entry

/-- A policy as read: a DAMAGED entry reads as the class's default with its mask clear (R188). -/
def State.policy (s : State) (c : FaultClass) : PolicyEntry :=
  let x := Vec.get s.tables.policies (faultCode c)
  if x.damaged then defaultPolicy c else x.entry

/-- The verdict of the compatibility matrix (R5); a DAMAGED matrix gives a free value (log 9). -/
def State.compatVerdict (s : State) (row col : Fin 16) : Bool :=
  if s.tables.compat.damaged then Config.damagedCompat row.val col.val
  else (Vec.get s.tables.compat.entry row).getLsbD col.val

/-- The permit entry holding a card: a card number outside 1-9,999,999,999 matches none (R13). -/
def State.findPermit (s : State) (card : Nat) : Option Nat :=
  if 1 ≤ card ∧ card ≤ 9999999999 then tabFind (fun e => e.card == card) s.tables.permits else none

/-- The vehicle entry holding a tag; tag 0 marks an empty entry (R3). -/
def State.findVehicle (s : State) (tag : Nat) : Option Nat :=
  if tag = 0 then none else tabFind (fun e => e.tag == tag) s.tables.vehicles

/-- The directory entry holding a D address (R166); address 0 marks an empty entry. -/
def State.findDevice (s : State) (a : Byte) : Option (Fin 12) :=
  deviceIxs.find? fun i => (s.device i).address == a && a != 0

/-- The card reader's, or the tag reader's, directory entry. -/
def State.findRole (s : State) (r : Role) : Option (Fin 12) :=
  deviceIxs.find? fun i => (s.device i).role == some r && (s.device i).address != 0

/-! ### Entries as written by the part -/

/-- Change a permit entry as the part does (R11, R16, R19); a DAMAGED entry keeps its words. -/
def State.setPermit (s : State) (i : Nat) (f : PermitEntry → PermitEntry) : State :=
  let x := tabGet emptyPermit s.tables.permits i
  if x.damaged then s
  else s.withTables { s.tables with permits := tabSet emptyPermit s.tables.permits i ⟨f x.entry, false⟩ }

/-- Write a compartment's last product (R4); a DAMAGED entry keeps its words. -/
def State.setLastProduct (s : State) (i : Nat) (c : Fin 8) (p : Fin 16) : State :=
  let x := tabGet emptyVehicle s.tables.vehicles i
  let comps := x.entry.compartments.modify c.val fun k => { k with last := some p }
  let y : Slot VehicleEntry := ⟨{ x.entry with compartments := comps }, false⟩
  if x.damaged then s
  else s.withTables { s.tables with vehicles := tabSet emptyVehicle s.tables.vehicles i y }

/-- Take an injector's entry out of service (R124); a DAMAGED entry keeps its words. -/
def State.outOfService (s : State) (j : Fin 6) : State :=
  let x := tabGet emptyInjector s.tables.injectors j.val
  let y : Slot InjectorEntry := ⟨{ x.entry with inService := false }, false⟩
  if x.damaged then s
  else s.withTables { s.tables with injectors := tabSet emptyInjector s.tables.injectors j.val y }

end Sys2Proof.Machine
end

