-- ==== Sys2Proof/Machine/Flags.lean ====
section
/-! DEFINITION. The conditions the rules test, each derived from the state: bay state, arm states, permissives,
latches, freshness, outputs. -/

namespace Sys2Proof

/-- A permissive as a safety input. -/
def Permissive.input : Permissive → SafetyInput
  | .ground => .ground | .overfill => .overfill

/-- The flow states (chapter 5.2). -/
def ArmState.flowing : ArmState → Bool
  | .lowStart | .full | .slowdown => true
  | .idle | .ready | .waitInjector | .stopping | .suspended => false

/-- A running arm: in a flow state, SUSPENDED or STOPPING (chapter 5.2); its batch is past READY and is credited with
the window increments (R57). -/
def ArmState.running : ArmState → Bool
  | .lowStart | .full | .slowdown | .stopping | .suspended => true
  | .idle | .ready | .waitInjector => false

/-- The valve command of Table 5-3. -/
def ArmState.valve : ArmState → Valve
  | .lowStart | .slowdown => .low
  | .full => .high
  | .idle | .ready | .waitInjector | .stopping | .suspended => .closed

/-- Delivered (chapter 5.2): gross or standard mL by the batch's copy of the preset basis. -/
def Batch.delivered (b : Batch) : Nat := if b.basis = .gross then b.gross else b.standard

/-- Remaining (chapter 5.2), negative once the preset is passed. -/
def Batch.remaining (b : Batch) : Int := (b.preset * 1000 : Nat) - (b.delivered : Int)

end Sys2Proof

namespace Sys2Proof.Machine

def State.arm (s : State) (k : Fin 4) : Arm := Vec.get s.arms k
def State.meter (s : State) (k : Fin 4) : Meter := Vec.get s.meters k
def State.vol (s : State) (k : Fin 4) : VolArm := Vec.get s.volumes k
def State.inj (s : State) (j : Fin 6) : Injector := Vec.get s.additive.injectors j
def State.station (s : State) (i : Fin 12) : Station := Vec.get s.dport.stations i
def State.fault (s : State) (c : FaultClass) : FaultRec := Vec.get s.safety.faults (faultCode c)

/-- The index of a safety input. -/
def inputIx : SafetyInput → Fin 4
  | .ground => 0 | .overfill => 1 | .estop => 2 | .deadman => 3

def State.input (s : State) (i : SafetyInput) : Input := Vec.get s.safety.inputs (inputIx i)

/-- The valve command of an arm (R84). -/
def State.valve (s : State) (k : Fin 4) : Valve := (s.arm k).state.valve

/-- VLOk (R84); a part without supply drives nothing. -/
def State.vlo (s : State) (k : Fin 4) : Bool := s.powered && s.valve k != .closed

/-- VHIk (R84). -/
def State.vhi (s : State) (k : Fin 4) : Bool := s.powered && s.valve k == .high

/-- INJk (R112). -/
def State.injOut (s : State) (j : Fin 6) : Bool := s.powered && (s.inj j).state == .injecting

/-- DDE (R155): asserted while a turn's frame is being sent. -/
def State.dde (s : State) : Bool :=
  match s.dport.turn with
  | some t => t.phase == .sending
  | none => false

/-- UDE (R155): asserted while the reply to the request in hand is being sent. -/
def State.ude (s : State) : Bool := s.uport.inHand.isSome && s.uport.phase == .sending

def State.anyFlowing (s : State) : Bool := armIxs.any fun k => (s.arm k).state.flowing

/-- Every arm is IDLE. -/
def State.allIdle (s : State) : Bool := armIxs.all fun k => (s.arm k).state == .idle

/-- Every arm is IDLE, READY or WAIT_INJECTOR (R21). -/
def State.noneRunning (s : State) : Bool := armIxs.all fun k => !(s.arm k).state.running

/-- A class is latched with stored response STOP_BAY (R9, R38). -/
def State.stopBayLatched (s : State) : Bool := faultClasses.any fun c => (s.fault c).latch == some .stopBay

/-- The bay state (R9, Table 1-4): the first line that holds. -/
def State.bayState (s : State) : BayState :=
  match s.session.record with
  | some r => if r.closing.isSome then .closing else .session
  | none =>
    if s.stopBayLatched then .faulted
    else if !s.session.inService then .outOfService
    else .idle

/-- An arm's fault latch: the arm belongs to the arms latched of some record (R38). -/
def State.armLatched (s : State) (k : Fin 4) : Bool := faultClasses.any fun c => (s.fault c).armsLatched.getLsbD k.val

/-- GROUND, OVERFILL and ESTOP all stand PERMITTED (R33). -/
def State.permitted (s : State) : Bool := (s.input .ground).level && (s.input .overfill).level && (s.input .estop).level

/-- An arm shows flow while its last n is greater than 0 (R52). -/
def State.showsFlow (s : State) (k : Fin 4) : Bool := 0 < (s.meter k).lastN

/-- The tag record, when it exists and is fresh (R7). -/
def State.freshTag (s : State) : Option Nat :=
  match s.session.tagRecord with
  | some r => if s.now - r.confirmed ≤ s.bay.tagFreshness * 1000 then some r.tag else none
  | none => none

/-- The bay day number (R184). -/
def State.bayDay (s : State) : Nat := s.custody.clock / 86400

/-- A note place is free (R137). -/
def State.placeFree (s : State) : Bool := s.custody.places.length < 16 && s.custody.counter != .usedUp

/-- Places READY or DAMAGED. -/
def State.filledPlaces (s : State) : Nat := (s.custody.places.filter fun p => p.state != .reserved).length

/-- Whole litres, rounded half up (R78). -/
def litres (ml : Nat) : Nat := (ml + 500) / 1000

/-- The exact quotient rounded half up, an exact half to the larger value (00_scope, "Rounding"); `den` is positive. -/
def roundHalfUp (num : Int) (den : Nat) : Int := (2 * num + den) / (2 * den : Nat)

/-- Timer seconds left, floored (log 8); 0 when stopped, the deadman timer's too (log 37). -/
def State.secondsLeft (s : State) (t : Option Nat) : Nat :=
  match t with
  | some d => (d - s.now) / 1000
  | none => 0

/-- The UB4 has a station address of its own (R152). -/
def State.addressed (s : State) : Bool := s.uport.address != 0 && s.uport.address != 31

end Sys2Proof.Machine
end

