-- ==== Sys2Proof/Machine/Ops.lean ====
section
/-! DEFINITION. The named updates of the blocks, events and verdicts, and the timers that follow the arms. -/

namespace Sys2Proof.Machine

/-- Add 1 to a counter that saturates at `cap`. -/
def bump (cap n : Nat) : Nat := min cap (n + 1)

def State.setArm (s : State) (k : Fin 4) (a : Arm) : State := s.withArms (Vec.set s.arms k a)
def State.setMeter (s : State) (k : Fin 4) (m : Meter) : State := s.withMeters (Vec.set s.meters k m)
def State.setVol (s : State) (k : Fin 4) (v : VolArm) : State := s.withVolumes (Vec.set s.volumes k v)
def State.setInj (s : State) (j : Fin 6) (x : Injector) : State :=
  s.withAdditive { s.additive with injectors := Vec.set s.additive.injectors j x }
def State.setInput (s : State) (i : SafetyInput) (x : Input) : State :=
  s.withSafety { s.safety with inputs := Vec.set s.safety.inputs (inputIx i) x }
def State.setDeadman (s : State) (d : Deadman) : State := s.withSafety { s.safety with deadman := d }
def State.setFault (s : State) (c : FaultClass) (r : FaultRec) : State :=
  s.withSafety { s.safety with faults := Vec.set s.safety.faults (faultCode c) r }
def State.setStation (s : State) (i : Fin 12) (x : Station) : State :=
  s.withDport { s.dport with stations := Vec.set s.dport.stations i x }
def State.setRecord (s : State) (r : Option Session) : State := s.withSession { s.session with record := r }

/-- Change the batch record of an arm, if it has one. -/
def State.updBatch (s : State) (k : Fin 4) (f : Batch → Batch) : State :=
  s.setArm k { s.arm k with batch := (s.arm k).batch.map f }

/-- Change the session record, if one is open. -/
def State.updSession (s : State) (f : Session → Session) : State := s.setRecord (s.session.record.map f)

/-- Raise an event (R160): it joins the tail while fewer than 32 are held, else it is lost and counted. -/
def State.raise (s : State) (e : Event) : State :=
  if s.uport.events.length < 32 then
    s.withUport { s.uport with events := s.uport.events ++ [⟨e, s.custody.clock⟩] }
  else s.withUport { s.uport with lost := bump 255 s.uport.lost }

/-- One verdict discarded (R170). -/
def State.countVerdictDrop (s : State) : State :=
  s.withDport { s.dport with verdictDrop := bump 65535 s.dport.verdictDrop }

/-- A full list drops its oldest verdict for a new one (R170); a frame in flight then carries one fewer of them. -/
def Station.displace (x : Station) (v : Verdict) : Station :=
  { x with verdicts := x.verdicts.drop 1 ++ [v], carried := x.carried - 1 }

/-- A verdict joins its station's list (R170): a full list first drops and counts its oldest; a verdict for no station
is dropped and counted. -/
def State.pushVerdict (s : State) (i : Option (Fin 12)) (v : Verdict) : State :=
  match i with
  | some i =>
    if (s.station i).verdicts.length < 4 then
      s.setStation i { s.station i with verdicts := (s.station i).verdicts ++ [v] }
    else
      (s.setStation i ((s.station i).displace v)).countVerdictDrop
  | none => s.countVerdictDrop

/-- A verdict for the card reader. -/
def State.tellReader (s : State) (v : Verdict) : State := s.pushVerdict (s.findRole .cardReader) v

/-- A verdict for the keypad at a D address: it joins the list of the station that holds the address now, whatever its
role (DESIGN CHOICE, log 55). -/
def State.tellKeypad (s : State) (a : Byte) (v : Verdict) : State := s.pushVerdict (s.findDevice a) v

/-- The deadman timer's expiry after a full interval; a deadman interval of 0 leaves the timer stopped (R27). -/
def State.deadmanRestart (s : State) : Option Nat :=
  if s.bay.deadmanInterval = 0 then none else some (s.now + s.bay.deadmanInterval * 1000)

/-- R34: the timer starts when the first arm flows, and stops and releases WARN when the last one ceases. `was`: an arm
was flowing before the change. WARN still driven from an earlier expiry is released with the later run, its expired flag
standing (DESIGN CHOICE, log 36). -/
def State.settleDeadman (s : State) (was : Bool) : State :=
  if !was && s.anyFlowing then
    s.setDeadman { s.safety.deadman with timer := s.deadmanRestart, warned := false }
  else if was && !s.anyFlowing && s.safety.deadman.timer.isSome then
    s.setDeadman { s.safety.deadman with timer := none, warned := false, warn := false }
  else s

/-- R22: the idle timer runs while the bay is in SESSION and every arm is IDLE, from the full time at each start. -/
def State.settleIdle (s : State) : State :=
  if s.bayState = .session ∧ s.allIdle then
    if s.session.idleTimer.isSome then s
    else s.withSession { s.session with idleTimer := some (s.now + s.bay.idleMinutes * 60000) }
  else s.withSession { s.session with idleTimer := none }

/-- An arm changes state: the valve command follows (R84), and so do the deadman and the idle timer. -/
def State.moveArm (s : State) (k : Fin 4) (st : ArmState) : State :=
  ((s.setArm k { s.arm k with state := st }).settleDeadman s.anyFlowing).settleIdle

end Sys2Proof.Machine
end

