-- ==== Sys2Proof/Machine/Custody.lean ====
section
/-! DEFINITION. The custody store: reserving, writing and freeing note places, the note serial form, totalizers
(chapter 7). -/

namespace Sys2Proof

/-- The number the counter gives the next session (R133); a USED_UP counter refuses every session before this. -/
def NoteCounter.value : NoteCounter → Nat
  | .next n => n
  | .usedUp => 0

/-- Step 4 of R134: the counter passes the note's number; a USED_UP counter stays. The number of a record that R188
rewrote may lie below the counter, which then goes back (DESIGN CHOICE, log 43), or beyond the range that R132 gives the
counter, which is then USED_UP (DESIGN CHOICE, log 78). -/
def NoteCounter.pass (c : NoteCounter) (number : Nat) : NoteCounter :=
  match c with
  | .usedUp => .usedUp
  | .next _ => if 4294967295 ≤ number then .usedUp else .next (number + 1)

/-- Dose records in a note. -/
def NoteRec.doseCount (n : NoteRec) : Nat := (n.lines.map fun l => l.doses.length).sum

/-- R141: 34 bytes, 40 for every line, 16 for every dose record. -/
def NoteRec.formLength (n : NoteRec) : Nat := 34 + 40 * n.lines.length + 16 * n.doseCount

end Sys2Proof

namespace Sys2Proof.Machine

/-- The upper end of a totalizer's range, plus 1 (R146). -/
def totalizerSpan : Nat := 1000000000000000

/-- Credit a totalizer; past its upper value it wraps (R146). A damaged one whose words were read above that value loses
one span at each credit until it stands within (DESIGN CHOICE, log 52). -/
def Totalizer.credit (t : Totalizer) (x : Nat) : Totalizer :=
  { t with value := if t.value + x < totalizerSpan then t.value + x else t.value + x - totalizerSpan }

def State.creditGross (s : State) (k : Fin 4) (g : Nat) : State :=
  s.withCustody { s.custody with gross := Vec.set s.custody.gross k ((Vec.get s.custody.gross k).credit g) }

def State.creditStandard (s : State) (k : Fin 4) (x : Nat) : State :=
  s.withCustody { s.custody with standard := Vec.set s.custody.standard k ((Vec.get s.custody.standard k).credit x) }

def State.creditAdditive (s : State) (j : Fin 6) (x : Nat) : State :=
  s.withCustody { s.custody with additive := Vec.set s.custody.additive j ((Vec.get s.custody.additive j).credit x) }

/-- R137: a place joins the tail in state RESERVED; 14 or more in use raise NOTE_QUEUE_HIGH. -/
def State.reservePlace (s : State) (number : Nat) : State :=
  let t := s.withCustody { s.custody with places := s.custody.places ++ [⟨number, .reserved, none, [], false, false⟩] }
  if 14 ≤ t.custody.places.length then t.raise (.noteQueueHigh t.custody.places.length t.filledPlaces) else t

/-- R139: the RESERVED place leaves the list. -/
def State.freePlace (s : State) : State :=
  s.withCustody { s.custody with places := s.custody.places.filter fun p => p.state != .reserved }

/-! ### The serial form (R141, R196) -/

/-- A dose record of Table 10-11. -/
def doseBytes (d : LineDose) : List Byte :=
  beFig 1 d.code ++ be 1 d.injector.val ++ be 1 (doseVerdictCode d.verdict) ++ beFig 1 d.owed ++ beFig 2 d.done
    ++ beFig 2 d.rate ++ beFig 4 d.expected ++ beFig 4 d.measured

/-- A batch line of Table 10-10 at position `i`, then its dose records; a K5 absent at the end is sent as 0 (DESIGN
CHOICE, log 57). A figure that its field cannot hold, as an average temperature or a K5 of accumulators rewritten as read
(R188), is a free value (log 17). -/
def lineBytes (i : Nat) (l : BatchLine) : List Byte :=
  beFig 1 i ++ be 1 l.arm.val ++ be 1 (l.compartment.val + 1) ++ beFig 2 l.code ++ be 1 (optFin l.recipe)
    ++ beFig 1 l.doses.length ++ beFig 3 l.preset ++ be 3 (min l.grossL 16777215) ++ be 3 (min l.standardL 16777215)
    ++ beIntFig 2 (l.average.getD (-32768)) ++ beFig 3 (l.k5.getD 0) ++ be 1 (endReasonCode l.endReason)
    ++ be 2 (flagBits l.flags) ++ beFig 8 l.totalStart ++ beFig 8 l.totalEnd ++ (l.doses.map doseBytes).flatten

/-- The lines in order, positions counted from `i`. -/
def linesBytes : Nat → List BatchLine → List Byte
  | _, [] => []
  | i, l :: r => lineBytes i l ++ linesBytes (i + 1) r

/-- The note header of Table 10-9; a figure that its field cannot hold is a free value (log 17). -/
def headerBytes (n : NoteRec) : List Byte :=
  beFig 4 n.number ++ be 1 (closeReasonCode n.reason) ++ be 1 (sourceCode n.source) ++ beFig 1 n.lines.length
    ++ beFig 1 n.doseCount ++ beFig 5 n.openTime ++ beFig 5 n.closeTime ++ beFig 5 n.card ++ beFig 2 n.carrier
    ++ beFig 4 n.tag ++ beFig 2 n.formLength ++ be 1 (basisCode n.basis + if n.tRef = 2000 then 2 else 0)

/-- The serial form: header, lines with their dose records, note check (R196). -/
def noteForm (n : NoteRec) : List Byte :=
  let body := headerBytes n ++ linesBytes 1 n.lines
  body ++ be 2 (crc body).toNat

/-- Segments of 192 bytes, the last holding what remains (R141). -/
def segmentCount (form : List Byte) : Nat := (form.length + 191) / 192

/-! ### Writing a note (R134) -/

/-- The note record of a session closing with `reason` (Table 7-2). Byte 31 takes the bay parameters as they stand at
the write (log 16). -/
def State.noteOf (s : State) (r : Session) (reason : CloseReason) : NoteRec where
  number := r.number
  openTime := r.openTime
  closeTime := s.custody.clock
  card := r.card
  carrier := r.carrier
  tag := r.tag
  source := r.source
  reason := reason
  basis := s.bay.basis
  tRef := s.bay.tRef
  lines := r.lines

/-- Steps 1 to 3 of R134 on the place list: the first RESERVED place takes the note. -/
def fillReserved (x : Place) : List Place → List Place
  | [] => []
  | p :: r => if p.state = .reserved then x :: r else p :: fillReserved x r

/-- R134: the five steps, one update, then NOTE_READY. -/
def State.writeNote (s : State) (r : Session) (reason : CloseReason) : State :=
  let note := s.noteOf r reason
  let st : PlaceState := if r.damaged then .damaged else .ready
  let place : Place := ⟨r.number, st, some note, noteForm note, false, false⟩
  let t := (s.withCustody { s.custody with
    places := fillReserved place s.custody.places,
    counter := s.custody.counter.pass r.number }).setRecord (some { r with closed := true })
  t.raise (.noteReady r.number reason r.lines.length (r.lines.filter fun l => anyFlag l.flags).length
    t.custody.places.length)

end Sys2Proof.Machine
end

