-- ==== Sys2Proof/Machine/SessionOps.lean ====
section
/-! DEFINITION. The session unit's operations: refusing, opening and closing a session, claims, quota (chapter 1), and
the arm movements an abort makes (R23, R98, R103, R107). -/

namespace Sys2Proof

/-- R11: which refusals add to a permit's refusal count. -/
def SessionReason.counts : SessionReason → Bool
  | .vehicleNotAllowed | .vehicleBarred | .vehicleExpired => true
  | _ => false

end Sys2Proof

namespace Sys2Proof.Machine

/-- R11 on the entry: the count saturates at 3, and reaching 3 locks the permit out. -/
def refuseOnce (e : PermitEntry) : PermitEntry :=
  { e with refusals := bump 3 e.refusals, state := if 3 ≤ e.refusals + 1 then .lockedOut else e.state }

/-- R11. -/
def State.countRefusal (s : State) (card : Nat) (r : SessionReason) : State :=
  if r.counts then
    match s.findPermit card with
    | some i => s.setPermit i refuseOnce
    | none => s
  else s

/-- R10: a presentation is refused; `tag` is the tag reported, 0 for an absent one. -/
def State.refuse (s : State) (card tag : Nat) (r : SessionReason) (serverReason : Nat) : State :=
  ((s.tellReader (.refuse r)).raise (.sessionRefused card tag r serverReason)).countRefusal card r

/-- The tag reported when a card presentation is refused: a record no longer fresh is absent there (R7, R10). -/
def State.shownTag (s : State) : Nat := s.freshTag.getD 0

/-- The tag reported when a pending presentation is refused: the tag record's as it stands, fresh or not (DEDUCED,
log 34). -/
def State.heldTag (s : State) : Nat := (s.session.tagRecord.map TagRec.tag).getD 0

/-- R9: a pending presentation is removed and its card refused when the bay has left IDLE. -/
def State.settlePresentation (s : State) : State :=
  match s.session.presentation with
  | some p =>
    if s.bayState = .idle then s
    else (s.withSession { s.session with presentation := none }).refuse p.card s.heldTag .bayNotReady 0
  | none => s

/-- What opening a session takes from its presentation (R16). -/
structure Opening where
  card : Nat
  tag : Nat
  permit : Option Nat
  vehicle : Nat
  source : Source
  products : BitVec 16
  quota : Nat
deriving DecidableEq, Repr

/-- The session record at opening (Table 1-6). -/
def State.newSession (s : State) (o : Opening) : Session where
  number := s.custody.counter.value
  openTime := s.custody.clock
  card := o.card
  carrier := match o.permit with | some i => (s.permit i).carrier | none => 0
  permit := o.permit
  vehicle := o.vehicle
  tag := o.tag
  products := o.products
  source := o.source
  quota := o.quota
  delivered := 0
  reserved := 0
  claims := Vector.replicate 8 none
  lines := []
  closing := none
  closed := false
  damaged := false

/-- The quota limit standing for the next setup: read from the permit entry under LOCAL source (Table 1-6, R2). -/
def State.quotaLimit (s : State) (r : Session) : Nat :=
  match r.source with
  | .server => r.quota
  | .local_ => match r.permit with | some i => (s.permit i).dailyQuota | none => 0

/-- The permitted products standing for the next setup (R2, Table 1-6). -/
def State.permittedProducts (s : State) (r : Session) : BitVec 16 :=
  match r.source with
  | .server => r.products
  | .local_ => match r.permit with | some i => (s.permit i).products | none => 0

/-- R16: a session opens. NOTE_QUEUE_HIGH, where the place raises it, is queued before SESSION_OPENED (DESIGN CHOICE,
log 7). -/
def State.openSession (s : State) (o : Opening) : State :=
  let r := s.newSession o
  let s1 := (s.setRecord (some r)).reservePlace r.number
  let s2 := match o.permit with
    | some i => s1.setPermit i fun e => { e with refusals := 0 }
    | none => s1
  ((s2.tellReader .accept).raise (.sessionOpened r.number r.card r.tag r.source (s.quotaLimit r))).settleIdle

/-- R24: the session closes. -/
def State.closeSession (s : State) (reason : CloseReason) : State :=
  match s.session.record with
  | some r =>
    let s1 := if r.lines.isEmpty then s.freePlace else s.writeNote r reason
    ((s1.raise (.sessionClosed r.number reason r.lines.length)).setRecord none).settleIdle
  | none => s

/-- R23: in CLOSING the session closes once every arm is IDLE. -/
def State.closeIfDone (s : State) : State :=
  match s.session.record with
  | some r =>
    match r.closing with
    | some reason => if s.allIdle then s.closeSession reason else s
    | none => s
  | none => s

/-! ### Quota and claims (R17 to R19) -/

/-- R18: the remaining quota, when a quota applies. -/
def State.remainingQuota (s : State) (r : Session) : Option Int :=
  let limit := s.quotaLimit r
  if limit = 0 then none
  else
    match r.source, r.permit with
    | .server, _ => some ((limit : Int) - r.delivered - r.reserved)
    | .local_, some i => some ((limit : Int) - (s.permit i).usedToday - r.reserved)
    | .local_, none => none

/-- R19: a start adds its preset to the reserved volume. -/
def State.reserve (s : State) (l : Nat) : State := s.updSession fun r => { r with reserved := r.reserved + l }

/-- R19: a batch end, a return to READY or a cancel removes it. Where a session record rewritten as read (R188) holds a
reserved volume below the preset, what is left is 0 (DESIGN CHOICE, log 63). -/
def State.unreserve (s : State) (l : Nat) : State := s.updSession fun r => { r with reserved := r.reserved - l }

/-- R19: the delivered litres are charged. Under LOCAL source the permit index is the record's as it stands: where a record
rewritten as read (R188) names an empty entry or an index outside 0-511, the quota used is charged at that index all the
same, and where it names none nothing is charged (DESIGN CHOICE, log 64). -/
def State.charge (s : State) (l : Nat) : State :=
  match s.session.record with
  | some r =>
    match r.source, r.permit with
    | .server, _ => s.updSession fun r => { r with delivered := r.delivered + l }
    | .local_, some i => s.setPermit i fun e => { e with usedToday := min 9999999 (e.usedToday + l) }
    | .local_, none => s
  | none => s

/-- R17: a setup claims its compartment for its arm. -/
def State.claim (s : State) (c : Fin 8) (k : Fin 4) : State :=
  s.updSession fun r => { r with claims := Vec.set r.claims c (some k) }

/-- R17: the claim is released. -/
def State.unclaim (s : State) (c : Fin 8) : State :=
  s.updSession fun r => { r with claims := Vec.set r.claims c none }

/-! ### Arm movements -/

/-- An arm leaves the injector waiting list; those behind it move up (R117). -/
def State.unwait (s : State) (k : Fin 4) : State :=
  s.withAdditive { s.additive with waiting := s.additive.waiting.filter (· != k) }

/-- R107: a batch in READY or WAIT_INJECTOR is cancelled. -/
def State.cancel (s : State) (k : Fin 4) : State :=
  let waits := (s.arm k).state = .waitInjector
  let s1 := if waits then s.unwait k else s
  match (s.arm k).batch with
  | some b =>
    let s2 := (if waits then s1.unreserve b.preset else s1).unclaim b.compartment
    (s2.setArm k { s2.arm k with batch := none }).moveArm k .idle
  | none => s1.moveArm k .idle

/-- R103: an arm enters STOPPING from a flow state or SUSPENDED. -/
def State.enterStopping (s : State) (k : Fin 4) (r : EndReason) : State :=
  let s1 := s.updBatch k fun b => { b with endReason := some r, atStopping := some b.delivered }
  (s1.setArm k { s1.arm k with
    stopTimer := some (s.now + (s.armEntry k).stopTimeout * 1000), zeroCloses := 0 }).moveArm k .stopping

/-- R98: an arm in a flow state is suspended; in any other state nothing happens. -/
def State.suspend (s : State) (k : Fin 4) (c : SuspendCause) : State :=
  if (s.arm k).state.flowing then
    let s1 := s.updBatch k fun b => { b with cause := some c }
    let s2 := (s1.setArm k { s1.arm k with
      stopTimer := some (s.now + (s.armEntry k).stopTimeout * 1000), zeroCloses := 0 }).moveArm k .suspended
    match (s.arm k).batch with
    | some b => s2.raise (.armSuspended k c (b.delivered / 1000) (b.remaining / 1000))
    | none => s2
  else s

/-- What an abort does to one arm (R23). -/
def State.abortArm (e : EndReason) (s : State) (k : Fin 4) : State :=
  match (s.arm k).state with
  | .lowStart | .full | .slowdown | .suspended => s.enterStopping k e
  | .ready | .waitInjector => s.cancel k
  | .idle | .stopping => s

/-- R23: the open session is aborted; an abort in CLOSING is the caller's. -/
def State.abort (s : State) (reason : CloseReason) (e : EndReason) : State :=
  (armIxs.foldl (State.abortArm e) (s.updSession fun r => { r with closing := some reason })).closeIfDone

/-- R21: every batch in READY or WAIT_INJECTOR is cancelled. -/
def State.cancelReady (s : State) (k : Fin 4) : State :=
  match (s.arm k).state with
  | .ready | .waitInjector => s.cancel k
  | _ => s

/-- R21: an orderly close that is taken. -/
def State.orderlyClose (s : State) (reason : CloseReason) : State :=
  (armIxs.foldl State.cancelReady s).closeSession reason

end Sys2Proof.Machine
end

