-- ==== Sys2Proof/Machine/Faults.lean ====
section
/-! DEFINITION. Raising a fault and applying its response (R37 to R41, R108). -/

namespace Sys2Proof.Machine

/-- A set of arms with an arm joined to it. -/
def joinArm (b : BitVec 4) (k : Fin 4) : BitVec 4 := b ||| BitVec.ofNat 4 (2 ^ k.val)

/-- A set of arms with an optional arm joined to it. -/
def joinOpt (b : BitVec 4) (k : Option (Fin 4)) : BitVec 4 :=
  match k with
  | some k => joinArm b k
  | none => b

/-- Step 1 of R39. -/
def FaultRec.entered (r : FaultRec) (k : Option (Fin 4)) (clock : Nat) (drill : Bool) : FaultRec where
  latch := r.latch
  count := bump 255 r.count
  firstArm := if r.count = 0 then k else r.firstArm
  firstTime := if r.count = 0 then some clock else r.firstTime
  lastTime := some clock
  armsNamed := joinOpt r.armsNamed k
  armsLatched := r.armsLatched
  drill := drill

/-- The response about to be applied (R37): for DOSE the recipe's failure action, REPORT without a recipe. -/
def State.response (s : State) (c : FaultClass) (action : Option FailureAction) : ResponseMode :=
  match (s.policy c).mode with
  | .recipe => match action with
    | some .stopArm => .stopArm
    | _ => .report
  | m => m

/-- The command of a STOP_ARM response to the arm it names (R40). -/
def State.faultArm (s : State) (k : Fin 4) : State :=
  match (s.arm k).state with
  | .lowStart | .full | .slowdown | .suspended => s.enterStopping k .fault
  | .idle | .ready | .waitInjector | .stopping => s

/-- R40. -/
def State.stopArmResponse (s : State) (c : FaultClass) (k : Option (Fin 4)) : State :=
  let r := s.fault c
  let l : Latch := if r.latch = some .stopBay then .stopBay else .stopArm
  let s1 := s.setFault c { r with latch := some l, armsLatched := joinOpt r.armsLatched k }
  match k with
  | some k => s1.faultArm k
  | none => s1

/-- R41. -/
def State.stopBayResponse (s : State) (c : FaultClass) : State :=
  let s1 := s.setFault c { s.fault c with latch := some .stopBay }
  match s.bayState with
  | .session => s1.abort .fault .fault
  | .closing => s1.updSession fun r => { r with closing := some .fault }
  | .idle | .outOfService | .faulted => s1.settlePresentation

/-- The response applied (R40, R41). -/
def State.respond (s : State) (c : FaultClass) (k : Option (Fin 4)) (m : ResponseMode) : State :=
  match m with
  | .report | .recipe => s
  | .stopArm => s.stopArmResponse c k
  | .stopBay => s.stopBayResponse c

/-- R108: METER_PULSE or METER_REVERSE naming a running arm sets the batch's METER_FAULT flag. -/
def State.flagMeter (s : State) (c : FaultClass) (k : Option (Fin 4)) : State :=
  match c, k with
  | .meterPulse, some k | .meterReverse, some k =>
    if (s.arm k).state.running then
      s.updBatch k fun b => { b with flags := { b.flags with meterFault := true } }
    else s
  | _, _ => s

/-- Steps 1 and 2 of R39, with the response about to be applied. -/
def State.reportFault (s : State) (c : FaultClass) (k : Option (Fin 4)) (subject : Subject) (drill : Bool)
    (m : ResponseMode) : State :=
  let r := (s.fault c).entered k s.custody.clock drill
  let s1 := s.setFault c r
  if (s.policy c).mask then s1 else s1.raise (.faultRaised c k subject r.count m drill)

/-- R39: a fault is raised. `action` is the failure action of the dose behind a DOSE. -/
def State.raiseFault (s : State) (c : FaultClass) (k : Option (Fin 4)) (subject : Subject) (drill : Bool)
    (action : Option FailureAction) : State :=
  let m := s.response c action
  ((s.flagMeter c k).reportFault c k subject drill m).respond c k m

/-- A fault that names an arm and no subject. -/
def State.armFault (s : State) (c : FaultClass) (k : Fin 4) : State := s.raiseFault c (some k) .none false none

/-- R126: the DOSE class is raised for a dose of a batch. -/
def State.raiseDose (s : State) (k : Fin 4) (d : DoseRec) : State :=
  (s.updBatch k fun b => { b with flags := { b.flags with doseFault := true } }).raiseFault .dose (some k)
    (.injector d.injector) false (some d.action)

/-! ### Clearing (R43) -/

/-- An arm of the record's arms named shows flow. -/
def State.namedFlow (s : State) (c : FaultClass) : Bool :=
  armIxs.any fun k => (s.fault c).armsNamed.getLsbD k.val && s.showsFlow k

/-- The condition that blocks CLEAR_FAULT (Table 2-5). -/
def State.clearBlocked (s : State) (c : FaultClass) : Bool :=
  match c with
  | .estop => !(s.input .estop).level
  | .valve | .unauthFlow => s.namedFlow c
  | .retention | .meterPulse | .meterReverse | .tempLost | .injector | .dose | .overrun | .deviceLost => false

/-- An accumulator and its flag cleared (R43, R58). -/
def Meter.clearUnauth (m : Meter) : Meter := { m with unauth := 0, unauthFlag := false }

/-- R43: a clear that is taken. -/
def State.clearFault (s : State) (c : FaultClass) : State :=
  let n := (s.fault c).count
  let s1 := s.setFault c FaultRec.empty
  let s2 := if c = .unauthFlow then s1.withMeters (Vector.ofFn fun k => (Vec.get s1.meters k).clearUnauth) else s1
  if (s2.policy c).mask then s2 else s2.raise (.faultCleared c n)

end Sys2Proof.Machine
end

