-- ==== Sys2Proof/Machine/Additive.lean ====
section
/-! DEFINITION. The additive unit: evaluating a recipe, granting and waiting, demands, injections, feedback, the dose
check and the finalising of dose records (chapter 6); with it the entry to LOW_START that a grant makes (R92, R93). -/

namespace Sys2Proof.Machine

/-- R119: the interval of a dose, in gross mL. -/
def doseInterval (stroke rate : Nat) : Nat := stroke * 100000 / rate

/-- R128, R125: the expected quantity, in 0.1 mL. -/
def doseExpected (gross rate : Nat) : Nat := gross * rate / 100000

/-- R125: the deviation in percent, truncated toward zero. For an expected quantity of 0, which only a session record
rewritten as read (R188) makes possible, the rule states none: a free value (DESIGN CHOICE, log 72). -/
def doseDeviation (measured expected : Nat) : Int :=
  if expected = 0 then Config.zeroExpected measured else (((measured : Int) - expected) * 100).tdiv expected

/-- R125: the deviation lies above the tolerance or below its negative. -/
def outOfTolerance (deviation : Int) (tolerance : Nat) : Bool := tolerance < deviation || deviation < -tolerance

/-! ### Evaluation (R115) -/

/-- A candidate of a dose for an arm. -/
def State.candidate (s : State) (k : Fin 4) (d : Dose) (j : Fin 6) : Bool :=
  let e := s.injEntry j
  e.code == d.code && e.inService && e.plumbing.getLsbD k.val

/-- A fit candidate: an interval of at least 2,000 mL. -/
def State.fit (s : State) (k : Fin 4) (d : Dose) (j : Fin 6) : Bool :=
  s.candidate k d j && 2000 ≤ doseInterval (s.injEntry j).stroke d.rate

/-- The injector is FREE. -/
def State.injFree (s : State) (j : Fin 6) : Bool := (s.inj j).state == .free

/-- Why a dose cannot be served, if it cannot. -/
def State.doseRefusal (s : State) (k : Fin 4) (d : Dose) : Option BatchReason :=
  if !(injIxs.any (s.candidate k d)) then some .recipeUnavailable
  else if !(injIxs.any (s.fit k d)) then some .doseRateInvalid
  else none

/-- The outcome of an evaluation. -/
inductive Claim
  | refused (r : BatchReason)
  | wait
  | granted
deriving DecidableEq, Repr

/-- R115. -/
def State.evaluate (s : State) (k : Fin 4) (recipe : Option (Fin 16)) : Claim :=
  match recipe with
  | none => .granted
  | some i =>
    let e := s.recipe i
    if e.doses.isEmpty then .refused .recipeUnavailable
    else
      match e.doses.findSome? (s.doseRefusal k) with
      | some r => .refused r
      | none => if e.doses.all fun d => injIxs.any fun j => s.fit k d j && s.injFree j then .granted else .wait

/-- R117: the fit candidates of a recipe's doses that are not FREE. -/
def State.blockers (s : State) (k : Fin 4) (recipe : Option (Fin 16)) : List (Fin 6) :=
  match recipe with
  | none => []
  | some i => injIxs.filter fun j => !s.injFree j && (s.recipe i).doses.any fun d => s.fit k d j

/-! ### Grants (R116) -/

/-- A dose record at its grant (Table 6-4, R119). -/
def newDose (r : RecipeEntry) (d : Dose) (j : Fin 6) (e : InjectorEntry) : DoseRec where
  code := d.code
  rate := d.rate
  injector := j
  stroke := e.stroke
  ppl := e.ppl
  timeoutMs := e.timeoutMs
  tolerance := r.tolerance
  action := r.action
  interval := doseInterval e.stroke d.rate
  nextDue := doseInterval e.stroke d.rate / 2
  done := 0
  owed := 0
  measured := 0
  expected := 0
  outCount := 0
  overflow := false
  claimLost := false
  verdict := none

/-- One dose takes the lowest-indexed fit candidate that is FREE. -/
def State.grantDose (k : Fin 4) (r : RecipeEntry) (s : State) (d : Dose) : State :=
  match injIxs.find? fun j => s.fit k d j && s.injFree j with
  | some j =>
    (s.setInj j { s.inj j with state := .claimedIdle, claimant := some k }).updBatch k fun b =>
      { b with doses := b.doses ++ [newDose r d j (s.injEntry j)] }
  | none => s

/-- R116: all doses of the recipe, in order; NONE has nothing to claim. -/
def State.grant (s : State) (k : Fin 4) (recipe : Option (Fin 16)) : State :=
  match recipe with
  | some i => (s.recipe i).doses.foldl (State.grantDose k (s.recipe i)) s
  | none => s

/-- An injector returned to FREE. -/
def State.freeInj (s : State) (j : Fin 6) : State := s.setInj j { s.inj j with state := .free, claimant := none }

/-- R116: a grant taken back. -/
def State.revoke (s : State) (k : Fin 4) : State :=
  match (s.arm k).batch with
  | some b => (b.doses.foldl (fun t d => t.freeInj d.injector) s).updBatch k fun b => { b with doses := [] }
  | none => s

/-! ### Starting to flow (R90, R92, R93) -/

/-- The start conditions: checks 1 to 3 of R90. -/
def State.startRefusal (s : State) (k : Fin 4) : Option BatchReason :=
  if s.armLatched k then some .armFaulted
  else if !s.permitted then some .permissiveOpen
  else if (s.vol k).temp.state != .fresh then some .tempMissing
  else none

/-- The arm byte of a verdict. -/
def armByte (k : Fin 4) : Byte := BitVec.ofNat 8 k.val

end Sys2Proof.Machine

namespace Sys2Proof
open Machine

/-- The batch at its first entry to LOW_START (R92). -/
def Batch.started (b : Batch) (t : Totalizer) : Batch :=
  { b with phase := .started, rg := 0, rs := 0, totalStart := t.value, startDamaged := t.damaged }

end Sys2Proof

namespace Sys2Proof.Machine

/-- R92: an arm enters LOW_START from READY or WAIT_INJECTOR. -/
def State.enterFlow (s : State) (k : Fin 4) : State :=
  let t := Vec.get s.custody.gross k
  let s1 := s.updBatch k fun b => b.started t
  let s2 := (s1.setArm k { s1.arm k with noFlow := 0 }).moveArm k .lowStart
  match (s.arm k).batch with
  | some b => s2.raise (.batchStarted k b.compartment b.code b.recipe b.preset t.value)
  | none => s2

/-- A start refused after it was taken (R93, R118): BATCH_REFUSED, and REFUSED to a keypad named as start source. -/
def State.refuseGrant (s : State) (k : Fin 4) (source : StartSource) (r : BatchReason) : State :=
  let s1 := s.raise (.batchRefused k.val .start source r)
  match source with
  | .keypad a => s1.tellKeypad a (.refused (armByte k) r)
  | .server => s1

/-- STARTED to the keypad named as start source (R92). -/
def State.tellStarted (s : State) (k : Fin 4) (source : StartSource) : State :=
  match source with
  | .keypad a => s.tellKeypad a (.started (armByte k))
  | .server => s

/-- A waiting arm returns to READY without its reservation (R19, R93, R118). -/
def State.backToReady (s : State) (k : Fin 4) (preset : Nat) : State := (s.moveArm k .ready).unreserve preset

/-- R118 for one arm of the list. -/
def State.scanArm (s : State) (k : Fin 4) : State :=
  match (s.arm k).state, (s.arm k).batch with
  | .waitInjector, some b =>
    match s.evaluate k b.recipe with
    | .wait => s
    | .refused r => ((s.unwait k).backToReady k b.preset).refuseGrant k b.source r
    | .granted =>
      let t := (s.unwait k).grant k b.recipe
      match t.startRefusal k with
      | some r => ((t.revoke k).backToReady k b.preset).refuseGrant k b.source r
      | none => (t.enterFlow k).tellStarted k b.source
  | _, _ => s

/-- R118: a scan of the waiting list, oldest first. -/
def State.scan (s : State) : State := s.additive.waiting.foldl State.scanArm s

/-! ### Injections (R120 to R124) -/

/-- Change one dose record of an arm's batch. -/
def State.updDose (s : State) (k : Fin 4) (i : Nat) (f : DoseRec → DoseRec) : State :=
  s.updBatch k fun b => { b with doses := b.doses.modify i f }

/-- The dose record at a position of an arm's batch. -/
def State.dose (s : State) (k : Fin 4) (i : Nat) : Option DoseRec := (s.arm k).batch.bind fun b => b.doses[i]?

/-- R121: an injection opens for dose `i` of arm `k`; the ppl_milli it copies scales every pulse of its window, the tail's
too (DESIGN CHOICE, log 41). -/
def State.openInjection (s : State) (k : Fin 4) (i : Nat) (d : DoseRec) : State :=
  s.setInj d.injector { s.inj d.injector with
    state := .injecting
    timer := some (s.now + d.timeoutMs)
    measured := 0
    open_ := true
    windowOpen := true
    windowTimer := none
    stroke := d.stroke
    ppl := d.ppl
    owner := some (k, i) }

end Sys2Proof.Machine

namespace Sys2Proof
open Machine

/-- The owed count goes down by one; the overflow mark goes when it reaches 0 (R120, R123). -/
def DoseRec.workOff (d : DoseRec) : DoseRec :=
  { d with owed := d.owed - 1, overflow := if d.owed - 1 = 0 then false else d.overflow }

end Sys2Proof

namespace Sys2Proof.Machine

/-- R120: one demand of dose `i`. -/
def State.demand (k : Fin 4) (i : Nat) (s : State) : State :=
  match s.dose k i with
  | none => s
  | some d =>
    let s1 := s.updDose k i fun x => { x with nextDue := x.nextDue + x.interval }
    let owe := s1.updDose k i fun x => { x with owed := x.owed + 1 }
    if (s.arm k).state = .stopping then (if d.owed < 2 then owe else s1)
    else
      match (s.inj d.injector).state with
      | .claimedIdle => s1.openInjection k i d
      | .injecting =>
        if d.owed < 2 then owe
        else if d.overflow then s1
        else (s1.updDose k i fun x => { x with overflow := true }).raiseDose k d
      | .free => s1

end Sys2Proof.Machine

namespace Sys2Proof
open Machine

/-- How many due points a gross has reached. -/
def DoseRec.crossings (d : DoseRec) (gross : Nat) : Nat :=
  if d.claimLost then 0
  else if d.nextDue ≤ gross then (gross - d.nextDue) / d.interval + 1
  else 0

end Sys2Proof

namespace Sys2Proof.Machine

/-- R120 for dose `i`, at a credit that brings the batch to `gross`. -/
def State.doseDemands (k : Fin 4) (gross : Nat) (s : State) (i : Nat) : State :=
  match s.dose k i with
  | some d => (List.range (d.crossings gross)).foldl (fun t _ => t.demand k i) s
  | none => s

/-- R120 for every dose of the batch: the records take their demands one after the other, in recipe order (DESIGN
CHOICE, log 59). -/
def State.demands (s : State) (k : Fin 4) : State :=
  match (s.arm k).batch with
  | some b => (List.range b.doses.length).foldl (State.doseDemands k b.gross) s
  | none => s

/-- R124: an injector has failed; `owner` is the dose whose claim is lost. -/
def State.injectorFailed (s : State) (j : Fin 6) (owner : Option (Fin 4 × Nat)) : State :=
  let s1 := (s.raiseFault .injector (s.inj j).claimant (.injector j) false none).outOfService j
  let s2 := s1.freeInj j
  let s3 := match owner with
    | some (k, i) =>
      let s3 := (s2.updDose k i fun d => { d with claimLost := true }).updBatch k fun b =>
        { b with flags := { b.flags with injectorLost := true } }
      match s3.dose k i with
      | some d => s3.raiseDose k d
      | none => s3
    | none => s2
  s3.scan

/-- R122: the increment of a measured pulse, in 0.1 mL, and the remainder it leaves. Under a ppl_milli of 0, which only a dose
record rewritten as read (R188) makes possible, the rule states neither: free values, the increment within the range of
the totalizer it is added to (DESIGN CHOICE, log 73). -/
def pulseShare (num ppl : Nat) : Nat × Nat :=
  if ppl = 0 then ((Config.zeroScale num).1 % totalizerSpan, (Config.zeroScale num).2) else (num / ppl, num % ppl)

/-- R125: the dose check of dose `i`. Its deviation at an expected quantity of 0 is a free value (log 72). -/
def State.doseCheck (s : State) (k : Fin 4) (i : Nat) : State :=
  match (s.arm k).batch, s.dose k i with
  | some b, some d =>
    if d.claimLost ∨ d.done < 5 then s
    else
      let e := doseExpected b.gross d.rate
      let v := doseDeviation d.measured e
      if outOfTolerance v d.tolerance then
        if 3 ≤ d.outCount + 1 then
          ((s.updDose k i fun x => { x with outCount := 0 }).raise
            (.doseAlarm k (i + 1) d.injector e d.measured v)).raiseDose k d
        else s.updDose k i fun x => { x with outCount := x.outCount + 1 }
      else s.updDose k i fun x => { x with outCount := 0 }
  | _, _ => s

/-- R123: the injector goes on by the dose's owed count, then the dose check is made. -/
def State.continueDose (s : State) (j : Fin 6) (k : Fin 4) (i : Nat) : State :=
  match s.dose k i with
  | some d =>
    let s1 :=
      if 0 < d.owed ∧ (s.arm k).state ≠ .stopping then (s.openInjection k i d).updDose k i DoseRec.workOff
      else s.setInj j { s.inj j with state := .claimedIdle }
    s1.doseCheck k i
  | none => s.setInj j { s.inj j with state := .claimedIdle }

/-- R121, R123: the injection of injector `j` closes and is recorded. -/
def State.closeInjection (s : State) (j : Fin 6) (onTimeout : Bool) : State :=
  let x := s.inj j
  let miss := onTimeout && 2 * x.measured < x.stroke
  let n := if miss then bump 3 x.misses else 0
  let s1 := s.setInj j { x with open_ := false, timer := none, windowTimer := some (s.now + 500), misses := n }
  let s2 := match x.owner with
    | some (k, i) => s1.updDose k i fun d => { d with done := bump 65535 d.done }
    | none => s1
  if n = 3 then s2.injectorFailed j x.owner
  else
    match x.owner with
    | some (k, i) => s2.continueDose j k i
    | none => (s2.freeInj j).scan

/-- R122: a feedback pulse, scaled by the ppl_milli copied when the injection opened (log 41; one of 0, log 73). -/
def State.feedback (s : State) (j : Fin 6) : State :=
  let x := s.inj j
  if x.windowOpen then
    let share := pulseShare (10000000 + x.remainder) x.ppl
    let inc := share.1
    let s1 := (s.setInj j { x with remainder := share.2, measured := x.measured + inc }).creditAdditive j inc
    let s2 := match x.owner with
      | some (k, i) => s1.updDose k i fun d => { d with measured := d.measured + inc }
      | none => s1
    if x.open_ ∧ x.stroke ≤ x.measured + inc then s2.closeInjection j false else s2
  else s.setInj j { x with stray := bump 65535 x.stray }

/-! ### Finalising at batch end (R127, R128) -/

end Sys2Proof.Machine

namespace Sys2Proof
open Machine

/-- R128: the verdict. -/
def DoseRec.judge (d : DoseRec) (expected : Nat) : DoseVerdict :=
  if d.claimLost ∧ d.action = .continueUntreated then .untreated
  else if expected = 0 then .treated
  else
    let v := doseDeviation d.measured expected
    if (d.tolerance : Int) < v then .over
    else if v < -(d.tolerance : Int) then .under
    else .treated

/-- R128 on a dose record. -/
def DoseRec.finalised (d : DoseRec) (gross : Nat) : DoseRec :=
  { d with expected := doseExpected gross d.rate, verdict := some (d.judge (doseExpected gross d.rate)) }

end Sys2Proof

namespace Sys2Proof.Machine

/-- The injector's part of R127 for dose `i` of arm `k`: the claim is cleared, an idle injector is freed, and nothing
more is added to the record. -/
def Injector.released (x : Injector) (k : Fin 4) (i : Nat) : Injector :=
  let y := if x.claimant = some k then
      { x with claimant := none, state := if x.state = .claimedIdle then .free else x.state }
    else x
  if y.owner = some (k, i) then { y with owner := none } else y

/-- R127 for dose `i` of arm `k`. The injector is the one that the dose record names: where the record was rewritten as
read (R188) with another index, the injector claimed at the grant stays claimed (DESIGN CHOICE, log 68). -/
def State.finaliseDose (k : Fin 4) (gross : Nat) (s : State) (i : Nat) : State :=
  match s.dose k i with
  | some d =>
    let x := s.inj d.injector
    let cut := x.state = .injecting ∧ x.claimant = some k ∧ x.owner = some (k, i)
    (s.setInj d.injector (x.released k i)).updDose k i fun y =>
      ({ y with done := if cut then bump 65535 y.done else y.done }).finalised gross
  | none => s

/-- R127: the batch's injectors are released and its dose records finalised, then one scan, unless a reset is in
progress. A batch without dose records frees no injector and makes no scan (R118). -/
def State.releaseDoses (s : State) (k : Fin 4) (inReset : Bool) : State :=
  match (s.arm k).batch with
  | some b =>
    let s1 := (List.range b.doses.length).foldl (State.finaliseDose k b.gross) s
    if inReset ∨ b.doses.isEmpty then s1 else s1.scan
  | none => s

end Sys2Proof.Machine
end

