-- ==== Sys2Proof/Machine/Volume.lean ====
section
/-! DEFINITION. The arithmetic of the volume engine and its temperature records (chapter 4). -/

namespace Sys2Proof.Machine

/-- R66 between two adjacent points, rounded half up. -/
def interpolate (a b : CurvePoint) (q : Nat) : Nat :=
  (roundHalfUp ((a.f : Int) * (b.q - a.q) + ((b.f : Int) - a.f) * (q - a.q)) (b.q - a.q)).toNat

/-- R66: the meter factor of a curve at a flow rate; absent without a curve. -/
def meterFactor : List CurvePoint → Nat → Option Nat
  | [], _ => none
  | [p], _ => some p.f
  | a :: b :: r, q =>
    if q ≤ a.q then some a.f
    else if q < b.q then some (interpolate a b q)
    else meterFactor (b :: r) q

/-- R67: the gross increment and the new remainder. -/
def grossIncrement (n f ppl rem : Nat) : Nat × Nat := ((n * f * 10 + rem) / ppl, (n * f * 10 + rem) % ppl)

/-- R73: the standard increment and the new remainder. -/
def standardIncrement (g k5 rem : Nat) : Nat × Nat := ((g * k5 + rem) / 100000, (g * k5 + rem) % 100000)

/-- R74: the correction factor K5 from T, T_ref and α. -/
def correction (t : Int) (tRef alpha : Nat) : Nat :=
  let u : Int := alpha * (t - tRef)
  let k : Int := 1000000000 - u + roundHalfUp (4 * u * u) 5000000000
  (roundHalfUp k 10000).toNat

/-- R56: the flow rate in L/min. -/
def flowRate (n ppl : Nat) : Nat := n * 240000 / ppl

/-- R79: the average temperature; absent when the gross is 0. -/
def averageTemp (weight : Int) (gross : Nat) : Option Int :=
  if gross = 0 then none else some (roundHalfUp weight gross)

/-! ### Temperature samples (R68, R69) -/

/-- R68: the clamp to −4,000 … 7,000. -/
def clampTemp (t : Int) : Int := if t < -4000 then -4000 else if 7000 < t then 7000 else t

/-- R68: a BAD sample. -/
def State.badSample (s : State) (k : Fin 4) : State :=
  s.setVol k { s.vol k with badSamples := bump 65535 (s.vol k).badSamples }

/-- R68, R69, R75: a GOOD sample is accepted. -/
def State.goodSample (s : State) (k : Fin 4) (t : Int) : State :=
  let v := s.vol k
  let c := clampTemp t
  let clamped := c != t
  let s1 := s.setVol k { v with
    clamps := if clamped then bump 65535 v.clamps else v.clamps
    overruns := if v.temp.state ≠ .absent ∧ !v.temp.processed then bump 65535 v.overruns else v.overruns
    temp := ⟨.fresh, c, clamped, s.now, !(s.meter k).running⟩
    staleTimer := some (s.now + 10000)
    lostTimer := none }
  s1.updBatch k fun b => { b with k5 := some (correction c b.tRef b.alpha) }

/-- R68: which arm takes the samples of a directory entry, if any. -/
def State.sampleArm (s : State) (i : Fin 12) : Option (Fin 4) :=
  match (s.device i).arm with
  | some k => if (s.armEntry k).station = some i then some k else none
  | none => none

/-- The temperature record ABSENT and its timers stopped (R80, R82). -/
def VolArm.noTemp (v : VolArm) : VolArm := { v with temp := TempRec.absent, staleTimer := none, lostTimer := none }

/-- R70: the staleness timer expires. -/
def State.goStale (s : State) (k : Fin 4) : State :=
  let v := s.vol k
  let past := (s.arm k).state.running
  (s.setVol k { v with
    temp := { v.temp with state := .stale }
    staleTimer := none
    lostTimer := if past then some (s.now + 60000) else none }).raise (.tempStale k v.temp.t past)

end Sys2Proof.Machine
end

