-- ==== Sys2Proof/Machine/BatchOps.lean ====
section
/-! DEFINITION. The five batch operations, alike for a server request and a key record (R86 to R93, R98 to R102). -/

namespace Sys2Proof.Machine

/-- How a batch operation is decided, before it is answered by its source (R86, Table 5-5). -/
inductive OpResult
  | refused (r : BatchReason)
  | notNow
  | setUp (preset : Nat) (clamped : Bool)
  | started
  | waiting
  | accepted
deriving DecidableEq, Repr

/-! ### Setup (R87 to R89) -/

/-- The one index of a set that holds exactly one (R87, check 6). -/
def onlyIndex (b : BitVec 16) : Option (Fin 16) :=
  match (List.finRange 16).filter fun i => b.getLsbD i.val with
  | [i] => some i
  | _ => none

/-- Check 6 of R87: the product, or the refusal. -/
def State.productOf (s : State) (k : Fin 4) (r : Session) (p : Option (Fin 16)) : Except BatchReason (Fin 16) :=
  let e := s.armEntry k
  match p.orElse fun _ => onlyIndex e.products with
  | none => .error .productNotOnArm
  | some i =>
    if !(e.products.getLsbD i.val) || (s.product i).code == 0 then .error .productNotOnArm
    else if !((s.permittedProducts r).getLsbD i.val) then .error .productNotPermitted
    else .ok i

/-- R5: the verdict of a compartment's last product and the new one. -/
def State.compatible (s : State) (last : Option (Fin 16)) (p : Fin 16) : Bool :=
  match last with
  | none => s.bay.unknownAllowed
  | some l => s.compatVerdict l p

/-- The least of the terms of R88. -/
def presetTerms (requested capacity bayMax : Nat) (quota : Option Int) : Int :=
  let least : Int := min (requested : Int) (min (capacity : Int) bayMax)
  match quota with
  | some q => min q least
  | none => least

/-- R88: the preset in force, or the refusal. -/
def presetRule (requested capacity bayMin bayMax : Nat) (quota : Option Int) : Except BatchReason Nat :=
  let least := presetTerms requested capacity bayMax quota
  if least < bayMin then
    .error (match quota with
      | some q => if q = least then .quotaExhausted else .belowMinimum
      | none => .belowMinimum)
  else .ok least.toNat

/-- Arms other than `k` that are not IDLE (R87, check 4). -/
def State.otherArms (s : State) (k : Fin 4) : Nat := (armIxs.filter fun j => j != k && (s.arm j).state != .idle).length

/-- The compartment at an index of a session's vehicle entry; none above the compartment count (R17). -/
def State.compartment (s : State) (r : Session) (c : Fin 8) : Option Compartment :=
  (s.vehicle r.vehicle).compartments[c.val]?

/-- What a setup that passes every check fixes. -/
structure SetupPlan where
  product : Fin 16
  preset : Nat
deriving DecidableEq, Repr

/-- Checks 5 to 8 of R87. -/
def State.setupPlan (s : State) (k : Fin 4) (r : Session) (f : SetupFields) : Except BatchReason SetupPlan :=
  match s.compartment r f.compartment with
  | none => .error .compartmentUnknown
  | some c =>
    if (Vec.get r.claims f.compartment).isSome then .error .compartmentClaimed
    else
      match s.productOf k r f.product with
      | .error e => .error e
      | .ok p =>
        if !s.compatible c.last p then .error .incompatibleLastProduct
        else
          match presetRule f.preset c.capacity s.bay.minBatch s.bay.maxBatch (s.remainingQuota r) with
          | .error e => .error e
          | .ok n => .ok ⟨p, n⟩

/-- R87: every check, in order. -/
def State.setupCheck (s : State) (k : Fin 4) (f : SetupFields) : Except BatchReason SetupPlan :=
  if (s.arm k).state ≠ .idle then .error .armBusy
  else if s.bayState ≠ .session then .error .noSession
  else if !(s.armEntry k).enabled then .error .armDisabled
  else if s.armLatched k then .error .armFaulted
  else
    match s.session.record with
    | none => .error .noSession
    | some r => if 16 ≤ r.lines.length + s.otherArms k then .error .batchLimit else s.setupPlan k r f

/-- R89: the batch record of a setup. -/
def State.newBatch (s : State) (k : Fin 4) (f : SetupFields) (source : StartSource) (p : SetupPlan) : Batch where
  compartment := f.compartment
  product := p.product
  code := (s.product p.product).code
  alpha := (s.product p.product).alpha
  tRef := s.bay.tRef
  basis := s.bay.basis
  recipe := f.recipe.orElse fun _ => (s.product p.product).recipe
  source := source
  preset := p.preset
  phase := .setUp
  gross := 0
  standard := 0
  rg := 0
  rs := 0
  weight := 0
  k5 := if (s.vol k).temp.state = .absent then none
    else some (correction (s.vol k).temp.t s.bay.tRef (s.product p.product).alpha)
  totalStart := 0
  startDamaged := false
  atStopping := none
  flags := { noFlags with presetClamped := p.preset < f.preset }
  doses := []
  cause := none
  endReason := none
  overrun := none

/-- R87 to R89: a setup. -/
def State.setup (s : State) (k : Fin 4) (f : SetupFields) (source : StartSource) : State × OpResult :=
  match s.setupCheck k f with
  | .error e => (s, .refused e)
  | .ok p =>
    let s1 := (s.setArm k { s.arm k with batch := some (s.newBatch k f source p) }).claim f.compartment k
    (s1.moveArm k .ready, .setUp p.preset (p.preset < f.preset))

/-! ### Start (R90, R91) -/

/-- R91 for a claim that must wait: the arm joins the tail of the waiting list (R117). -/
def State.joinWaiting (s : State) (k : Fin 4) (recipe : Option (Fin 16)) : State :=
  let s1 := (s.withAdditive { s.additive with waiting := s.additive.waiting ++ [k] }).moveArm k .waitInjector
  s1.raise (.injectorWait k s1.additive.waiting.length (s.blockers k recipe))

/-- R91: a start that is taken; `wait` says that the claim must wait. -/
def State.takeStart (s : State) (k : Fin 4) (b : Batch) (source : StartSource) (wait : Bool) : State × OpResult :=
  let s1 := (s.updBatch k fun b => { b with source := source }).reserve b.preset
  if wait then (s1.joinWaiting k b.recipe, .waiting)
  else ((s1.grant k b.recipe).enterFlow k, .started)

/-- R90, R91: a start. -/
def State.start (s : State) (k : Fin 4) (source : StartSource) : State × OpResult :=
  match (s.arm k).state, (s.arm k).batch with
  | .ready, some b =>
    match s.startRefusal k with
    | some r => (s, .refused r)
    | none =>
      match s.evaluate k b.recipe with
      | .refused r => (s, .refused r)
      | .wait =>
        if 3 ≤ s.additive.waiting.length then (s, .refused .recipeUnavailable) else s.takeStart k b source true
      | .granted => s.takeStart k b source false
  | _, _ => (s, .notNow)

/-! ### Stop, suspend, resume -/

/-- R102. -/
def State.stop (s : State) (k : Fin 4) : State × OpResult :=
  match (s.arm k).state with
  | .lowStart | .full | .slowdown | .suspended => (s.enterStopping k .stopped, .accepted)
  | .stopping => (s, .accepted)
  | .waitInjector =>
    match (s.arm k).batch with
    | some b => ((s.unwait k).backToReady k b.preset, .accepted)
    | none => ((s.unwait k).moveArm k .ready, .accepted)
  | .ready => (s.cancel k, .accepted)
  | .idle => (s, .notNow)

/-- R100. -/
def State.suspendOp (s : State) (k : Fin 4) : State × OpResult :=
  match (s.arm k).state with
  | .lowStart | .full | .slowdown => (s.suspend k .request, .accepted)
  | .suspended => (s, .accepted)
  | .idle | .ready | .waitInjector | .stopping => (s, .notNow)

/-- R101: a resume that is taken. -/
def State.takeResume (s : State) (k : Fin 4) : State :=
  let cause := (s.arm k).batch.bind Batch.cause
  let s1 := s.updBatch k fun b => { b with cause := none }
  ((s1.setArm k { s1.arm k with noFlow := 0, stopTimer := none, zeroCloses := 0 }).moveArm k .lowStart).raise
    (.armResumed k cause)

/-- R101. -/
def State.resume (s : State) (k : Fin 4) : State × OpResult :=
  if (s.arm k).state ≠ .suspended ∨ s.bayState ≠ .session then (s, .notNow)
  else if !s.permitted || s.safety.deadman.expired then (s, .refused .permissiveOpen)
  else (s.takeResume k, .accepted)

end Sys2Proof.Machine
end

