-- ==== Sys2Proof/Machine/BatchEnd.lean ====
section
/-! DEFINITION. Overrun and batch end (R105, R106), with the batch line (R78, R79, R135). -/

namespace Sys2Proof.Machine

/-- R78: the delivered litres of the batch's preset basis. -/
def deliveredLitres (b : Batch) : Nat := litres b.delivered

/-- A dose record as its line carries it (R135). A record that was never finalised cannot reach a line: R127 comes
first. -/
def lineDose (d : DoseRec) : LineDose where
  code := d.code
  injector := d.injector
  verdict := d.verdict.getD (d.judge d.expected)
  owed := d.owed
  done := d.done
  rate := d.rate
  expected := d.expected
  measured := d.measured

/-- R106 step 5, R147: the batch line; `t` is the arm's gross totalizer at the end. -/
def batchLine (k : Fin 4) (b : Batch) (reason : EndReason) (t : Totalizer) : BatchLine where
  arm := k
  compartment := b.compartment
  code := b.code
  recipe := b.recipe
  preset := b.preset
  grossL := litres b.gross
  standardL := litres b.standard
  average := averageTemp b.weight b.gross
  k5 := b.k5
  endReason := reason
  flags := { b.flags with meterFault := b.flags.meterFault || b.startDamaged || t.damaged }
  totalStart := b.totalStart
  totalEnd := t.value
  doses := b.doses.map lineDose

/-- R4: the compartment of the session's vehicle takes the batch's product as its last product. -/
def State.markProduct (s : State) (b : Batch) : State :=
  match s.session.record with
  | some r => if 0 < b.gross then s.setLastProduct r.vehicle b.compartment b.product else s
  | none => s

/-- Step 7 of R106: the arm returns to IDLE and its batch record, K5 and timers go. -/
def State.dropBatch (s : State) (k : Fin 4) : State :=
  let s1 := s.setArm k { s.arm k with batch := none, stopTimer := none, zeroCloses := 0 }
  (s1.setVol k { s1.vol k with lostTimer := none }).moveArm k .idle

/-- Steps 2 to 6 of R106 for the batch `b` with its dose records finalised. BATCH_ENDED carries the line's flags, the
METER_FAULT of a damaged totalizer (R147) among them (DESIGN CHOICE, log 58). -/
def State.recordEnd (s : State) (k : Fin 4) (b : Batch) (reason : EndReason) : State :=
  let s1 := (((s.unreserve b.preset).charge (deliveredLitres b)).markProduct b).unclaim b.compartment
  let l := batchLine k b reason (Vec.get s1.custody.gross k)
  (s1.updSession fun r => { r with lines := r.lines ++ [l] }).raise
    (.batchEnded k b.compartment b.code reason l.grossL l.standardL l.flags b.overrun)

/-- R106: the batch of arm `k` ends. -/
def State.batchEnd (s : State) (k : Fin 4) (reason : EndReason) (inReset : Bool) : State :=
  let s1 := s.releaseDoses k inReset
  match (s1.arm k).batch with
  | some b => (s1.recordEnd k b reason).dropBatch k
  | none => s1.dropBatch k

/-- A list that keeps its last `n` entries. -/
def keepLast (n : Nat) (l : List α) : List α := l.drop (l.length - n)

end Sys2Proof.Machine

namespace Sys2Proof
open Machine

/-- R105: the observed overrun. It is 0 where a session record rewritten as read (R188) leaves delivered at stopping absent
or above delivered (DESIGN CHOICE, log 67). -/
def Batch.observed (b : Batch) : Nat := b.delivered - b.atStopping.getD b.delivered

end Sys2Proof

namespace Sys2Proof.Machine

/-- R105: the overrun is stored, joins the history of a COMPLETE batch, and may raise OVERRUN. -/
def State.observeOverrun (s : State) (k : Fin 4) : State :=
  match (s.arm k).batch with
  | some b =>
    let o := b.observed
    let s1 := s.updBatch k fun b => { b with overrun := some o }
    let s2 := if b.endReason = some .complete ∧ b.basis = s.bay.basis then
        s1.setArm k { s1.arm k with history := keepLast 4 ((s1.arm k).history ++ [o]) }
      else s1
    if (s.armEntry k).maxOverrun * 1000 < o then s2.armFault .overrun k else s2
  | none => s

/-- The end reason a batch holds. Every entry to STOPPING records one (R103); a STOPPING batch that a session record
rewritten as read (R188) leaves without one ends with FAULT (DESIGN CHOICE, log 66). -/
def State.endReasonOf (s : State) (k : Fin 4) : EndReason := ((s.arm k).batch.bind Batch.endReason).getD .fault

/-- R104 to R106: the STOPPING phase is over and the batch ends; in CLOSING the last one closes the session (R23). -/
def State.endStopped (s : State) (k : Fin 4) : State :=
  let s1 := (s.setArm k { s.arm k with stopTimer := none }).observeOverrun k
  (s1.batchEnd k (s1.endReasonOf k) false).closeIfDone

end Sys2Proof.Machine
end

