-- ==== Sys2Proof/Machine/Metering.lean ====
section
/-! DEFINITION. The meter channels: edges, the window close with its six steps, and the channel start (R47 to R62, R76,
R94 to R99, R104). -/

namespace Sys2Proof.Machine

/-! ### Pulses (R48, R53, R54) -/

/-- A forward pulse (R53). -/
def Meter.forward (m : Meter) : Meter :=
  if 0 < m.debt then { m with debt := m.debt - 1, excess := false } else { m with n := m.n + 1, excess := false }

/-- A reverse pulse (R48, R53): the counter, and the debt below the allowance. -/
def Meter.reverse (m : Meter) (allowance : Nat) : Meter :=
  { m with reverses := bump 65535 m.reverses, debt := if m.debt < allowance then m.debt + 1 else m.debt }

/-- R48 and R53 for a rising edge on A; R54 raises METER_REVERSE at an excess reverse pulse with the flag clear. -/
def State.aEdge (s : State) (k : Fin 4) : State :=
  let m := { s.meter k with seenA := true }
  if !m.running then s.setMeter k m
  else
    let c := { m with aCount := m.aCount + 1 }
    if !m.seenB then s.setMeter k c.forward
    else if m.debt < s.bay.reverseAllowance ∨ m.excess then s.setMeter k (c.reverse s.bay.reverseAllowance)
    else (s.setMeter k { c.reverse s.bay.reverseAllowance with excess := true }).armFault .meterReverse k

/-- R48 for a rising edge on B. -/
def Meter.bEdge (m : Meter) : Meter :=
  { m with seenB := true, bCount := if m.running then m.bCount + 1 else m.bCount }

/-! ### The window close (R51) -/

/-- Steps 1 and 2 of R51. -/
def Meter.fix (m : Meter) (now : Nat) : Meter :=
  { m with
    lastN := m.n, lastA := m.aCount, lastB := m.bCount, q := flowRate m.n m.ppl
    aCount := 0, bCount := 0, n := 0, window := some (now + 250) }

/-- The difference of two counts without sign. -/
def absDiff (a b : Nat) : Nat := (a - b) + (b - a)

/-- Step 3 of R51 (R55). -/
def State.discrepancy (s : State) (k : Fin 4) : State :=
  let m := s.meter k
  let d := absDiff m.lastA m.lastB
  let h := keepLast 8 (m.history ++ [d])
  let c := { m with discrepancies := min 65535 (m.discrepancies + d), history := h }
  if s.bay.discrepancyLimit < h.sum then (s.setMeter k { c with history := [] }).armFault .meterPulse k
  else s.setMeter k c

end Sys2Proof.Machine

namespace Sys2Proof
open Machine

/-- The batch with one window credited (R76, R70, R77). Every batch past READY has a K5 (R75), but one that a session
record rewritten as read left without is credited with K5 0 (DESIGN CHOICE, log 57). -/
def Batch.credited (b : Batch) (temp : TempRec) (g rg : Nat) : Batch :=
  let x := standardIncrement g (b.k5.getD 0) b.rs
  { b with
    gross := b.gross + g, standard := b.standard + x.1, rg := rg, rs := x.2, weight := b.weight + temp.t * g
    flags := { b.flags with
      tempHeld := b.flags.tempHeld || temp.state == .stale
      tempClamped := b.flags.tempClamped || temp.clamped } }

end Sys2Proof

namespace Sys2Proof.Machine

/-- The window used the temperature record (R72). -/
def TempRec.use (t : TempRec) : TempRec := { t with processed := t.state != .absent }

/-- Step 4 of R51 on the batch path (R76), then the additive demands; a window whose increment is 0 makes none (R120). -/
def State.creditBatch (s : State) (k : Fin 4) (b : Batch) (f : Nat) : State :=
  let m := s.meter k
  let g := grossIncrement m.lastN f m.ppl b.rg
  let x := standardIncrement g.1 (b.k5.getD 0) b.rs
  let t := ((s.setArm k { s.arm k with batch := some (b.credited (s.vol k).temp g.1 g.2) }).creditGross k
    g.1).creditStandard k x.1
  if g.1 = 0 then t else t.demands k

/-- Step 4 of R51 on the unauthorised path (R57, R76). -/
def State.creditUnauth (s : State) (k : Fin 4) (f : Nat) : State :=
  let m := s.meter k
  let g := grossIncrement m.lastN f m.ppl (s.vol k).unauthRem
  ((s.setVol k { s.vol k with unauthRem := g.2 }).setMeter k
    { m with unauth := min 999999999 (m.unauth + g.1) }).creditGross k g.1

/-- Step 4 of R51: the factor is selected, and the arm's state routes the increment (R57, R66, R72). -/
def State.credit (s : State) (k : Fin 4) : State :=
  let v := s.vol k
  let f := meterFactor v.curve (s.meter k).q
  let s1 := s.setVol k { v with factor := f, temp := v.temp.use }
  match (s.arm k).state.running, (s.arm k).batch with
  | true, some b => s1.creditBatch k b (f.getD 0)
  | _, _ => s1.creditUnauth k (f.getD 0)

/-- Step 5 of R51 (R58). -/
def State.unauthCheck (s : State) (k : Fin 4) : State :=
  let m := s.meter k
  if s.bay.unauthLimit * 1000 < m.unauth ∧ !m.unauthFlag then
    (s.setMeter k { m with unauthFlag := true }).armFault .unauthFlow k
  else s

/-- R95: the predicted overrun. -/
def predicted (history : List Nat) (maxOverrun : Nat) : Nat :=
  if history.isEmpty then 0 else min (history.sum / history.length) (maxOverrun * 1000)

/-- The safe capacity of a batch's compartment in L, 0 from an entry that reads as empty (R94). -/
def State.capacity (s : State) (b : Batch) : Nat :=
  match s.session.record with
  | some r => ((s.compartment r b.compartment).map Compartment.capacity).getD 0
  | none => 0

/-- R94: the end reason of the stop test that holds, if any. -/
def State.stopTest (s : State) (k : Fin 4) (b : Batch) : Option EndReason :=
  if b.preset * 1000 ≤ b.delivered + predicted (s.arm k).history (s.armEntry k).maxOverrun then some .complete
  else if s.capacity b * 1000 ≤ b.gross then some .capacity
  else none

/-- R96: the flow state a batch moves to, if any. -/
def State.flowMove (s : State) (k : Fin 4) (b : Batch) : Option ArmState :=
  let e := s.armEntry k
  let near : Bool := b.remaining ≤ (e.slowdown * 1000 : Nat)
  match (s.arm k).state with
  | .lowStart => if near then some .slowdown else if e.lowStart * 1000 ≤ b.delivered then some .full else none
  | .full => if near then some .slowdown else none
  | _ => none

/-- R97: the no-flow time at a close in a flow state. -/
def State.noFlow (s : State) (k : Fin 4) (n : Nat) : State :=
  let t := if n = 0 then (s.arm k).noFlow + 250 else 0
  let s1 := s.setArm k { s.arm k with noFlow := t }
  if (s.armEntry k).noFlowTimeout * 1000 ≤ t then s1.suspend k .noFlow else s1

/-- R94 to R97, in order; the first that moves the arm ends the examination. -/
def State.examineFlow (s : State) (k : Fin 4) (b : Batch) (n : Nat) : State :=
  match s.stopTest k b with
  | some r => s.enterStopping k r
  | none =>
    match s.flowMove k b with
    | some st => s.moveArm k st
    | none => s.noFlow k n

/-- R99 at a close in SUSPENDED. -/
def State.examineSuspended (s : State) (k : Fin 4) (n : Nat) : State :=
  let a := s.arm k
  if n = 0 then
    s.setArm k { a with
      zeroCloses := a.zeroCloses + 1, stopTimer := if 2 ≤ a.zeroCloses + 1 then none else a.stopTimer }
  else if a.stopTimer.isSome then s.setArm k { a with zeroCloses := 0 }
  else s.setArm k { a with zeroCloses := 0, stopTimer := some (s.now + (s.armEntry k).stopTimeout * 1000) }

/-- R104 at a close in STOPPING. -/
def State.examineStopping (s : State) (k : Fin 4) (n : Nat) : State :=
  let a := s.arm k
  if n = 0 then
    let s1 := s.setArm k { a with zeroCloses := a.zeroCloses + 1 }
    if 2 ≤ a.zeroCloses + 1 then s1.endStopped k else s1
  else s.setArm k { a with zeroCloses := 0 }

/-- Step 6 of R51: the arm controller examines the window in the state the arm is in. -/
def State.examine (s : State) (k : Fin 4) : State :=
  let n := (s.meter k).lastN
  match (s.arm k).state, (s.arm k).batch with
  | .lowStart, some b | .full, some b | .slowdown, some b => s.examineFlow k b n
  | .suspended, _ => s.examineSuspended k n
  | .stopping, _ => s.examineStopping k n
  | _, _ => s

/-- R51: the window of a running channel closes. The response to a fault that step 3 raises is applied with the raising,
before step 4 credits the window: R51 says only that it comes before step 6 (DESIGN CHOICE, log 65). -/
def State.closeWindow (s : State) (k : Fin 4) : State :=
  if (s.meter k).running then
    (((((s.setMeter k ((s.meter k).fix s.now)).discrepancy k).credit k).unauthCheck k).examine k)
  else s

/-! ### Channel start (R50, R61, R62, R65, R66) -/

/-- The channel at a start: its figures of the last close go, the reported counts of A and B too (DESIGN CHOICE, log
39), its debt, flag and history are cleared, and it runs or stops by its entry. The open window's counts are those
given. -/
def Meter.start (m : Meter) (e : ArmEntry) (now : Nat) (a b n : Nat) : Meter :=
  { m with
    running := e.enabled, ppl := e.ppl
    aCount := if e.enabled then a else 0, bCount := if e.enabled then b else 0, n := if e.enabled then n else 0
    lastN := 0, lastA := 0, lastB := 0, q := 0, debt := 0, excess := false, history := []
    window := if e.enabled then some (now + 250) else none }

/-- The volume engine's copies at a start (R65, R66). -/
def VolArm.start (v : VolArm) (e : ArmEntry) : VolArm :=
  { v with curve := if e.enabled then e.curve else [], factor := if e.enabled then meterFactor e.curve 0 else none }

/-- R50: the channel of arm `k` starts with the counts given in its first window. -/
def State.startChannel (s : State) (k : Fin 4) (a b n : Nat) : State :=
  (s.setMeter k ((s.meter k).start (s.armEntry k) s.now a b n)).setVol k ((s.vol k).start (s.armEntry k))

/-- The effects of a taken ARM write or clear on one arm, its new entry stored (R82, R50, R73, R80): the overrun history
goes, a running channel delivers its short window, the channel starts, the temperature record goes. -/
def State.restartArm (s : State) (k : Fin 4) : State :=
  let s1 := (s.setArm k { s.arm k with history := [] }).closeWindow k
  let s2 := s1.startChannel k 0 0 0
  s2.setVol k { (s2.vol k).noTemp with unauthRem := 0 }

end Sys2Proof.Machine
end

