-- ==== Sys2Proof/Machine/UPort.lean ====
section
/-! DEFINITION. The U port: link state, requests and their one reply, slot filling (R156 to R164, R176, R193). -/

namespace Sys2Proof.Machine

/-! ### Answers (R176) -/

/-- A taken request's answer. -/
def accept (detail : Nat) (data : List Byte) : Answer := ⟨.accepted, detail, data⟩

/-- Taken, with detail 0 and no data. -/
def taken : Answer := ⟨.accepted, 0, []⟩

/-- A general refusal: detail 0, no data. -/
def deny (c : AnswerCode) : Answer := ⟨c, 0, []⟩

/-! ### Link state (R164) -/

/-- A valid frame to the UB4 or to all stations. -/
def State.linkFrame (s : State) : State :=
  let s1 := s.withUport { s.uport with silence := some (s.now + s.bay.linkSilence * 1000), assembling := false }
  if s.uport.link = .standalone then
    (s1.withUport { s1.uport with link := .online }).raise (.linkState .online)
  else s1

/-! ### Slots (R159, R161, R163) -/

/-- R159: the slots offered beside answer data of `a` bytes. -/
def slotsOffered (a : Nat) : Nat := min 3 ((236 - a) / 56)

/-- The other class of R163. -/
def otherClass : SlotClass → SlotClass
  | .event => .relay | .relay => .event

/-- R161: the head of the event queue leaves; a LOST record joins at once when events were lost. -/
def UPort.popEvent (u : UPort) (clock : Nat) : UPort :=
  if 0 < u.lost then { u with events := u.events.drop 1 ++ [⟨.lost u.lost, clock⟩], lost := 0 }
  else { u with events := u.events.drop 1 }

/-- The oldest filled relay record (R162). -/
def firstFilled : List RelayPlace → Option RelayRec
  | [] => none
  | .filled r :: _ => some r
  | .reserved _ _ :: l => firstFilled l

/-- The list without its oldest filled record (R162). -/
def dropFilled : List RelayPlace → List RelayPlace
  | [] => []
  | .filled _ :: l => l
  | .reserved t a :: l => .reserved t a :: dropFilled l

/-- What a class gives next, with the port after it is taken. -/
def UPort.take (u : UPort) (clock : Nat) (c : SlotClass) : Option (UPort × SlotRec) :=
  match c with
  | .event =>
    match u.events with
    | e :: _ => some (u.popEvent clock, .event e)
    | [] => none
  | .relay =>
    match firstFilled u.relayUp with
    | some r => some ({ u with relayUp := dropFilled u.relayUp }, .relay r)
    | none => none

/-- A slot goes to the wanted class when it holds a record, and otherwise to the other (R163). -/
def UPort.takeSlot (u : UPort) (clock : Nat) (want : SlotClass) : Option (UPort × SlotRec × SlotClass) :=
  match u.take clock want with
  | some (v, r) => some (v, r, want)
  | none =>
    match u.take clock (otherClass want) with
    | some (v, r) => some (v, r, otherClass want)
    | none => none

/-- R163, steps 2 and 3: up to `n` slots, the next one wanted by `want`. -/
def UPort.fill (clock : Nat) : (n : Nat) → (want : SlotClass) → UPort → UPort × List SlotRec
  | 0, _, u => (u, [])
  | n + 1, want, u =>
    match u.takeSlot clock want with
    | none => (u, [])
    | some (v, r, c) =>
      let rest := UPort.fill clock n (otherClass c) v
      (rest.1, r :: rest.2)

/-- R163, step 1: the first-claim class after a reply offered `n` slots. -/
def UPort.nextClaim (u : UPort) (clock n : Nat) : SlotClass :=
  if n = 0 then u.firstClaim
  else
    match u.takeSlot clock u.firstClaim with
    | some (_, _, c) => otherClass c
    | none => u.firstClaim

/-- R158, R163: the reply is built with its slots, and the request stays in hand until it is sent. -/
def State.reply (s : State) (kind tag : Byte) (a : Answer) : State :=
  let n := slotsOffered a.data.length
  let x := s.uport.fill s.custody.clock n s.uport.firstClaim
  let r : Reply :=
    ⟨kind, tag, s.uport.address, a, x.2, !x.1.events.isEmpty, (firstFilled x.1.relayUp).isSome, 0 < x.1.lost⟩
  s.withUport { x.1 with
    firstClaim := s.uport.nextClaim s.custody.clock n, inHand := some r, phase := .built s.now }

/-- R158: the ms between the end of a request and the begin of its reply: 3 character times at least (2 ms at speed code
0, else 1 ms), 5 ms at most, between them a free value (log 30). -/
def UPort.replyWait (u : UPort) (built : Nat) : Nat :=
  max (if u.speed = 0 then 2 else 1) (min 5 (Config.replyDelay built))

/-- R155, R158: the reply that is due begins, and UDE is asserted. -/
def UPort.beginReply (u : UPort) (now : Nat) : UPort :=
  match u.phase with
  | .built a => if a + u.replyWait a ≤ now then { u with phase := .sending } else u
  | .none | .sending => u

/-! ### Requests (R157, R193) -/

/-- An address character while a request is in hand (R157). -/
def State.countOverlap (s : State) : State :=
  s.withUport { s.uport with overlapping := bump 65535 s.uport.overlapping }

/-- A request to the UB4's own address: the length check, the owner, the one reply. The U receiver takes nothing while
UDE is asserted (R155). -/
def State.request (s : State) (kind tag : Byte) (lengthOk : Bool) (owner : State → State × Answer) : State :=
  if s.ude then s
  else if s.uport.inHand.isSome then s.countOverlap
  else if !s.addressed then s
  else
    let s1 := s.linkFrame
    if lengthOk then
      let x := owner s1
      x.1.reply kind tag x.2
    else s1.reply kind tag (deny .badLength)

/-- The request codes of Table 10-3. -/
def knownKinds : List Byte := (List.range 23).map fun n => BitVec.ofNat 8 (n + 1)

end Sys2Proof.Machine
end

