-- ==== Sys2Proof/Machine/DPort.lean ====
section
/-! DEFINITION. The D port: station states, the cursor, turns and their outcomes, relays, forwarded copies (R165 to
R173, R195). -/

namespace Sys2Proof.Machine

/-! ### Counters and queues -/

def State.countUnexpected (s : State) : State :=
  s.withDport { s.dport with unexpected := bump 65535 s.dport.unexpected }

/-- A record joins the tail of the relay-up queue. -/
def State.pushRelayUp (s : State) (p : RelayPlace) : State :=
  s.withUport { s.uport with relayUp := s.uport.relayUp ++ [p] }

/-- R171: the forwarded copy of an accepted record, or its drop. -/
def State.forwardCopy (s : State) (a : Byte) (role : Role) (record : List Byte) : State :=
  if s.uport.relayUp.length < 8 then s.pushRelayUp (.filled (.copy a role record))
  else s.withDport { s.dport with relayDrop := bump 65535 s.dport.relayDrop }

/-- An entry is a TEMP_XMTR whose arm is not IDLE (R166, R172, R173). -/
def State.lockedEntry (s : State) (e : DeviceEntry) : Bool :=
  e.role == some .tempXmtr && match e.arm with
    | some k => (s.arm k).state != .idle
    | none => false

/-! ### Station states (R167) -/

/-- R167: a response. -/
def State.stationResponded (s : State) (i : Fin 12) : State :=
  let x := s.station i
  let s1 := s.setStation i { x with state := .online, misses := 0 }
  let e := s.device i
  if x.state = .offline then s1.raise (.deviceState e.address e.role e.arm .online) else s1

/-- R170: every pending verdict of a station is discarded and counted. -/
def State.dropVerdicts (s : State) (i : Fin 12) : State :=
  let n := s.dport.verdictDrop + (s.station i).verdicts.length
  let s1 := s.setStation i { s.station i with verdicts := [], carried := 0 }
  s1.withDport { s1.dport with verdictDrop := min 65535 n }

/-- R7: the tag candidate becomes absent when the tag reader goes OFFLINE. -/
def State.dropCandidate (s : State) (r : Option Role) : State :=
  if r = some .tagReader then s.withSession { s.session with candidate := none } else s

/-- R167: a station goes OFFLINE. Its verdicts are dropped after DEVICE_LOST's response, a REFUSE that the response adds
among them (DESIGN CHOICE, log 54). -/
def State.goOffline (s : State) (i : Fin 12) : State :=
  let e := s.device i
  let s1 := (s.setStation i { s.station i with state := .offline, misses := 3 }).raise
    (.deviceState e.address e.role e.arm .offline)
  let s2 := match e.role with
    | some .cardReader | some .tagReader | some .tempXmtr =>
      s1.raiseFault .deviceLost e.arm (.device e.address) false none
    | some .keypad | none => s1
  (s2.dropVerdicts i).dropCandidate e.role

/-- R167: a miss. -/
def State.stationMissed (s : State) (i : Fin 12) : State :=
  let x := s.station i
  if x.state = .offline then s
  else if 3 ≤ x.misses + 1 then s.goOffline i
  else s.setStation i { x with state := .silent, misses := x.misses + 1 }

/-! ### Rounds and the cursor (R168) -/

/-- An entry is a station of round `r`. -/
def State.inRound (s : State) (r : Nat) (i : Fin 12) : Bool :=
  (s.device i).address != 0 && ((s.station i).state != .offline || r == 0)

/-- The first station of round `r`. -/
def State.firstStation (s : State) (r : Nat) : Option (Fin 12) := deviceIxs.find? (s.inRound r)

/-- R168: the cursor goes to the next station; past the last entry the next round begins. -/
def State.advance (s : State) : State :=
  match s.dport.cursor with
  | some c =>
    match deviceIxs.find? fun i => decide (c < i) && s.inRound s.dport.round i with
    | some i => s.withDport { s.dport with cursor := some i }
    | none =>
      let r := if s.dport.round = 7 then 0 else s.dport.round + 1
      s.withDport { s.dport with round := r, cursor := s.firstStation r }
  | none => s

/-- R168 at a turn: a cursor on no station of the round is moved on; without a cursor the first of the round is taken.
While no entry is a station of the round, the cursor and the round stay (DESIGN CHOICE, log 44). -/
def State.settleCursor (s : State) : State :=
  match s.firstStation s.dport.round, s.dport.cursor with
  | none, _ => s
  | some _, some c => if s.inRound s.dport.round c then s else s.advance
  | some i, none => s.withDport { s.dport with cursor := some i }

/-- The station whose turn it is (R168): the entry at the cursor, when it is a station of the round. -/
def State.turnStation (s : State) : Option (Fin 12) := s.dport.cursor.filter (s.inRound s.dport.round)

/-! ### Turns (R169, R170, R173) -/

/-- What the next turn sends. -/
inductive TurnChoice
  | nothing
  | verdict (i : Fin 12)
  | relay
  | poll (i : Fin 12)
deriving DecidableEq, Repr

/-- A relay can be handled: one waits and a place can be reserved. -/
def State.relayReady (s : State) : Bool := !s.dport.relayDown.isEmpty && s.uport.relayUp.length < 8

/-- R169, for a settled cursor. No frame is begun before the turn in progress has ended, or while a frame is being
received (R155). A relay disposed of without a frame while there is no station
leaves the turn passed: the poll of a station that appears comes first (DESIGN CHOICE, log 45). -/
def State.turnChoice (s : State) : TurnChoice :=
  if s.dport.turn.isSome || s.dport.assembling then .nothing
  else
    match s.turnStation with
    | some i =>
      if !(s.station i).verdicts.isEmpty then .verdict i
      else if s.relayReady && !s.dport.passed then .relay
      else .poll i
    | none => if s.relayReady then .relay else .nothing

/-- A turn's frame is begun: DDE is asserted. The tag character is a free value (log 11). -/
def State.beginTurn (s : State) (kind : TurnKind) (a : Byte) (payload : List Byte) : State :=
  let t : Turn := ⟨kind, a, Config.dFrameTag s.freeUsed, payload, .sending, none⟩
  (s.withDport { s.dport with turn := some t, passed := false }).withFreeUsed (s.freeUsed + 1)

/-- A verdict's item in the verdict frame (R195). -/
def verdictItem : Verdict → List Byte
  | .accept => be 1 1 ++ be 1 255 ++ be 1 0 ++ be 1 0 ++ be 3 0
  | .refuse r => be 1 2 ++ be 1 255 ++ be 1 (sessionReasonCode r) ++ be 1 0 ++ be 3 0
  | .stopArmsFirst => be 1 3 ++ be 1 255 ++ be 1 0 ++ be 1 0 ++ be 3 0
  | .setupAccepted a p c => be 1 4 ++ [a] ++ be 1 0 ++ be 1 (bit c) ++ be 3 p
  | .started a => be 1 5 ++ [a] ++ be 1 0 ++ be 1 0 ++ be 3 0
  | .waiting a => be 1 6 ++ [a] ++ be 1 0 ++ be 1 0 ++ be 3 0
  | .accepted a => be 1 7 ++ [a] ++ be 1 0 ++ be 1 0 ++ be 3 0
  | .refused a r => be 1 8 ++ [a] ++ be 1 (batchReasonCode r) ++ be 1 0 ++ be 3 0
  | .notNow a => be 1 9 ++ [a] ++ be 1 0 ++ be 1 0 ++ be 3 0

/-- The verdict frame's payload (R195). -/
def verdictPayload (l : List Verdict) : List Byte := be 1 l.length ++ (l.map verdictItem).flatten

/-- R170: a verdict turn carries the station's whole list. -/
def State.verdictTurn (s : State) (i : Fin 12) : State :=
  let x := s.station i
  (s.setStation i { x with carried := x.verdicts.length }).beginTurn .verdict (s.device i).address
    (verdictPayload x.verdicts)

/-- R173: a relay disposed of without a frame; the turn passes to the next choice. -/
def State.passRelay (s : State) (r : Relay) (o : RelayOutcome) : State :=
  let s1 := s.pushRelayUp (.filled (.outcome r.tag r.address o []))
  s1.withDport { s1.dport with passed := true }

/-- R173: the relay at the head of the queue is handled. -/
def State.handleRelay (s : State) : State :=
  match s.dport.relayDown with
  | r :: l =>
    let s1 := s.withDport { s.dport with relayDown := l }
    match s1.findDevice r.address with
    | none => s1.passRelay r .noSuchStation
    | some i =>
      if s1.lockedEntry (s1.device i) then s1.passRelay r .locked
      else (s1.pushRelayUp (.reserved r.tag r.address)).beginTurn .relay r.address r.payload
  | [] => s

/-- The reserved place, of which there is one at most, takes the outcome of its turn in its own position (R162, R173). -/
def State.relayOutcome (s : State) (o : RelayOutcome) (payload : List Byte) : State :=
  let f := fun (p : RelayPlace) => match p with
    | .reserved t a => RelayPlace.filled (.outcome t a o payload)
    | .filled r => .filled r
  s.withUport { s.uport with relayUp := s.uport.relayUp.map f }

/-- The turn is over. -/
def State.clearTurn (s : State) : State := s.withDport { s.dport with turn := none }

/-- R170: the verdicts that the answered frame carried leave the list. -/
def State.dropCarried (s : State) (i : Fin 12) : State :=
  let x := s.station i
  s.setStation i { x with verdicts := x.verdicts.drop x.carried, carried := 0 }

/-- R167, R168, R170: a turn ends with a response; a relay's payload goes up (R173). The cursor advances (R169) also where
the entry it stands on was rewritten within the turn (DESIGN CHOICE, log 76). -/
def State.turnAnswered (s : State) (t : Turn) (payload : List Byte) : State :=
  let s1 := s.clearTurn
  let s2 := match s1.findDevice t.address with
    | some i =>
      let s2 := s1.stationResponded i
      if t.kind = TurnKind.verdict then s2.dropCarried i else s2
    | none => s1
  if t.kind = TurnKind.relay then s2.relayOutcome .replied payload else s2.advance

/-- R167, R169, R173: a turn ends as a miss, no station's where no entry holds its address any more. The cursor advances
(R169) also where the entry it stands on was rewritten within the turn, so that its new content is polled at the cursor's
next visit (DESIGN CHOICE, log 76). -/
def State.turnMissed (s : State) (t : Turn) : State :=
  let s1 := s.clearTurn
  let s2 := match s1.findDevice t.address with
    | some i => (s1.setStation i { s1.station i with carried := 0 }).stationMissed i
    | none => s1
  if t.kind = TurnKind.relay then s2.relayOutcome .noResponse [] else s2.advance

/-- A frame of the D line has ended without being the turn's response: a turn past its timeout ends as a miss (R169). -/
def State.endOverdue (s : State) : State :=
  match s.dport.turn with
  | some t => if t.phase = TurnPhase.overdue then s.turnMissed t else s
  | none => s

/-- The turn that a response from a source address ends, if any (R169): the station's entry still holds the address
(R166). -/
def State.awaited (s : State) (source : Byte) : Option Turn :=
  match s.dport.turn with
  | some t =>
    if t.phase ≠ TurnPhase.sending ∧ t.address = source ∧ (s.findDevice source).isSome then some t else none
  | none => none

/-- R169: an unexpected frame is counted and discarded. -/
def State.unexpectedFrame (s : State) : State :=
  if s.dde then s
  else ((s.withDport { s.dport with assembling := false }).countUnexpected).endOverdue

end Sys2Proof.Machine
end

