-- ==== Sys2Proof/Machine/Sessions.lean ====
section
/-! DEFINITION. Card presentation, tag confirmation, server verdicts, the ways a session ends on request or in time (R7,
R8, R12 to R15, R21 to R23), and the deadman and permissive effects on the arms (R31, R32, R35, R36). -/

namespace Sys2Proof.Machine

/-! ### Presentation (R12 to R15) -/

/-- R13: the permit index, or the refusal. -/
def State.permitCheck (s : State) (card tag : Nat) : Except SessionReason Nat :=
  match s.findPermit card with
  | none => .error .cardUnknown
  | some i =>
    let e := s.permit i
    match e.state with
    | .suspended => .error .permitSuspended
    | .lockedOut => .error .permitLocked
    | .active =>
      if e.expiryDay < s.bayDay then .error .permitExpired
      else if e.vehicles.isEmpty || e.vehicles.contains tag then .ok i
      else .error .vehicleNotAllowed

/-- R13: the local permit decision; a refusal reports the tag `shown`. -/
def State.localDecision (s : State) (card tag vehicle shown : Nat) : State :=
  match s.permitCheck card tag with
  | .error r => s.refuse card shown r 0
  | .ok i => s.openSession ⟨card, tag, some i, vehicle, .local_, 0, 0⟩

/-- Check 2 of R12: the vehicle index, or the refusal. -/
def State.vehicleCheck (s : State) (tag : Nat) : Except SessionReason Nat :=
  match s.findVehicle tag with
  | none => .error .vehicleUnknown
  | some i =>
    let e := s.vehicle i
    if e.state = .barred then .error .vehicleBarred
    else if e.inspectionDay < s.bayDay then .error .vehicleExpired
    else .ok i

/-- Checks 2 and 3 of R12, which an AUTHORISE applies again (R15). -/
def State.admissible (s : State) (tag : Nat) : Except SessionReason Nat :=
  match s.vehicleCheck tag with
  | .error r => .error r
  | .ok i => if s.placeFree then .ok i else .error .noteQueueFull

/-- R14: a pending presentation. -/
def State.present (s : State) (card tag vehicle : Nat) : State :=
  let w := s.bay.authorisationWait
  (s.withSession { s.session with
    presentation := some ⟨card, tag, vehicle, s.now, s.now + w * 1000⟩ }).raise (.cardPresented card tag w)

/-- R12 in IDLE with no pending presentation. -/
def State.newPresentation (s : State) (card : Nat) : State :=
  match s.freshTag with
  | none => s.refuse card 0 .noVehicle 0
  | some tag =>
    match s.admissible tag with
    | .error r => s.refuse card tag r 0
    | .ok i =>
      if s.bay.permitSource = .server ∧ s.uport.link = .online then s.present card tag i
      else s.localDecision card tag i tag

/-- The session's own card (R12, R21). -/
def State.ownCard (s : State) : State :=
  if s.noneRunning then (s.orderlyClose .orderly).tellReader .accept else s.tellReader .stopArmsFirst

/-- R12. -/
def State.takeCard (s : State) (card : Nat) : State :=
  match s.bayState, s.session.record, s.session.presentation with
  | .session, some r, _ => if r.card = card then s.ownCard else s.refuse card s.shownTag .bayBusy 0
  | .idle, _, some p => if p.card = card then s else s.refuse card s.shownTag .bayBusy 0
  | .idle, _, none => s.newPresentation card
  | _, _, _ => s.refuse card s.shownTag .bayNotReady 0

/-- The pending presentation, when it is of the card named (R15). -/
def State.pendingOf (s : State) (card : Nat) : Option Presentation :=
  match s.session.presentation with
  | some p => if p.card = card then some p else none
  | none => none

/-- The pending presentation is removed. -/
def State.unpresent (s : State) : State := s.withSession { s.session with presentation := none }

/-- R15: AUTHORISE. -/
def State.authorise (s : State) (card : Nat) (products : BitVec 16) (quota : Nat) : State × Answer :=
  if 999999 < quota then (s, deny .badValue)
  else
    match s.pendingOf card with
    | none => (s, deny .late)
    | some p =>
      let s1 := s.unpresent
      match s1.admissible p.tag with
      | .error r => (s1.refuse card s1.heldTag r 0, accept (sessionReasonCode r) [])
      | .ok i => (s1.openSession ⟨card, p.tag, s1.findPermit card, i, .server, products, quota⟩, taken)

/-- R15: DENY. -/
def State.denyCard (s : State) (card serverReason : Nat) : State × Answer :=
  match s.pendingOf card with
  | none => (s, deny .late)
  | some _ => (s.unpresent.refuse card s.heldTag .serverDenied serverReason, taken)

/-- R14: the deadline. -/
def State.deadlinePassed (s : State) : State :=
  match s.session.presentation with
  | some p => s.unpresent.refuse p.card s.heldTag .noAnswer 0
  | none => s

/-- R14, R164: the link is lost with a presentation pending. -/
def State.decideLocally (s : State) : State :=
  match s.session.presentation with
  | some p => s.unpresent.localDecision p.card p.tag p.vehicle s.heldTag
  | none => s

/-- R164: the link silence timer expires. -/
def State.linkSilent (s : State) : State :=
  let s1 := s.withUport { s.uport with silence := none }
  if s.uport.link = .online then
    ((s1.withUport { s1.uport with link := .standalone }).raise (.linkState .standalone)).decideLocally
  else s1

/-! ### The end of a session -/

/-- R21: SESSION_END. -/
def State.sessionEnd (s : State) : State × Answer :=
  if s.bayState = .session ∧ s.noneRunning then (s.orderlyClose .orderly, taken) else (s, deny .wrongState)

/-- R23: SESSION_ABORT. -/
def State.sessionAbort (s : State) : State × Answer :=
  match s.bayState with
  | .session => (s.abort .abort .sessionAbort, taken)
  | .closing => (s, taken)
  | .idle | .outOfService | .faulted => (s, deny .wrongState)

/-! ### Tags (R7, R8) -/

/-- Every arm in a flow state is suspended with a cause, in arm order. -/
def State.suspendFlowing (s : State) (c : SuspendCause) : State := armIxs.foldl (fun t k => t.suspend k c) s

/-- R8: the session's vehicle is not the one confirmed. -/
def State.mismatch (s : State) (tag : Nat) : Bool :=
  match s.session.record with
  | some r => r.tag != tag
  | none => false

/-- R7, R8: a tag is confirmed. -/
def State.confirmTag (s : State) (tag : Nat) : State :=
  if tag = 0 then s
  else
    let s1 := s.withSession { s.session with tagRecord := some ⟨tag, s.now⟩ }
    if s.session.tagRecord.map TagRec.tag = some tag then s1
    else
      let s2 := s1.raise (.tagConfirmed tag (s.mismatch tag))
      if s.mismatch tag then s2.suspendFlowing .vehicleChange else s2

/-- R7. -/
def State.takeTag (s : State) (tag : Nat) : State :=
  match s.session.candidate with
  | none => s.withSession { s.session with candidate := some tag }
  | some c =>
    if c = tag then s.confirmTag tag
    else s.withSession { s.session with candidate := some tag, chattered := bump 65535 s.session.chattered }

/-! ### Safety inputs and deadman -/

/-- R28: the accepted level falls at once, with PERMISSIVE_CHANGE but for the deadman input. -/
def State.acceptFall (s : State) (i : SafetyInput) : State :=
  let x := s.input i
  let s1 := s.setInput i { x with level := false }
  if i = .deadman then s1 else s1.raise (.permissiveChange i false x.chatter)

/-- R32, second step. -/
def State.estopArm (s : State) (k : Fin 4) : State :=
  match (s.arm k).state with
  | .lowStart | .full | .slowdown | .suspended => s.enterStopping k .estop
  | .stopping =>
    s.updBatch k fun b => if b.endReason = some .complete then b else { b with endReason := some .estop }
  | .idle | .ready | .waitInjector => s

/-- R32: the valves close in the action that stops their arms (R84), then ESTOP is raised. -/
def State.estopEffect (s : State) : State :=
  (armIxs.foldl State.estopArm s).raiseFault .estop none .none false none

/-- R31. -/
def permissiveCause : Permissive → SuspendCause
  | .ground => .ground | .overfill => .overfill

/-- R35: an accepted press; a press taken while the timer runs also clears an expired flag still set (R36, log 19). -/
def State.press (s : State) : State :=
  let d := s.safety.deadman
  let e := { d with presses := bump 65535 d.presses }
  if d.timer.isSome then
    s.setDeadman { e with timer := s.deadmanRestart, warned := false, warn := false, expired := false }
  else if d.expired then s.setDeadman { e with warn := false, expired := false }
  else s.setDeadman e

/-- R29: the debounce timer of an input expires. -/
def State.debounced (s : State) (i : SafetyInput) : State :=
  let x := s.input i
  if x.pin then
    let s1 := s.setInput i { x with timer := none, level := true }
    if i = .deadman then s1.press else s1.raise (.permissiveChange i true x.chatter)
  else s.setInput i { x with timer := none, chatter := bump 65535 x.chatter }

/-- The debounce time of an input (R27). -/
def State.debounceTime (s : State) (i : SafetyInput) : Nat := Vec.get s.bay.debounceMs (inputIx i)

/-- R29: the pin is seen high; a timer starts on a low level without one. -/
def State.seenHigh (s : State) (i : SafetyInput) : State :=
  let x := { s.input i with pin := true }
  if x.level ∨ x.timer.isSome then s.setInput i x
  else s.setInput i { x with timer := some (s.now + s.debounceTime i) }

/-- R36: the deadman timer expires. -/
def State.deadmanOut (s : State) : State :=
  let s1 := s.setDeadman { s.safety.deadman with timer := none, warned := false, expired := true }
  s1.suspendFlowing .deadman

end Sys2Proof.Machine
end

