-- ==== Sys2Proof/Machine/Entries.lean ====
section
/-! DEFINITION. Table entries in bytes: decoding with the owners' range checks, and encoding (Table 10-4, R192, R197). -/

namespace Sys2Proof.Machine

/-- Entry lengths (Table 10-4). -/
def entryLength : TableId → Nat
  | .permit => 36 | .vehicle => 32 | .compat => 32 | .product => 5 | .recipe => 12 | .injector => 11 | .arm => 45
  | .device => 4 | .faultPolicy => 2 | .bay => 30

/-- Entries of a table (Table 9-2). -/
def tableSize : TableId → Nat
  | .permit => 512 | .vehicle => 256 | .compat => 1 | .product => 16 | .recipe => 16 | .injector => 6 | .arm => 4
  | .device => 12 | .faultPolicy => 11 | .bay => 1

/-- `lo` to `hi`, both ends included. -/
def within (lo n hi : Nat) : Bool := decide (lo ≤ n) && decide (n ≤ hi)

def permitStateOf : Nat → Option PermitState
  | 0 => some .active | 1 => some .suspended | 2 => some .lockedOut | _ => none

def vehicleStateOf : Nat → Option VehicleState
  | 0 => some .active | 1 => some .barred | _ => none

def sourceOf : Nat → Option Source
  | 0 => some .local_ | 1 => some .server | _ => none

def basisOf : Nat → Option Basis
  | 0 => some .gross | 1 => some .standard | _ => none

def actionOf : Nat → Option FailureAction
  | 0 => some .stopArm | 1 => some .continueUntreated | _ => none

def roleOf : Nat → Option Role
  | 1 => some .cardReader | 2 => some .tagReader | 3 => some .tempXmtr | 4 => some .keypad | _ => none

def modeOf : Nat → Option ResponseMode
  | 0 => some .report | 1 => some .stopArm | 2 => some .stopBay | 3 => some .recipe | _ => none

/-- Items `0` to `n - 1` of `w` bytes each, from offset `at_`. -/
def items (p : List Byte) (at_ w n : Nat) : List (List Byte) :=
  (List.range n).map fun i => (p.drop (at_ + w * i)).take w

/-- Every item decodes, or none does. -/
def decodeAll (f : α → Option β) : List α → Option (List β)
  | [] => some []
  | a :: l =>
    match f a, decodeAll f l with
    | some b, some r => some (b :: r)
    | _, _ => none

/-! ### Decoding: none stands for BAD_VALUE -/

/-- R1, Table 1-1. The vehicle list's own rules hold for tags 1 to the count. -/
def decodePermit (p : List Byte) : Option PermitEntry := do
  let state ← permitStateOf (field p 5 1)
  let n := field p 18 1
  let tags := (items p 19 4 n).map ofBe
  let e : PermitEntry :=
    ⟨field p 0 5, state, field p 6 2, BitVec.ofNat 16 (field p 8 2), field p 10 3, field p 13 3, field p 16 2, tags, 0⟩
  if e.card ≤ 9999999999 ∧ e.dailyQuota ≤ 999999 ∧ e.usedToday ≤ 9999999 ∧ n ≤ 4 ∧ tags.Nodup ∧ 0 ∉ tags then
    some (if e.card = 0 then emptyPermit else e)
  else none

/-- One compartment of 3 bytes (R3, R197). -/
def decodeCompartment (p : List Byte) : Option Compartment :=
  if within 100 (field p 0 2) 20000 then
    match optField 16 (field p 2 1) with
    | .named i => some ⟨field p 0 2, some i⟩
    | .absent => some ⟨field p 0 2, none⟩
    | .invalid => none
  else none

/-- R3, Table 1-2; an entry written with tag 0 is stored as the empty entry, whose compartment count is 0 (log 13). -/
def decodeVehicle (p : List Byte) : Option VehicleEntry := do
  let state ← vehicleStateOf (field p 4 1)
  let n := field p 7 1
  let comps ← decodeAll decodeCompartment (items p 8 3 n)
  let tag := field p 0 4
  if within 1 n 8 then
    some (if tag = 0 then emptyVehicle else ⟨tag, state, field p 5 2, comps⟩)
  else none

/-- R5. -/
def decodeCompat (p : List Byte) : Vector (BitVec 16) 16 := Vector.ofFn fun r => BitVec.ofNat 16 (field p (2 * r.val) 2)

/-- R63, Table 4-1. -/
def decodeProduct (p : List Byte) : Option ProductEntry :=
  match optField 16 (field p 4 1) with
  | .invalid => none
  | .absent =>
    if field p 0 2 = 0 then (if field p 2 2 = 0 then some emptyProduct else none)
    else if within 500 (field p 2 2) 20000 then some ⟨field p 0 2, field p 2 2, none⟩
    else none
  | .named r =>
    if field p 0 2 ≠ 0 ∧ within 500 (field p 2 2) 20000 then some ⟨field p 0 2, field p 2 2, some r⟩ else none

/-- One dose of 3 bytes (Table 6-3). -/
def decodeDose (p : List Byte) : Option Dose :=
  if 1 ≤ field p 0 1 ∧ within 10 (field p 1 2) 5000 then some ⟨field p 0 1, field p 1 2⟩ else none

/-- R113, Table 6-3. -/
def decodeRecipe (p : List Byte) : Option RecipeEntry := do
  let action ← actionOf (field p 11 1)
  let n := field p 0 1
  let doses ← decodeAll decodeDose (items p 1 3 n)
  if n = 0 then (if field p 10 1 = 0 then some emptyRecipe else none)
  else if n ≤ 3 ∧ within 1 (field p 10 1) 20 ∧ (doses.map Dose.code).Nodup then some ⟨doses, field p 10 1, action⟩
  else none

/-- R111, Table 6-1. An in-service byte that is neither 0 nor 1 is refused (DESIGN CHOICE, log 48). -/
def decodeInjector (p : List Byte) : Option InjectorEntry := do
  let inService ← flagOf (field p 10 1)
  let e : InjectorEntry :=
    ⟨field p 0 1, field p 1 2, field p 3 4, field p 7 2, BitVec.ofNat 4 (field p 9 1), inService⟩
  if 16 ≤ field p 9 1 then none
  else if e.code = 0 then (if e = emptyInjector then some e else none)
  else if within 10 e.stroke 500 ∧ within 100000 e.ppl 50000000 ∧ within 200 e.timeoutMs 5000 then some e
  else none

/-- One curve point of 5 bytes (R65). -/
def decodePoint (p : List Byte) : Option CurvePoint :=
  if within 1 (field p 0 2) 9999 ∧ within 90000 (field p 2 3) 110000 then some ⟨field p 0 2, field p 2 3⟩ else none

/-- R81, Table 5-1. An enabled byte that is neither 0 nor 1 is refused (DESIGN CHOICE, log 48). -/
def decodeArm (p : List Byte) : Option ArmEntry := do
  let enabled ← flagOf (field p 0 1)
  let n := field p 6 1
  let curve ← decodeAll decodePoint (items p 7 5 n)
  let station ← match optField 12 (field p 44 1) with
    | .named i => some (some i)
    | .absent => some none
    | .invalid => none
  let e : ArmEntry := ⟨enabled, BitVec.ofNat 16 (field p 1 2), field p 3 3, curve, field p 37 2, field p 39 2,
    field p 41 1, field p 42 1, field p 43 1, station⟩
  if e.ppl = 0 then (if e = emptyArm then some e else none)
  else if within 1000 e.ppl 2000000 ∧ within 2 n 6 ∧ (curve.map CurvePoint.q).Pairwise (· < ·) ∧ e.lowStart ≤ 2000 ∧
      e.slowdown ≤ 2000 ∧ within 5 e.noFlowTimeout 120 ∧ within 2 e.stopTimeout 30 ∧ e.maxOverrun ≤ 50 then some e
  else none

/-- R166. A forward flag that is neither 0 nor 1 is refused (DESIGN CHOICE, log 48). -/
def decodeDevice (p : List Byte) : Option DeviceEntry := do
  let forward ← flagOf (field p 3 1)
  let a := field p 0 1
  let arm ← match optField 4 (field p 2 1) with
    | .named k => some (some k)
    | .absent => some none
    | .invalid => none
  if a = 0 then (if field p 1 1 = 0 ∧ arm = none ∧ !forward then some emptyDevice else none)
  else
    match roleOf (field p 1 1) with
    | none => none
    | some r =>
      if a ≤ 30 ∧ (arm.isSome ↔ r = .tempXmtr) then some ⟨BitVec.ofNat 8 a, some r, arm, forward⟩ else none

/-- The response modes a class admits (R37). -/
def modeAllowed (c : FaultClass) (m : ResponseMode) : Bool :=
  match c with
  | .estop | .valve | .retention => m == .stopBay
  | .dose => m == .recipe
  | .unauthFlow | .meterPulse | .meterReverse | .tempLost | .injector | .overrun | .deviceLost => m != .recipe

/-- R37. A report mask that is neither 0 nor 1 is refused (DESIGN CHOICE, log 48). -/
def decodePolicy (c : FaultClass) (p : List Byte) : Option PolicyEntry := do
  let m ← modeOf (field p 0 1)
  let mask ← flagOf (field p 1 1)
  if modeAllowed c m then some ⟨m, mask⟩ else none

/-- A debounce time (Table 2-2). -/
def debounceOk (n : Nat) : Bool := within 10 n 500 && n % 10 == 0

/-- R6, R27, R49, R64, R83, R165, R180, Table 9-4. -/
def decodeBay (p : List Byte) : Option BayEntry := do
  let permitSource ← sourceOf (field p 0 1)
  let forbid ← flagOf (field p 5 1)
  let basis ← basisOf (field p 6 1)
  let resume ← flagOf (field p 29 1)
  let e : BayEntry :=
    { permitSource := permitSource, authorisationWait := field p 1 1, tagFreshness := field p 2 2
      idleMinutes := field p 4 1, unknownAllowed := !forbid, basis := basis
      debounceMs := Vector.ofFn fun i => field p (7 + 2 * i.val) 2
      deadmanInterval := field p 15 2, reverseAllowance := field p 17 1, discrepancyLimit := field p 18 1
      unauthLimit := field p 19 1, tRef := field p 20 2, minBatch := field p 22 2, maxBatch := field p 24 3
      linkSilence := field p 27 1, dResponseMs := field p 28 1, resumeInService := resume }
  if within 2 e.authorisationWait 30 ∧ within 30 e.tagFreshness 600 ∧ within 5 e.idleMinutes 120 ∧
      (armIxs.all fun i => debounceOk (Vec.get e.debounceMs i)) ∧
      (e.deadmanInterval = 0 ∨ within 30 e.deadmanInterval 300) ∧ e.reverseAllowance ≤ 100 ∧
      within 1 e.discrepancyLimit 50 ∧ within 1 e.unauthLimit 50 ∧ (e.tRef = 1500 ∨ e.tRef = 2000) ∧
      within 50 e.minBatch 1000 ∧ within 100 e.maxBatch 99999 ∧ e.minBatch ≤ e.maxBatch ∧
      within 5 e.linkSilence 120 ∧ within 5 e.dResponseMs 100 then some e
  else none

/-! ### Encoding (R197) -/

def encodePermit (e : PermitEntry) : List Byte :=
  be 5 e.card ++ be 1 (permitStateCode e.state) ++ be 2 e.carrier ++ be 2 e.products.toNat ++ be 3 e.dailyQuota
    ++ be 3 e.usedToday ++ be 2 e.expiryDay ++ be 1 e.vehicles.length ++ pad 16 ((e.vehicles.map (be 4)).flatten)
    ++ be 1 e.refusals

/-- A compartment; above the count it is 0 and UNKNOWN (R3). -/
def encodeCompartment (l : List Compartment) (i : Nat) : List Byte :=
  match l[i]? with
  | some c => be 2 c.capacity ++ be 1 (optFin c.last)
  | none => be 2 0 ++ be 1 255

def encodeVehicle (e : VehicleEntry) : List Byte :=
  be 4 e.tag ++ be 1 (vehicleStateCode e.state) ++ be 2 e.inspectionDay ++ be 1 e.compartments.length
    ++ ((List.range 8).map (encodeCompartment e.compartments)).flatten

def encodeCompat (m : Vector (BitVec 16) 16) : List Byte :=
  ((List.finRange 16).map fun r => be 2 (Vec.get m r).toNat).flatten

def encodeProduct (e : ProductEntry) : List Byte := be 2 e.code ++ be 2 e.alpha ++ be 1 (optFin e.recipe)

def encodeRecipe (e : RecipeEntry) : List Byte :=
  be 1 e.doses.length ++ pad 9 ((e.doses.map fun d => be 1 d.code ++ be 2 d.rate).flatten) ++ be 1 e.tolerance
    ++ be 1 (actionCode e.action)

def encodeInjector (e : InjectorEntry) : List Byte :=
  be 1 e.code ++ be 2 e.stroke ++ be 4 e.ppl ++ be 2 e.timeoutMs ++ be 1 e.plumbing.toNat ++ be 1 (bit e.inService)

def encodeArm (e : ArmEntry) : List Byte :=
  be 1 (bit e.enabled) ++ be 2 e.products.toNat ++ be 3 e.ppl ++ be 1 e.curve.length
    ++ pad 30 ((e.curve.map fun c => be 2 c.q ++ be 3 c.f).flatten) ++ be 2 e.lowStart ++ be 2 e.slowdown
    ++ be 1 e.noFlowTimeout ++ be 1 e.stopTimeout ++ be 1 e.maxOverrun ++ be 1 (optFin e.station)

def encodeDevice (e : DeviceEntry) : List Byte :=
  [e.address] ++ be 1 ((e.role.map roleCode).getD 0) ++ be 1 (optFin e.arm) ++ be 1 (bit e.forward)

def encodePolicy (e : PolicyEntry) : List Byte := be 1 (modeCode e.mode) ++ be 1 (bit e.mask)

def encodeBay (e : BayEntry) : List Byte :=
  be 1 (sourceCode e.permitSource) ++ be 1 e.authorisationWait ++ be 2 e.tagFreshness ++ be 1 e.idleMinutes
    ++ be 1 (bit !e.unknownAllowed) ++ be 1 (basisCode e.basis)
    ++ (armIxs.map fun i => be 2 (Vec.get e.debounceMs i)).flatten ++ be 2 e.deadmanInterval ++ be 1 e.reverseAllowance
    ++ be 1 e.discrepancyLimit ++ be 1 e.unauthLimit ++ be 2 e.tRef ++ be 2 e.minBatch ++ be 3 e.maxBatch
    ++ be 1 e.linkSilence ++ be 1 e.dResponseMs ++ be 1 (bit e.resumeInService)

end Sys2Proof.Machine
end

