-- ==== Sys2Proof/Machine/Retention.lean ====
section
/-! DEFINITION. The retention controller: corrections, uncorrectable errors by item, reads and the scrub (R132, R144,
R145, R147, R187 to R189). -/

namespace Sys2Proof.Machine

/-- The code of a retention item as a fault's subject (Table 10-1). -/
def itemCode : RetItem → Nat
  | .tableEntry _ _ => 1 | .sessionRecord _ => 2 | .quotaDay => 3 | .noteWord _ _ _ => 0 | .placeList _ => 4
  | .noteCounter _ => 5 | .totalizer _ _ => 6 | .faultRecord _ => 7 | .serviceFlag => 8 | .bayClock _ => 9
  | .validityMarker => 10

/-- R187: a correction is counted. -/
def State.countCorrection (s : State) : State :=
  if s.retention.correctable = 255 then s.withRetention { s.retention with overflow := true }
  else s.withRetention { s.retention with correctable := s.retention.correctable + 1 }

/-- RETENTION is raised for an item. During the start-up scan it is recorded and latched only (R190, step 3). -/
def State.raiseRetention (s : State) (scan : Bool) (item : RetItem) : State :=
  if scan then
    let s1 := s.reportFault .retention none (.retention (itemCode item)) false .stopBay
    s1.setFault .retention { s1.fault .retention with latch := some .stopBay }
  else s.raiseFault .retention none (.retention (itemCode item)) false none

/-! ### Table entries -/

/-- The DAMAGED mark of one entry. -/
def tabDamage [DecidableEq α] (empty : α) (t : Tab α) (i : Nat) : Tab α :=
  tabSet empty t i ⟨(tabGet empty t i).entry, true⟩

end Sys2Proof.Machine

namespace Sys2Proof
open Machine

/-- Whether an entry carries the DAMAGED mark. -/
def Tables.damaged (t : Tables) (id : TableId) (i : Nat) : Bool :=
  match id with
  | .permit => (tabGet emptyPermit t.permits i).damaged
  | .vehicle => (tabGet emptyVehicle t.vehicles i).damaged
  | .compat => t.compat.damaged
  | .product => (tabGet emptyProduct t.products i).damaged
  | .recipe => (tabGet emptyRecipe t.recipes i).damaged
  | .injector => (tabGet emptyInjector t.injectors i).damaged
  | .arm => (tabGet emptyArm t.arms i).damaged
  | .device => (tabGet emptyDevice t.devices i).damaged
  | .faultPolicy => match finOf 11 i with
    | some c => (Vec.get t.policies c).damaged
    | none => false
  | .bay => t.bay.damaged

/-- The DAMAGED mark set on an entry; its words stay (R188). -/
def Tables.damage (t : Tables) (id : TableId) (i : Nat) : Tables :=
  match id with
  | .permit => { t with permits := tabDamage emptyPermit t.permits i }
  | .vehicle => { t with vehicles := tabDamage emptyVehicle t.vehicles i }
  | .compat => { t with compat := { t.compat with damaged := true } }
  | .product => { t with products := tabDamage emptyProduct t.products i }
  | .recipe => { t with recipes := tabDamage emptyRecipe t.recipes i }
  | .injector => { t with injectors := tabDamage emptyInjector t.injectors i }
  | .arm => { t with arms := tabDamage emptyArm t.arms i }
  | .device => { t with devices := tabDamage emptyDevice t.devices i }
  | .faultPolicy => match finOf 11 i with
    | some c => { t with policies := Vec.set t.policies c { Vec.get t.policies c with damaged := true } }
    | none => t
  | .bay => { t with bay := { t.bay with damaged := true } }

end Sys2Proof

namespace Sys2Proof.Machine

/-- Every overrun history emptied (R83). -/
def State.clearHistories (s : State) : State :=
  s.withArms (Vector.ofFn fun k => { Vec.get s.arms k with history := [] })

/-- R188 for a table entry: acted on once; a BAY entry has the effects of a write of the defaults and raises
RETENTION. The station of a DEVICE entry keeps its state, misses and verdicts (DESIGN CHOICE, log 53). -/
def State.damageEntry (s : State) (scan : Bool) (id : TableId) (i : Nat) : State :=
  if tableSize id ≤ i ∨ s.tables.damaged id i then s
  else
    let s1 := s.withTables (s.tables.damage id i)
    if id = .bay then
      (if s1.bay.basis ≠ s.bay.basis then s1.clearHistories else s1).raiseRetention scan (.tableEntry id i)
    else s1

/-! ### The session record -/

/-- A dose record as read, with the volatile fields of the one that stands (Table 6-4). Its injector index is the one read,
and no claim moves with it (DESIGN CHOICE, log 68). -/
def mergeDose (asRead cur : DoseRec) : DoseRec :=
  { asRead with
    interval := cur.interval, nextDue := cur.nextDue, outCount := cur.outCount, overflow := cur.overflow }

/-- A batch record as read, with the volatile fields of the one that stands (Table 5-4). Dose records of another number
than those that stand are not taken (DESIGN CHOICE, log 60). -/
def mergeBatch (asRead cur : Batch) : Batch :=
  { asRead with
    source := cur.source, cause := cur.cause, overrun := cur.overrun
    doses := if asRead.doses.length = cur.doses.length then List.zipWith mergeDose asRead.doses cur.doses
      else cur.doses }

/-- An arm's batch record rewritten as read, where both the words read and the arm hold one (DESIGN CHOICE, log 60). -/
def mergeArm (asRead : Option Batch) (a : Arm) : Arm :=
  match asRead, a.batch with
  | some x, some b => { a with batch := some (mergeBatch x b) }
  | _, _ => a

/-- R188: the session record and its batch accumulators are rewritten as read and marked damaged. Its number is the one
read, which may be another than the record was opened with (DESIGN CHOICE, log 43); the close reason and the closed mark
stay as they stand (DESIGN CHOICE, log 60). -/
def State.rewriteSession (s : State) (img : SessionImage) : State :=
  match s.session.record with
  | some r =>
    let r' : Session := { img.session with closing := r.closing, closed := r.closed, damaged := true }
    (s.setRecord (some r')).withArms (Vector.ofFn fun k => mergeArm (Vec.get img.batches k) (Vec.get s.arms k))
  | none => s

/-! ### Notes and their place list -/

end Sys2Proof.Machine

namespace Sys2Proof
open Machine

/-- A form with the bytes of one word, from `offset` on, as read (R144, R196); a word outside the form changes none. -/
def patchForm (form : List Byte) (offset : Nat) (word : List Byte) : List Byte :=
  if offset + word.length ≤ form.length then
    form.take offset ++ word ++ form.drop (offset + word.length)
  else form

/-- R144 on a place: an uncorrectable error in a note's word. The header is the form's first 32 bytes (Table 10-9). A
RESERVED place holds none. -/
def Place.hurt (p : Place) (offset : Nat) (asRead : List Byte) : Place :=
  if p.state = .reserved then p
  else
    { p with
      state := .damaged, headerBad := p.headerBad || offset < 32
      bodyBad := p.bodyBad || 32 < offset + max 1 asRead.length
      form := patchForm p.form offset asRead }

/-- R145: a place kept by a rebuild from the note words. A note that the session's damaged mark alone made DAMAGED
stands READY again (DEDUCED, log 42). -/
def Place.rebuilt (p : Place) : Place := { p with state := if p.bodyBad then .damaged else .ready }

end Sys2Proof

namespace Sys2Proof.Machine

/-- A place put into a list before the first of a higher note number. -/
def insertPlace (p : Place) : List Place → List Place
  | [] => [p]
  | q :: l => if p.number < q.number then p :: q :: l else q :: insertPlace p l

/-- The places in order of note number, equal numbers as they stood. -/
def sortPlaces (l : List Place) : List Place := l.foldl (fun m p => insertPlace p m) []

/-- The RESERVED place of the session record while one is open and its note still unwritten (R134, R137). -/
def State.ownPlace (s : State) : List Place :=
  match s.session.record with
  | some r => if r.closed then [] else [⟨r.number, .reserved, none, [], false, false⟩]
  | none => []

/-- R145: both copies of the place list are lost. The kept places stand in order of note number, the session's RESERVED
place at the tail (log 32). -/
def State.rebuildPlaces (s : State) : State :=
  let kept := (s.custody.places.filter fun p => p.state != .reserved && !p.headerBad).map Place.rebuilt
  s.withCustody { s.custody with places := sortPlaces kept ++ s.ownPlace }

/-! ### Every item (Table 9-7) -/

/-- R147. -/
def State.damageTotalizer (s : State) (t : TotalizerId) (asRead : Nat) : State :=
  let c := s.custody
  match t with
  | .gross k => s.withCustody { c with gross := Vec.set c.gross k ⟨asRead, true⟩ }
  | .standard k => s.withCustody { c with standard := Vec.set c.standard k ⟨asRead, true⟩ }
  | .additive j => s.withCustody { c with additive := Vec.set c.additive j ⟨asRead, true⟩ }

/-- R188: a fault record rewritten latched. -/
def FaultRec.rewritten (clock : Nat) : FaultRec := ⟨some .stopBay, 1, none, some clock, some clock, 0, 0, false⟩

/-- R188: an uncorrectable error. Table 9-7 gives RETENTION for the session record's words whether or not one stands;
without one there is nothing to rewrite or to mark damaged (DEDUCED, log 70). -/
def State.uncorrectable (s : State) (scan : Bool) (item : RetItem) : State :=
  match item with
  | .tableEntry id i => s.damageEntry scan id i
  | .sessionRecord img => (s.rewriteSession img).raiseRetention scan item
  | .quotaDay => (s.withSession { s.session with quotaDay := s.bayDay }).raiseRetention scan item
  | .noteWord n offset asRead =>
    s.withCustody { s.custody with places := s.custody.places.modify n fun p => p.hurt offset asRead }
  | .placeList both => (if both then s.rebuildPlaces else s).raiseRetention scan item
  | .noteCounter both =>
    (if both then s.withCustody { s.custody with counter := .usedUp } else s).raiseRetention scan item
  | .totalizer t asRead => (s.damageTotalizer t asRead).raiseRetention scan item
  | .faultRecord c => (s.setFault c (FaultRec.rewritten s.custody.clock)).raiseRetention scan item
  | .serviceFlag => (s.withSession { s.session with inService := false }).raiseRetention scan item
  | .bayClock asRead => (s.withCustody { s.custody with clock := asRead }).raiseRetention scan item
  | .validityMarker => (s.withRetention { s.retention with marker := true }).raiseRetention scan item

/-- R188: one word is read. -/
def State.readWord (scan : Bool) (s : State) (f : Finding) : State :=
  match f.ecc with
  | .clean => s
  | .single => s.countCorrection
  | .multi => s.uncorrectable scan f.item

/-- The words a request reads. -/
def State.readWords (s : State) (l : List Finding) : State := l.foldl (State.readWord false) s

/-- R188: what the command's blocks read of retention is corrected, counted and acted on first (log 46). -/
def State.meet (s : State) : State :=
  (s.withRetention { s.retention with reads := [] }).readWords s.retention.reads

/-- A command acts on a part that has its supply; without it the part takes nothing (log 15). The words it reads are met
before it acts (R188). -/
def whenPowered (f : State → State) (s : State) : Host.Outcome State Fault Refusal :=
  .next (if s.powered then f s.meet else s)

/-- R189: the scrub goes to the next word; a full pass is counted. -/
def State.scrubNext (s : State) : State :=
  if s.retention.cursor < Config.lastRetentionWord then
    s.withRetention { s.retention with cursor := s.retention.cursor + 1 }
  else s.withRetention { s.retention with cursor := 0, passes := bump 65535 s.retention.passes }

end Sys2Proof.Machine
end

