-- ==== Sys2Proof/Machine/Manage.lean ====
section
/-! DEFINITION. The owners of the management requests: tables, notes, faults, relays, the bay clock and the service flag
(R43, R44, R140 to R143, R172, R177 to R179, R184, R185). -/

namespace Sys2Proof.Machine

/-! ### TABLE_WRITE (R177, Table 9-3) -/

/-- A table write decided by its last two checks: the content, then the in-use condition. -/
def State.writeIf (s : State) (content : Option α) (inUse : Bool) (store : α → State) : State × Answer :=
  match content with
  | none => (s, deny .badValue)
  | some e => if inUse then (s, deny .inUse) else (store e, taken)

/-- A content that the owner's further check admits. -/
def keepIf (o : Option α) (ok : α → Bool) : Option α := o.filter ok

/-- R1, R2. -/
def State.writePermit (s : State) (i : Nat) (p : List Byte) : State × Answer :=
  let content := keepIf (decodePermit p) fun e =>
    e.card == 0 || !tabOther (fun x => x.card == e.card) s.tables.permits i
  let inUse := match s.session.record with
    | some r => r.permit == some i && field p 0 5 != r.card
    | none => false
  s.writeIf content inUse fun e =>
    s.withTables { s.tables with permits := tabSet emptyPermit s.tables.permits i ⟨e, false⟩ }

/-- R3, R4. -/
def State.writeVehicle (s : State) (i : Nat) (p : List Byte) : State × Answer :=
  let content := keepIf (decodeVehicle p) fun e =>
    e.tag == 0 || !tabOther (fun x => x.tag == e.tag) s.tables.vehicles i
  let inUse := match s.session.record with
    | some r => r.vehicle == i
    | none => false
  s.writeIf content inUse fun e =>
    s.withTables { s.tables with vehicles := tabSet emptyVehicle s.tables.vehicles i ⟨e, false⟩ }

/-- Some batch in READY or a later state satisfies `f`. -/
def State.anyBatch (s : State) (f : Batch → Bool) : Bool := armIxs.any fun k => (s.arm k).batch.any f

/-- R63. -/
def State.writeProduct (s : State) (i : Nat) (p : List Byte) : State × Answer :=
  let content := keepIf (decodeProduct p) fun e =>
    e.code == 0 || !tabOther (fun x => x.code == e.code) s.tables.products i
  s.writeIf content (s.anyBatch fun b => b.product.val == i) fun e =>
    s.withTables { s.tables with products := tabSet emptyProduct s.tables.products i ⟨e, false⟩ }

/-- R113, R114. -/
def State.writeRecipe (s : State) (i : Nat) (p : List Byte) : State × Answer :=
  s.writeIf (decodeRecipe p) (s.anyBatch fun b => b.recipe.map Fin.val == some i) fun e =>
    s.withTables { s.tables with recipes := tabSet emptyRecipe s.tables.recipes i ⟨e, false⟩ }

/-- R111: the write's effects on the run state. -/
def State.injectorWritten (s : State) (j : Fin 6) : State :=
  (s.setInj j { s.inj j with misses := 0, remainder := 0 }).scan

/-- R111. -/
def State.writeInjector (s : State) (j : Fin 6) (p : List Byte) : State × Answer :=
  s.writeIf (decodeInjector p) (!s.injFree j) fun e =>
    (s.withTables { s.tables with injectors := tabSet emptyInjector s.tables.injectors j.val ⟨e, false⟩ }).injectorWritten j

/-- R81, R82. -/
def State.writeArm (s : State) (k : Fin 4) (p : List Byte) : State × Answer :=
  s.writeIf (decodeArm p) ((s.arm k).state != .idle) fun e =>
    (s.withTables { s.tables with arms := tabSet emptyArm s.tables.arms k.val ⟨e, false⟩ }).restartArm k

/-- R166: the checks against the other entries. -/
def State.deviceFits (s : State) (i : Nat) (e : DeviceEntry) : Bool :=
  e.address == 0 ||
    (!tabOther (fun x => x.address == e.address) s.tables.devices i &&
      (e.role == some .tempXmtr || e.role == some .keypad ||
        !tabOther (fun x => x.role == e.role && x.address != 0) s.tables.devices i))

/-- R166. -/
def State.writeDevice (s : State) (i : Fin 12) (p : List Byte) : State × Answer :=
  s.writeIf (keepIf (decodeDevice p) (s.deviceFits i.val)) (s.lockedEntry (s.device i)) fun e =>
    (s.withTables { s.tables with devices := tabSet emptyDevice s.tables.devices i.val ⟨e, false⟩ }).setStation i
      (Station.powerOn (e.address != 0))

/-- R37. -/
def State.writePolicy (s : State) (c : Fin 11) (p : List Byte) : State × Answer :=
  s.writeIf (decodePolicy (faultClasses.getD c.val .estop) p) false fun e =>
    s.withTables { s.tables with policies := Vec.set s.tables.policies c ⟨e, false⟩ }

/-- The bay parameters replaced; a change of preset basis empties the overrun histories (R83). -/
def State.storeBay (s : State) (e : BayEntry) : State :=
  let s1 := s.withTables { s.tables with bay := ⟨e, false⟩ }
  if s1.bay.basis ≠ s.bay.basis then s1.clearHistories else s1

/-- R180. -/
def State.writeBay (s : State) (p : List Byte) : State × Answer :=
  s.writeIf (decodeBay p) s.session.record.isSome s.storeBay

/-- R5. -/
def State.writeCompat (s : State) (p : List Byte) : State × Answer :=
  (s.withTables { s.tables with compat := ⟨decodeCompat p, false⟩ }, taken)

/-- R177 for a table and an index; `p` is the entry. -/
def State.writeEntry (s : State) (id : TableId) (i : Nat) (p : List Byte) : State × Answer :=
  if tableSize id ≤ i then (s, deny .badIndex)
  else
    match id with
    | .permit => s.writePermit i p
    | .vehicle => s.writeVehicle i p
    | .compat => s.writeCompat p
    | .product => s.writeProduct i p
    | .recipe => s.writeRecipe i p
    | .injector => match finOf 6 i with
      | some j => s.writeInjector j p
      | none => (s, deny .badIndex)
    | .arm => match finOf 4 i with
      | some k => s.writeArm k p
      | none => (s, deny .badIndex)
    | .device => match finOf 12 i with
      | some k => s.writeDevice k p
      | none => (s, deny .badIndex)
    | .faultPolicy => match finOf 11 i with
      | some c => s.writePolicy c p
      | none => (s, deny .badIndex)
    | .bay => s.writeBay p

/-- R177. -/
def State.tableWrite (s : State) (p : List Byte) : State × Answer :=
  match tableOf (field p 0 1) with
  | none => (s, deny .badTable)
  | some id => s.writeEntry id (field p 1 2) (p.drop 3)

/-- R193: the lengths of a TABLE_WRITE. -/
def tableWriteLength (p : List Byte) : Bool :=
  match tableOf (field p 0 1) with
  | some id => p.length == 3 + entryLength id
  | none => within 4 p.length 48

/-! ### TABLE_CLEAR (R178, Table 9-3) -/

/-- The clear condition of a table. -/
def State.clearInUse (s : State) (id : TableId) : Bool :=
  match id with
  | .permit => match s.session.record with
    | some r => r.permit.isSome
    | none => false
  | .vehicle | .bay => s.session.record.isSome
  | .product => s.anyBatch fun _ => true
  | .recipe => s.anyBatch fun b => b.recipe.isSome
  | .injector => injIxs.any fun j => !s.injFree j
  | .arm => !s.allIdle
  | .device => deviceIxs.any fun i => s.lockedEntry (s.device i)
  | .compat | .faultPolicy => false

/-- Every entry at its cleared value, with the owner's effects. -/
def State.clearTable (s : State) (id : TableId) : State :=
  match id with
  | .permit => s.withTables { s.tables with permits := [] }
  | .vehicle => s.withTables { s.tables with vehicles := [] }
  | .compat => s.withTables { s.tables with compat := ⟨clearedCompat, false⟩ }
  | .product => s.withTables { s.tables with products := [] }
  | .recipe => s.withTables { s.tables with recipes := [] }
  | .injector => (s.withTables { s.tables with injectors := [] }).scan
  | .arm => armIxs.foldl State.restartArm (s.withTables { s.tables with arms := [] })
  | .device =>
    let s1 := s.withTables { s.tables with devices := [] }
    s1.withDport { s1.dport with stations := Vector.replicate 12 (Station.powerOn false) }
  | .faultPolicy => s.withTables { s.tables with policies := clearedPolicies }
  | .bay => s.storeBay defaultBay

/-- R178. -/
def State.tableClear (s : State) (p : List Byte) : State × Answer :=
  match tableOf (field p 0 1) with
  | none => (s, deny .badTable)
  | some id => if s.clearInUse id then (s, deny .inUse) else (s.clearTable id, taken)

/-! ### TABLE_READ (R179) -/

end Sys2Proof.Machine

namespace Sys2Proof
open Machine

/-- The stored entry in bytes. -/
def Tables.entryBytes (t : Tables) (id : TableId) (i : Nat) : List Byte :=
  match id with
  | .permit => encodePermit (tabGet emptyPermit t.permits i).entry
  | .vehicle => encodeVehicle (tabGet emptyVehicle t.vehicles i).entry
  | .compat => encodeCompat t.compat.entry
  | .product => encodeProduct (tabGet emptyProduct t.products i).entry
  | .recipe => encodeRecipe (tabGet emptyRecipe t.recipes i).entry
  | .injector => encodeInjector (tabGet emptyInjector t.injectors i).entry
  | .arm => encodeArm (tabGet emptyArm t.arms i).entry
  | .device => encodeDevice (tabGet emptyDevice t.devices i).entry
  | .faultPolicy => match finOf 11 i with
    | some c => encodePolicy (Vec.get t.policies c).entry
    | none => []
  | .bay => encodeBay t.bay.entry

end Sys2Proof

namespace Sys2Proof.Machine

/-- R179: the words are read first, so that an error found in them marks the entry. -/
def State.tableRead (s : State) (p : List Byte) (reads : List Finding) : State × Answer :=
  match tableOf (field p 0 1) with
  | none => (s, deny .badTable)
  | some id =>
    let i := field p 1 2
    if tableSize id ≤ i then (s, deny .badIndex)
    else
      let s1 := s.readWords reads
      if s1.tables.damaged id i then (s1, deny .damaged)
      else (s1, accept 0 (be 1 (tableCode id) ++ be 2 i ++ s1.tables.entryBytes id i))

/-! ### Notes (R140 to R143) -/

/-- The number a place is listed with (R140): a RESERVED place has the open session's, which an uncorrectable error may
have changed since the place was reserved (log 43). No place is RESERVED without a session. -/
def State.listedNumber (s : State) (p : Place) : Nat :=
  match p.state, s.session.record with
  | .reserved, some r => r.number
  | _, _ => p.number

/-- A place's entry in a NOTE_LIST answer (R140); a RESERVED place holds no note. The lines and segments of a DAMAGED note
are those written with it, whichever of its words read badly (DESIGN CHOICE, log 69). -/
def State.placeBytes (s : State) (p : Place) : List Byte :=
  let (lines, segments) := match p.state, p.note with
    | .reserved, _ | _, none => (0, 0)
    | _, some n => (n.lines.length, segmentCount p.form)
  be 1 (placeStateCode p.state) ++ beFig 4 (s.listedNumber p) ++ beFig 1 lines ++ beFig 1 segments

/-- R140. -/
def State.noteList (s : State) (reads : List Finding) : State × Answer :=
  let s1 := s.readWords reads
  let l := s1.custody.places
  (s1, accept 0 (be 1 l.length ++ (l.map s1.placeBytes).flatten))

/-- The READY or DAMAGED place that holds a note number, number 0 like any other: R142 takes no note to hold 0, and a note
whose session record was rewritten as read (R188) with number 0 is served and released under it (DESIGN CHOICE, log 74). -/
def State.findNote (s : State) (n : Nat) : Option Place :=
  s.custody.places.find? fun p => p.number == n && p.state != .reserved

/-- Segment `k` of a form (R141, R196). -/
def segment (form : List Byte) (k : Nat) : List Byte := (form.drop (192 * k)).take 192

/-- R142. -/
def State.noteRead (s : State) (p : List Byte) (reads : List Finding) : State × Answer :=
  let s1 := s.readWords reads
  match s1.findNote (field p 0 4) with
  | none => (s1, deny .noSuchNote)
  | some x =>
    let k := field p 4 1
    if segmentCount x.form ≤ k then (s1, deny .badIndex)
    else (s1, accept 0 (be 4 x.number ++ be 1 (placeStateCode x.state) ++ be 1 k ++ beFig 1 (segmentCount x.form)
      ++ segment x.form k))

/-- R143; a note of number 0 is released like another (DESIGN CHOICE, log 74). Where two notes bear the number (log 43), both places leave (DESIGN CHOICE, log 51). -/
def State.noteRelease (s : State) (p : List Byte) (reads : List Finding) : State × Answer :=
  let s1 := s.readWords reads
  match s1.findNote (field p 0 4) with
  | none => (s1, deny .noSuchNote)
  | some x =>
    let s2 := s1.withCustody { s1.custody with
      places := s1.custody.places.filter fun y => y.number != x.number || y.state == .reserved }
    (s2, accept 0 (be 1 s2.custody.places.length))

/-! ### Faults (R43, R44) -/

/-- R43. -/
def State.clearRequest (s : State) (p : List Byte) : State × Answer :=
  match faultOf (field p 0 1) with
  | none => (s, deny .badValue)
  | some c => if s.clearBlocked c then (s, deny .wrongState) else (s.clearFault c, taken)

/-- R44: the drill of a class naming an arm or none. -/
def State.drill (s : State) (c : FaultClass) (k : Option (Fin 4)) : State × Answer :=
  match s.bayState with
  | .idle | .outOfService | .faulted =>
    (s.raiseFault c k .none true none, accept (modeCode (s.response c none)) [])
  | .session | .closing => (s, deny .wrongState)

/-- R44. -/
def State.drillRequest (s : State) (p : List Byte) : State × Answer :=
  match faultOf (field p 0 1), optField 4 (field p 1 1) with
  | some c, .named k => s.drill c (some k)
  | some c, .absent => s.drill c none
  | _, _ => (s, deny .badValue)

/-! ### RELAY (R172) -/

/-- R172. -/
def State.relay (s : State) (p : List Byte) : State × Answer :=
  let a := BitVec.ofNat 8 (field p 0 1)
  match s.findDevice a with
  | none => (s, deny .noSuchStation)
  | some i =>
    if s.lockedEntry (s.device i) then (s, deny .locked)
    else if 4 ≤ s.dport.relayDown.length then (s, deny .queueFull)
    else
      let r : Relay := ⟨a, BitVec.ofNat 8 (field p 1 1), p.drop 2⟩
      let s1 := s.withDport { s.dport with relayDown := s.dport.relayDown ++ [r] }
      (s1, accept 0 (be 1 s1.dport.relayDown.length))

/-! ### Bay clock and service flag (R20, R184, R185) -/

/-- The clock's last value (R184). -/
def clockMax : Nat := 5662310399

/-- R20: a day rollover. -/
def State.rollover (s : State) : State :=
  let s1 := s.withTables { s.tables with
    permits := tabMap emptyPermit (fun e => { e with usedToday := 0 }) s.tables.permits }
  (s1.withSession { s1.session with quotaDay := s1.bayDay }).raise (.dayRollover s1.bayDay)

/-- R20, R184: the rollover of a midnight already passed is made, where one is still owed (log 47). -/
def State.owedRollover (s : State) : State :=
  if s.custody.midnight then (s.withCustody { s.custody with midnight := false }).rollover else s

/-- R184: CLOCK_SET; a rollover still owed is made before the clock is set (log 47), and the second starts afresh (DESIGN
CHOICE, log 56). -/
def State.clockSet (s : State) (p : List Byte) : State × Answer :=
  let v := field p 0 5
  if clockMax < v then (s, deny .badValue)
  else if s.session.record.isSome then (s, deny .inUse)
  else
    let s0 := s.owedRollover
    let s1 := s0.withCustody { s0.custody with clock := v, phase := 0 }
    (if s.bayDay < s1.bayDay then s1.rollover else s1, taken)

/-- R185: BAY_COMMAND. -/
def State.bayCommand (s : State) (p : List Byte) : State × Answer :=
  match flagOf (field p 0 1) with
  | none => (s, deny .badValue)
  | some true => (s.withSession { s.session with inService := true }, taken)
  | some false =>
    if s.session.record.isSome then (s, deny .wrongState)
    else ((s.withSession { s.session with inService := false }).settlePresentation, taken)

/-! ### Batch operations of the server (R86) -/

/-- The answer to a server's batch operation. -/
def opAnswer : OpResult → Answer
  | .refused r => ⟨.refused, batchReasonCode r, []⟩
  | .notNow => deny .wrongState
  | .setUp p c => accept 0 (be 3 p ++ be 1 (bit c))
  | .started => accept 1 []
  | .waiting => accept 2 []
  | .accepted => taken

/-- A batch operation on the arm a request names. -/
def State.armRequest (s : State) (p : List Byte) (f : Fin 4 → State × OpResult) : State × Answer :=
  match finOf 4 (field p 0 1) with
  | none => (s, deny .badValue)
  | some k => ((f k).1, opAnswer (f k).2)

/-- BATCH_SETUP. -/
def State.setupRequest (s : State) (p : List Byte) : State × Answer :=
  match setupFields p with
  | none => (s, deny .badValue)
  | some f => s.armRequest p fun k => s.setup k f .server

end Sys2Proof.Machine
end

