-- ==== Sys2Proof/Machine/Stations.lean ====
section
/-! DEFINITION. Station records: the keypad's operations, samples, and the routing of a record by its kind and its
station's role (R68, R86, R171, R195). -/

namespace Sys2Proof.Machine

/-! ### Keypad operations (R86, Table 5-5) -/

/-- The result of a key record is told to its keypad; a refusal also raises BATCH_REFUSED. -/
def State.tellResult (s : State) (a arm : Byte) (op : BatchOp) : OpResult → State
  | .refused r =>
    (s.raise (.batchRefused arm.toNat op (.keypad a) r)).tellKeypad a (.refused arm r)
  | .notNow => s.tellKeypad a (.notNow arm)
  | .setUp p c => s.tellKeypad a (.setupAccepted arm p c)
  | .started => s.tellKeypad a (.started arm)
  | .waiting => s.tellKeypad a (.waiting arm)
  | .accepted => s.tellKeypad a (.accepted arm)

/-- A key record's operation on the arm it names; an arm outside 0-3 is a refusal with ARM_DISABLED, before any other
field is looked at (DESIGN CHOICE, log 40). -/
def State.keyOp (s : State) (a arm : Byte) (op : BatchOp) (f : Fin 4 → State × OpResult) : State :=
  match finOf 4 arm.toNat with
  | none => s.tellResult a arm op (.refused .armDisabled)
  | some k => (f k).1.tellResult a arm op (f k).2

/-- A SETUP record's fields after its arm (R86): the setup they ask for, or the refusal, the compartment tested first,
then the product, then the recipe (DESIGN CHOICE, log 40). -/
def keySetupFields (compartment product : Byte) (preset : BitVec 24) (recipe : Byte) :
    Except BatchReason SetupFields :=
  match compartmentOf compartment.toNat with
  | none => .error .compartmentUnknown
  | some c =>
    match optField 16 product.toNat, optField 16 recipe.toNat with
    | .invalid, _ => .error .productNotOnArm
    | _, .invalid => .error .recipeUnavailable
    | .named p, .named r => .ok ⟨c, some p, preset.toNat, some r⟩
    | .named p, .absent => .ok ⟨c, some p, preset.toNat, none⟩
    | .absent, .named r => .ok ⟨c, none, preset.toNat, some r⟩
    | .absent, .absent => .ok ⟨c, none, preset.toNat, none⟩

/-- A SETUP record: its arm is tested first, then its other fields, then the checks of R87 (DESIGN CHOICE, log 40). -/
def State.keySetup (s : State) (a arm compartment product : Byte) (preset : BitVec 24) (recipe : Byte) : State :=
  s.keyOp a arm .setup fun k =>
    match keySetupFields compartment product preset recipe with
    | .error r => (s, .refused r)
    | .ok f => s.setup k f (.keypad a)

/-- A START record. -/
def State.keyStart (s : State) (a arm : Byte) : State := s.keyOp a arm .start fun k => s.start k (.keypad a)

/-- A STOP record. -/
def State.keyStop (s : State) (a arm : Byte) : State := s.keyOp a arm .stop s.stop

/-- A SUSPEND record. -/
def State.keySuspend (s : State) (a arm : Byte) : State := s.keyOp a arm .suspend s.suspendOp

/-- A RESUME record. -/
def State.keyResume (s : State) (a arm : Byte) : State := s.keyOp a arm .resume s.resume

/-! ### Samples (R68) -/

/-- A TEMP record from a directory entry. -/
def State.takeTemp (s : State) (i : Fin 12) (t : BitVec 16) (good : Bool) : State :=
  match s.sampleArm i with
  | some k => if good then s.goodSample k (int16 t) else s.badSample k
  | none => s

/-! ### Routing (R171) -/

/-- A record of a kind accepted from `role`, whose layout is `ok`, from the station at a D address: it is offered to
its block, then copied upward when the entry has the forward flag; any other is discarded and counted. -/
def State.offer (s : State) (a : Byte) (role : Role) (ok : Bool) (record : List Byte) (block : Fin 12 → State) : State :=
  match s.findDevice a with
  | some i =>
    if (s.device i).role = some role ∧ ok then
      if (s.device i).forward then (block i).forwardCopy a role record else block i
    else s.countUnexpected
  | none => s.countUnexpected

/-- The CARD record's bytes (Table 10-8). -/
def cardRecord (n : BitVec 40) : List Byte := be 1 1 ++ be 5 n.toNat

/-- The TAG record's bytes. -/
def tagRecord (n : BitVec 32) : List Byte := be 1 2 ++ be 4 n.toNat

/-- The TEMP record's bytes. -/
def tempRecord (t : BitVec 16) (quality : Byte) : List Byte := be 1 3 ++ be 2 t.toNat ++ [quality]

/-- A KEY record's bytes. -/
def keyRecord (op : BatchOp) (arm compartment product : Byte) (preset : BitVec 24) (recipe : Byte) : List Byte :=
  be 1 4 ++ be 1 (opCode op) ++ [arm, compartment, product] ++ be 3 preset.toNat ++ [recipe]

/-- A CARD record from a D address. -/
def State.cardFrom (s : State) (a : Byte) (n : BitVec 40) : State :=
  s.offer a .cardReader true (cardRecord n) fun _ => s.takeCard n.toNat

/-- A TAG record from a D address. -/
def State.tagFrom (s : State) (a : Byte) (n : BitVec 32) : State :=
  s.offer a .tagReader true (tagRecord n) fun _ => s.takeTag n.toNat

/-- A TEMP record from a D address; a quality of neither 0 nor 1 is not accepted (R195). -/
def State.tempFrom (s : State) (a : Byte) (t : BitVec 16) (quality : Byte) : State :=
  s.offer a .tempXmtr (quality.toNat ≤ 1) (tempRecord t quality) fun i => s.takeTemp i t (quality == 1)

/-- A KEY SETUP record from a D address; a preset above 999,999 is not accepted (R195). -/
def State.keySetupFrom (s : State) (a arm compartment product : Byte) (preset : BitVec 24) (recipe : Byte) : State :=
  s.offer a .keypad (preset.toNat ≤ 999999) (keyRecord .setup arm compartment product preset recipe) fun _ =>
    s.keySetup a arm compartment product preset recipe

/-- A KEY record of another operation from a D address. -/
def State.keyFrom (s : State) (a arm : Byte) (op : BatchOp) (record : List Byte) (f : State) : State :=
  s.offer a .keypad true (if record.isEmpty then keyRecord op arm 0 0 0 0 else record) fun _ => f

/-- The byte of a payload at an offset. -/
def byteAt (p : List Byte) (i : Nat) : Byte := p.getD i 0

/-- R171, R195: the station record of a response. An empty payload of kind 0x48 is counted as a record whose length does not
suit its kind; only the NONE record carries none (DESIGN CHOICE, log 79). -/
def State.route (s : State) (a kind : Byte) (p : List Byte) : State :=
  if kind ≠ 0x48 then s.countUnexpected
  else
    match field p 0 1, p.length, field p 1 1 with
    | 0, 1, _ => s
    | 1, 6, _ => s.cardFrom a (BitVec.ofNat 40 (field p 1 5))
    | 2, 5, _ => s.tagFrom a (BitVec.ofNat 32 (field p 1 4))
    | 3, 4, _ => s.tempFrom a (BitVec.ofNat 16 (field p 1 2)) (byteAt p 3)
    | 4, 9, 1 => s.keySetupFrom a (byteAt p 2) (byteAt p 3) (byteAt p 4) (BitVec.ofNat 24 (field p 5 3)) (byteAt p 8)
    | 4, 9, 2 => s.keyFrom a (byteAt p 2) .start p (s.keyStart a (byteAt p 2))
    | 4, 9, 3 => s.keyFrom a (byteAt p 2) .stop p (s.keyStop a (byteAt p 2))
    | 4, 9, 4 => s.keyFrom a (byteAt p 2) .suspend p (s.keySuspend a (byteAt p 2))
    | 4, 9, 5 => s.keyFrom a (byteAt p 2) .resume p (s.keyResume a (byteAt p 2))
    | _, _, _ => s.countUnexpected

/-- R169, R171: a frame from a source address with kind and payload, when it is or is not the turn's response. A
response to a relay frame goes up unread (R173). The turn's own effects, the carried verdicts' removal among them (R170),
come before the record is offered (DESIGN CHOICE, log 80). -/
def State.stationFrame (s : State) (source kind : Byte) (p : List Byte) : State :=
  match s.awaited source with
  | some t =>
    let s1 := s.withDport { s.dport with assembling := false }
    if t.kind = TurnKind.relay then s1.turnAnswered t p else (s1.turnAnswered t []).route source kind p
  | none => s.unexpectedFrame

/-- A frame of the kind of a relay response: to a relay frame it is the reply (R173); to a poll or verdict frame it is a
response whose kind carries no station record, counted (R169, R195, log 27). -/
def State.relayAnswered (s : State) (source : Byte) (p : List Byte) : State :=
  match s.awaited source with
  | some t =>
    let s1 := s.withDport { s.dport with assembling := false }
    if t.kind = TurnKind.relay then s1.turnAnswered t p else (s1.turnAnswered t []).countUnexpected
  | none => s.unexpectedFrame

end Sys2Proof.Machine
end

