-- ==== Sys2Proof/Machine/Readout.lean ====
section
/-! DEFINITION. The status groups and the counter groups (R46, R59, R60, R80, R109, R131, R149, R151, R156, R175, R181 to
R183, R187, R198). -/

namespace Sys2Proof.Machine

/-- A flag. -/
def beBit (b : Bool) : List Byte := be 1 (bit b)

/-- An arm set made of those that satisfy `f`. -/
def armSet (f : Fin 4 → Bool) : Nat := (armIxs.map fun k => if f k then 2 ^ k.val else 0).sum

/-- An injector set. -/
def injSet (l : List (Fin 6)) : Nat := l.foldl (fun m j => m ||| 2 ^ j.val) 0

/-- The safety inputs in order. -/
def inputIxs : List SafetyInput := [.ground, .overfill, .estop, .deadman]

/-- A stored response, 255 when not latched. -/
def latchByte (l : Option Latch) : List Byte :=
  match l with
  | some x => be 1 (modeCode (latchMode x))
  | none => be 1 255

/-- Whole seconds since a timebase reading, floored (log 8), at the field's largest value when too many (R198). -/
def State.since (s : State) (w t : Nat) : List Byte := beSat w ((s.now - t) / 1000)

/-- Seconds left on a timer. -/
def State.left (s : State) (w : Nat) (t : Option Nat) : List Byte := beSat w (s.secondsLeft t)

/-- Running, then seconds left. -/
def State.timer (s : State) (w : Nat) (t : Option Nat) : List Byte := beBit t.isSome ++ s.left w t

/-! ### Status groups (Table 10-12) -/

def State.statusSummary (s : State) : List Byte :=
  be 1 (bayStateCode s.bayState) ++ beBit s.session.inService ++ be 1 (linkCode s.uport.link)
    ++ (armIxs.map fun k => be 1 (armStateCode (s.arm k).state)).flatten ++ beBit (armIxs.any s.armLatched)
    ++ beBit s.stopBayLatched ++ be 1 s.uport.events.length ++ be 1 s.uport.lost ++ be 1 s.custody.places.length

/-- The session part of the SESSION group; absent figures carry the codes the table names for them (log 18), and a figure
that its field cannot hold is a free value (log 17). -/
def State.statusRecord (s : State) : Option Session → List Byte
  | some r =>
    beBit true ++ beFig 4 r.number ++ beFig 5 r.openTime ++ beFig 5 r.card ++ beFig 2 r.carrier
      ++ beFig 2 (r.permit.getD 65535) ++ beFig 1 r.vehicle ++ beFig 4 r.tag ++ be 2 (s.permittedProducts r).toNat
      ++ be 1 (sourceCode r.source) ++ beFig 3 (s.quotaLimit r) ++ beFig 3 r.delivered ++ beFig 3 r.reserved
      ++ ((List.finRange 8).map fun c => be 1 (optFin (Vec.get r.claims c))).flatten ++ beFig 1 r.lines.length
      ++ be 1 ((r.closing.map closeReasonCode).getD 0)
  | none =>
    beBit false ++ be 4 0 ++ be 5 0 ++ be 5 0 ++ be 2 0 ++ be 2 65535 ++ be 1 0 ++ be 4 0 ++ be 2 0 ++ be 1 0 ++ be 3 0
      ++ be 3 0 ++ be 3 0 ++ List.replicate 8 255 ++ be 1 0 ++ be 1 0

def State.statusSession (s : State) : List Byte :=
  let b := s.session
  be 1 (bayStateCode s.bayState) ++ beBit b.inService ++ beFig 2 b.quotaDay
    ++ beBit b.candidate.isSome ++ be 4 (b.candidate.getD 0)
    ++ (match b.tagRecord with
      | some t => be 4 t.tag ++ s.since 2 t.confirmed ++ beBit s.freshTag.isSome
      | none => be 4 0 ++ be 2 0 ++ be 1 0)
    ++ (match b.presentation with
      | some p => be 1 1 ++ be 5 p.card ++ be 4 p.tag ++ s.left 1 (some p.deadline)
      | none => be 1 0 ++ be 5 0 ++ be 4 0 ++ be 1 0)
    ++ s.timer 2 b.idleTimer ++ s.statusRecord b.record

def State.statusSafety (s : State) : List Byte :=
  let d := s.safety.deadman
  (inputIxs.map fun i => beBit (s.input i).level ++ beBit (s.input i).timer.isSome).flatten
    ++ s.timer 2 d.timer ++ beBit d.warn ++ beBit d.expired ++ be 1 (armSet s.armLatched)
    ++ (faultClasses.map fun c => latchByte (s.fault c).latch ++ be 1 (s.fault c).armsLatched.toNat).flatten

def State.statusChannel (s : State) (k : Fin 4) : List Byte :=
  let m := s.meter k
  beBit m.running ++ be 3 m.ppl ++ beFig 2 m.lastN ++ beFig 2 m.lastA ++ beFig 2 m.lastB ++ beFig 3 m.q
    ++ beFig 1 m.debt ++ beBit m.excess ++ be 1 m.history.length ++ beFig 2 m.history.sum ++ be 4 m.unauth
    ++ beBit m.unauthFlag ++ beBit (s.showsFlow k)

/-- The volume part of the ARM group. T of an ABSENT record is sent as -32,768, as R192 codes an absent temperature
(DESIGN CHOICE beside R198, log 49). -/
def State.statusVolume (s : State) (k : Fin 4) : List Byte :=
  let v := s.vol k
  let b := (s.arm k).batch
  be 3 (v.factor.getD 0) ++ beFig 3 ((b.bind Batch.k5).getD 0) ++ be 1 (tempStateCode v.temp.state)
    ++ (if v.temp.state = .absent then beInt 2 (-32768) ++ be 1 0 ++ be 2 0
      else beInt 2 v.temp.t ++ beBit v.temp.clamped ++ s.since 2 v.temp.accepted)
    ++ s.timer 1 v.staleTimer ++ s.timer 1 v.lostTimer ++ beFig 2 ((b.map Batch.code).getD 0)

/-- The batch's own figures of the ARM group. -/
def State.statusBatch (s : State) (k : Fin 4) : List Byte :=
  let st := (s.arm k).state
  match (s.arm k).batch with
  | some b =>
    be 1 (b.compartment.val + 1) ++ be 1 (optFin b.recipe) ++ beFig 3 b.preset ++ beFig 3 (b.delivered / 1000)
      ++ beIntFig 4 (b.remaining / 1000) ++ be 1 (phaseCode b.phase) ++ be 2 (flagBits b.flags)
      ++ be 1 (if st = .suspended then (b.cause.map causeCode).getD 0 else 0)
      ++ be 1 (if st = .stopping then (b.endReason.map endReasonCode).getD 0 else 0)
  | none => be 1 0 ++ be 1 255 ++ be 3 0 ++ be 3 0 ++ be 4 0 ++ be 1 0 ++ be 2 0 ++ be 1 0 ++ be 1 0

/-- The ARM group (Table 10-12). The no-flow time of an arm outside the flow states is sent as it stands (DESIGN CHOICE,
log 61). -/
def State.statusArm (s : State) (k : Fin 4) : List Byte :=
  let a := s.arm k
  s.statusChannel k ++ s.statusVolume k ++ be 1 (armStateCode a.state) ++ be 1 (valveCode (s.valve k))
    ++ s.statusBatch k ++ beFig 2 (predicted a.history (s.armEntry k).maxOverrun) ++ be 1 a.history.length
    ++ be 3 a.noFlow
    ++ (if a.state = .suspended ∨ a.state = .stopping then s.timer 1 a.stopTimer ++ beFig 1 a.zeroCloses
      else be 3 0)

/-- An injector's part of the ADDITIVE group (Table 10-12). The in-service byte of an entry marked DAMAGED is the field as
stored (R131), though R111 reads such an entry as empty (DESIGN CHOICE, log 77). -/
def State.statusInjector (s : State) (j : Fin 6) : List Byte :=
  let x := s.inj j
  be 1 (injStateCode x.state) ++ be 1 (optFin x.claimant) ++ be 1 x.misses ++ beBit x.windowOpen
    ++ beBit (tabGet emptyInjector s.tables.injectors j.val).entry.inService
    ++ beFig 2 (if x.open_ then x.measured else 0) ++ s.left 1 x.timer

/-- A place of the waiting list. -/
def State.statusWaiting (s : State) (i : Nat) : List Byte :=
  match s.additive.waiting[i]? with
  | some k => be 1 k.val ++ be 1 (injSet (s.blockers k ((s.arm k).batch.bind Batch.recipe)))
  | none => be 1 255 ++ be 1 0

/-- A dose record of the batch of an arm. -/
def statusDose (l : List DoseRec) (i : Nat) : List Byte :=
  match l[i]? with
  | some d =>
    be 1 d.injector.val ++ beFig 3 d.interval ++ beFig 4 d.nextDue ++ beFig 1 d.owed ++ beFig 2 d.done
      ++ beFig 4 d.measured
      ++ be 1 d.outCount ++ beBit d.claimLost
  | none => List.replicate 17 0

/-- The dose records reported for an arm: those of a batch past READY. -/
def State.reportedDoses (s : State) (k : Fin 4) : List DoseRec :=
  if (s.arm k).state.running then ((s.arm k).batch.map Batch.doses).getD [] else []

def State.statusAdditive (s : State) (k : Fin 4) : List Byte :=
  let d := s.reportedDoses k
  (injIxs.map s.statusInjector).flatten ++ be 1 s.additive.waiting.length
    ++ ((List.range 3).map s.statusWaiting).flatten ++ be 1 d.length ++ ((List.range 3).map (statusDose d)).flatten

/-- Places in a state. -/
def State.placesIn (s : State) (st : PlaceState) : Nat := (s.custody.places.filter fun p => p.state == st).length

/-- The note counter as reported, 0 for USED_UP. -/
def counterFigure : NoteCounter → Nat
  | .next n => n
  | .usedUp => 0

def State.statusCustody (s : State) : List Byte :=
  let c := s.custody
  let notes := (c.places.filter fun p => p.state != .reserved).map Place.number
  let hurt := armIxs.any (fun k => (Vec.get c.gross k).damaged || (Vec.get c.standard k).damaged)
    || injIxs.any fun j => (Vec.get c.additive j).damaged
  be 1 c.places.length ++ be 1 (s.placesIn .ready) ++ be 1 (s.placesIn .damaged) ++ be 1 (s.placesIn .reserved)
    ++ beFig 4 (notes.head?.getD 0) ++ beFig 4 (notes.getLast?.getD 0) ++ beFig 4 (counterFigure c.counter)
    ++ beBit hurt ++ beFig 5 c.clock ++ beFig 2 s.bayDay

/-- The poll cursor as reported: none while no entry is a station of the round (R175, R198). -/
def State.reportedCursor (s : State) : Option (Fin 12) :=
  match s.firstStation s.dport.round with
  | none => none
  | some i => some (s.dport.cursor.getD i)

def State.statusLines (s : State) : List Byte :=
  let u := s.uport
  let d := s.dport
  be 1 u.address.toNat ++ be 1 u.speed.toNat ++ be 1 d.speed.toNat ++ be 1 (linkCode u.link) ++ s.left 1 u.silence
    ++ be 1 u.events.length ++ be 1 u.lost ++ be 1 u.relayUp.length
    ++ be 1 (u.relayUp.filter fun p => match p with
      | .reserved _ _ => true
      | .filled _ => false).length
    ++ be 1 (slotClassCode u.firstClaim) ++ be 1 d.relayDown.length
    ++ (match d.relayDown with
      | r :: _ => [r.address]
      | [] => be 1 255)
    ++ be 1 d.round ++ be 1 (optFin s.reportedCursor)
    ++ (deviceIxs.map fun i => be 1 (stationStateCode (s.station i).state) ++ be 1 (s.station i).misses
      ++ be 1 (s.station i).verdicts.length).flatten

/-- Entries of a sparse table marked DAMAGED. -/
def damagedIn (t : Tab α) : Nat := (t.filter fun p => p.2.damaged).length

/-- The RETENTION group; the percentage of the pass is floored (DESIGN CHOICE, log 8). -/
def State.statusRetention (s : State) : List Byte :=
  let r := s.retention
  let t := s.tables
  beBit r.lastValid ++ beSat 1 (r.cursor * 100 / (Config.lastRetentionWord + 1)) ++ be 2 r.passes ++ be 1 r.correctable
    ++ beBit r.overflow ++ be 2 (damagedIn t.permits) ++ be 2 (damagedIn t.vehicles) ++ be 2 (bit t.compat.damaged)
    ++ be 2 (damagedIn t.products) ++ be 2 (damagedIn t.recipes) ++ be 2 (damagedIn t.injectors)
    ++ be 2 (damagedIn t.arms) ++ be 2 (damagedIn t.devices)
    ++ be 2 ((List.finRange 11).filter fun c => (Vec.get t.policies c).damaged).length ++ be 2 (bit t.bay.damaged)

/-- R181: the figures of a group; none where the group, or the arm of the ARM and ADDITIVE groups, is out of range. -/
def State.statusGroup (s : State) (group arm : Nat) : Option (List Byte) :=
  match group, finOf 4 arm with
  | 0, _ => some s.statusSummary
  | 1, _ => some s.statusSession
  | 2, _ => some s.statusSafety
  | 3, some k => some (s.statusArm k)
  | 4, some k => some (s.statusAdditive k)
  | 5, _ => some s.statusCustody
  | 6, _ => some s.statusLines
  | 7, _ => some s.statusRetention
  | _, _ => none

/-- R181: STATUS_READ. -/
def State.statusRead (s : State) (p : List Byte) : State × Answer :=
  match s.statusGroup (field p 0 1) (field p 1 1) with
  | some d => (s, accept 0 d)
  | none => (s, deny .badValue)

/-! ### Counter groups (Table 10-13) -/

/-- A fault record in 16 bytes. -/
def faultBytes (r : FaultRec) : List Byte :=
  latchByte r.latch ++ be 1 r.count ++ be 1 (optFin r.firstArm) ++ beFig 5 (r.firstTime.getD 0)
    ++ beFig 5 (r.lastTime.getD 0)
    ++ be 1 r.armsNamed.toNat ++ be 1 r.armsLatched.toNat ++ beBit r.drill

def State.countersSafety (s : State) : List Byte :=
  (faultClasses.map fun c => faultBytes (s.fault c)).flatten ++ (inputIxs.map fun i => be 2 (s.input i).chatter).flatten
    ++ be 2 s.safety.deadman.presses

def State.countersMeter (s : State) : List Byte :=
  (armIxs.map fun k => be 2 (s.meter k).discrepancies ++ be 2 (s.meter k).reverses).flatten
    ++ be 2 s.session.chattered

def State.countersTemp (s : State) : List Byte :=
  (armIxs.map fun k => be 2 (s.vol k).badSamples ++ be 2 (s.vol k).clamps ++ be 2 (s.vol k).overruns).flatten

def State.countersAdditive (s : State) : List Byte := (injIxs.map fun j => be 2 (s.inj j).stray).flatten

/-- A totalizer with its mark. -/
def totalizerBytes (t : Totalizer) : List Byte := beFig 8 t.value ++ beBit t.damaged

def State.countersCustody (s : State) : List Byte :=
  let c := s.custody
  (armIxs.map fun k => totalizerBytes (Vec.get c.gross k) ++ totalizerBytes (Vec.get c.standard k)).flatten
    ++ (injIxs.map fun j => totalizerBytes (Vec.get c.additive j)).flatten ++ beFig 4 (counterFigure c.counter)
    ++ be 1 c.places.length

def State.countersLine (s : State) : List Byte :=
  let u := s.uport
  let d := s.dport
  be 2 u.framing ++ be 2 u.check ++ be 2 u.incomplete ++ be 2 u.overlapping ++ be 2 d.framing ++ be 2 d.check
    ++ be 2 d.incomplete ++ be 2 d.unexpected ++ be 2 d.verdictDrop ++ be 2 d.relayDrop

def State.countersRetention (s : State) : List Byte :=
  be 1 s.retention.correctable ++ beBit s.retention.overflow ++ be 2 s.retention.passes

/-- The counters of a group. -/
def State.counterGroup (s : State) : Nat → Option (List Byte)
  | 0 => some s.countersSafety
  | 1 => some s.countersMeter
  | 2 => some s.countersTemp
  | 3 => some s.countersAdditive
  | 4 => some s.countersCustody
  | 5 => some s.countersLine
  | 6 => some s.countersRetention
  | _ => none

/-- R46: chatter and press counts to 0. -/
def SafetyBlk.clearCounts (b : SafetyBlk) : SafetyBlk :=
  { b with
    inputs := Vector.ofFn fun i => { Vec.get b.inputs i with chatter := 0 }
    deadman := { b.deadman with presses := 0 } }

/-- R80. -/
def VolArm.clearCounts (v : VolArm) : VolArm := { v with badSamples := 0, clamps := 0, overruns := 0 }

/-- R59. -/
def State.clearMeterCounts (s : State) : State :=
  (s.withMeters (Vector.ofFn fun k => { Vec.get s.meters k with discrepancies := 0, reverses := 0 })).withSession
    { s.session with chattered := 0 }

/-- R131. -/
def AdditiveBlk.clearCounts (b : AdditiveBlk) : AdditiveBlk :=
  { b with injectors := Vector.ofFn fun j => { Vec.get b.injectors j with stray := 0 } }

/-- R156. -/
def State.clearLineCounts (s : State) : State :=
  (s.withUport { s.uport with framing := 0, check := 0, incomplete := 0, overlapping := 0 }).withDport
    { s.dport with framing := 0, check := 0, incomplete := 0, unexpected := 0, verdictDrop := 0, relayDrop := 0 }

/-- R183, Table 9-6: the counters that a group's clear sets to 0. -/
def State.clearGroup (s : State) : Nat → State
  | 0 => s.withSafety s.safety.clearCounts
  | 1 => s.clearMeterCounts
  | 2 => s.withVolumes (Vector.ofFn fun k => (Vec.get s.volumes k).clearCounts)
  | 3 => s.withAdditive s.additive.clearCounts
  | 5 => s.clearLineCounts
  | 6 => s.withRetention { s.retention with correctable := 0, overflow := false }
  | _ => s

/-- R183: COUNTER_READ. A clear flag byte that is neither 0 nor 1 is refused with BAD_VALUE (DESIGN CHOICE, log 48). -/
def State.counterRead (s : State) (p : List Byte) : State × Answer :=
  match s.counterGroup (field p 0 1), flagOf (field p 1 1) with
  | some d, some clear => (if clear then s.clearGroup (field p 0 1) else s, accept 0 d)
  | _, _ => (s, deny .badValue)

end Sys2Proof.Machine
end

