-- ==== Sys2Proof/Machine/Resets.lean ====
section
/-! DEFINITION. Loss of supply, start-up and bay reset (R25, R26, R45, R61, R62, R80, R110, R129, R150, R174, R186, R189 to
R191), and the clock of the part (R184). -/

namespace Sys2Proof.Machine

/-! ### Volatile state -/

/-- A dose record after a loss of supply: its volatile fields are gone (Table 6-4). -/
def retainedDose (d : DoseRec) : DoseRec := { d with interval := 0, nextDue := 0, outCount := 0, overflow := false }

/-- A batch record after a loss of supply: its volatile fields are gone (Table 5-4). -/
def retainedBatch (b : Batch) : Batch :=
  { b with source := .server, cause := none, overrun := none, doses := b.doses.map retainedDose }

/-- Each input at its power-on value, its pin as it stands (R30). -/
def SafetyBlk.powerOn (b : SafetyBlk) : SafetyBlk :=
  { b with inputs := Vector.ofFn fun i => Input.powerOn (Vec.get b.inputs i).pin, deadman := Deadman.powerOn }

/-- A channel at the values of Table 3-5, stopped; the seen levels are the pins'. -/
def Meter.blank (m : Meter) : Meter := Meter.powerOn m.seenA m.seenB

/-- R167: the stations as the directory gives them, SILENT or ABSENT. -/
def State.freshStations (s : State) : Vector Station 12 :=
  Vector.ofFn fun i => Station.powerOn ((s.device i).address != 0)

/-- The D port's stations as the directory gives them, the cursor at the first station of round 0 (R168, Table 8-7). -/
def State.freshDirectory (s : State) : State :=
  let s1 := s.withDport { s.dport with stations := s.freshStations, round := 0 }
  s1.withDport { s1.dport with cursor := s1.firstStation 0 }

/-- The ports at Table 8-7 with their straps read. -/
def State.portsOn (s : State) : State :=
  ((s.withUport (UPort.powerOn s.pins.straps)).withDport (DPort.powerOn s.pins.straps)).freshDirectory

/-- R190, step 1: every block at its volatile power-on value; what retention holds stays. -/
def State.blankVolatile (s : State) : State :=
  let s1 := (s.withSession s.session.loseVolatile).withSafety s.safety.powerOn
  let s2 := s1.withMeters (Vector.ofFn fun k => (Vec.get s.meters k).blank)
  let s3 := s2.withVolumes (Vector.replicate 4 VolArm.powerOn)
  let s4 := s3.withArms (Vector.ofFn fun k => Arm.powerOn ((Vec.get s.arms k).batch.map retainedBatch))
  let s5 := (s4.withAdditive AdditiveBlk.powerOn).withCustody { s.custody with midnight := false }
  s5.portsOn.withRetention { s.retention with
    correctable := 0, overflow := false, cursor := 0, passes := 0, reads := [] }

/-- The volatile state goes; a rollover still owed is made before (log 47). -/
def State.loseVolatile (s : State) : State := s.owedRollover.blankVolatile

/-- R30: each pin that stands high begins its debounce. -/
def State.watchPins (s : State) : State :=
  inputIxs.foldl (fun t i => if (t.input i).pin then t.seenHigh i else t) s

/-- R50: every channel starts with the counts it holds for its first window. -/
def State.startChannels (s : State) : State :=
  armIxs.foldl (fun t k => t.startChannel k (t.meter k).aCount (t.meter k).bCount (t.meter k).n) s

/-! ### Bay reset (R186) -/

/-- R174: what the line ports do when a reset begins. -/
def State.cutLines (s : State) : State :=
  (s.withUport { s.uport with events := [], relayUp := [], lost := 0, assembling := false, phase := .none }).withDport
    { s.dport with turn := none, assembling := false }

/-- R25, R129 for one arm, by the arm's state; where a rewritten session record (R188) made the batch's phase disagree
with it, the state decides (DESIGN CHOICE, log 50). -/
def State.resetArm (s : State) (k : Fin 4) : State :=
  match (s.arm k).state with
  | .lowStart | .full | .slowdown | .suspended | .stopping => s.batchEnd k .reset true
  | .ready | .waitInjector => s.cancel k
  | .idle => s

/-- Step 2 of R186. -/
def State.resetSession (s : State) : State := (armIxs.foldl State.resetArm s).closeSession .reset

/-- A channel at a bay reset: Table 3-5, with the counts of the window in progress carried (R62). -/
def Meter.carried (m : Meter) : Meter := { m.blank with aCount := m.aCount, bCount := m.bCount, n := m.n }

/-- A volume engine at a bay reset: the unauthorised-path remainder stays (R73, R80). -/
def VolArm.reset (v : VolArm) : VolArm := { VolArm.powerOn with unauthRem := v.unauthRem }

/-- R174: the ports at a bay reset keep their line error counters and the event queue of step 2. -/
def State.portsReset (s : State) : State :=
  let u := s.uport
  let d := s.dport
  ((s.withUport { UPort.powerOn s.pins.straps with
    events := u.events, lost := u.lost, framing := u.framing, check := u.check, incomplete := u.incomplete
    overlapping := u.overlapping }).withDport
    { DPort.powerOn s.pins.straps with
      framing := d.framing, check := d.check, incomplete := d.incomplete
      unexpected := d.unexpected, verdictDrop := d.verdictDrop, relayDrop := d.relayDrop }).freshDirectory

/-- Step 3 of R186. -/
def State.resetBlocks (s : State) : State :=
  let s1 := (s.withSession s.session.loseVolatile).withSafety s.safety.powerOn
  let s2 := s1.withMeters (Vector.ofFn fun k => (Vec.get s.meters k).carried)
  let s3 := s2.withVolumes (Vector.ofFn fun k => (Vec.get s.volumes k).reset)
  let s4 := (s3.withArms (Vector.replicate 4 (Arm.powerOn none))).withAdditive AdditiveBlk.powerOn
  let s5 := s4.portsReset.withRetention { s.retention with
    correctable := 0, overflow := false, cursor := 0, passes := 0 }
  s5.startChannels.watchPins

/-- R186: a bay reset. The outputs that step 1 closes are those of the arms and injectors that steps 2 and 3 leave. -/
def State.bayReset (s : State) : State := s.cutLines.resetSession.resetBlocks

/-! ### Power (R190, R191) -/

/-- R26, R107 for one arm found at power-on. -/
def State.powerLossArm (s : State) (k : Fin 4) : State :=
  match (s.arm k).batch with
  | some b => if b.phase = .started then s.batchEnd k .powerLoss true else s.dropBatch k
  | none => s

/-- R26, R134: the session record found at power-on. -/
def State.powerLossClose (s : State) : State :=
  match s.session.record with
  | some r => if r.closed then s.setRecord none else (armIxs.foldl State.powerLossArm s).closeSession .powerLoss
  | none => s

/-- R20, R190: the rollover check at power-on. -/
def State.rolloverCheck (s : State) : State := if s.bayDay ≠ s.session.quotaDay then s.rollover else s

/-- R180: the service flag at power-on with retention valid. -/
def State.resumeService (s : State) : State :=
  s.withSession { s.session with inService := s.session.inService && s.bay.resumeInService }

/-- No batch is left once the session found at power-on is closed (R107). -/
def State.dropBatches (s : State) : State :=
  s.withArms (Vector.ofFn fun k => { Vec.get s.arms k with batch := none })

/-- Steps 3 and 4 of R190 with retention valid. -/
def State.retentionKept (s : State) (findings : List Finding) : State :=
  let s1 := s.withRetention (RetCtl.powerOn true)
  let s2 := findings.foldl (State.readWord true) s1
  s2.powerLossClose.dropBatches.rolloverCheck.resumeService

/-- R191. -/
def State.retentionCleared (s : State) : State :=
  let s1 := s.withTables clearedTables
  let s2 := s1.withSession ⟨false, 0, none, none, none, 0, none, none⟩
  let s3 := s2.withSafety { s2.safety with faults := Vector.replicate 11 FaultRec.empty }
  let s4 := (s3.withArms (Vector.replicate 4 (Arm.powerOn none))).withCustody CustodyBlk.cleared
  (s4.withRetention (RetCtl.powerOn false)).raise .retentionLost

/-- The pins as they stand at power-on. A BRST found asserted counts as asserted before: no bay reset begins until a release
and a new assertion (DESIGN CHOICE, log 71). -/
def State.readPins (s : State) (p : PinLevels) : State :=
  let level : SafetyInput → Bool := fun i => match i with
    | .ground => p.grd | .overfill => p.ovf | .estop => p.estp | .deadman => p.dmn
  let s1 := s.withPins ⟨p.straps, p.brst⟩
  let s2 := inputIxs.foldl (fun t i => t.setInput i { t.input i with pin := level i }) s1
  s2.withMeters (Vector.ofFn fun k => { Vec.get s2.meters k with seenA := Vec.get p.ma k, seenB := Vec.get p.mb k })

/-- R190: start-up. -/
def State.startUp (s : State) (p : PinLevels) (kept : Bool) (findings : List Finding) : State :=
  let s1 := ((s.readPins p).loseVolatile).withPowered true
  let s2 := if kept && s.retention.marker then s1.retentionKept findings else s1.retentionCleared
  s2.freshDirectory.startChannels.watchPins

/-- R77: the main supply is lost. -/
def State.powerLost (s : State) : State := s.loseVolatile.withPowered false

/-! ### Time (R20, R184) -/

/-- R184: the clock's next second; at a whole multiple of 86,400 a midnight has passed. -/
def CustodyBlk.second (c : CustodyBlk) (powered : Bool) : CustodyBlk :=
  if clockMax ≤ c.clock then c
  else
    { c with
      clock := c.clock + 1, phase := 0
      midnight := c.midnight || (powered && (c.clock + 1) % 86400 == 0) }

/-- One millisecond of the part's timebase (log 2). -/
def State.tick (s : State) : State :=
  let c := s.custody
  ((s.withNow (s.now + 1)).withUport (s.uport.beginReply (s.now + 1))).withCustody
    (if 999 ≤ c.phase then { c with phase := 0 }.second s.powered
     else if clockMax ≤ c.clock then c else { c with phase := c.phase + 1 })

/-- R20: the clock passes midnight. -/
def State.midnightPassed (s : State) : State :=
  if s.custody.midnight then s.owedRollover
  else
    let t := (s.bayDay + 1) * 86400
    if t ≤ clockMax then (s.withCustody { s.custody with clock := t, phase := 0 }).rollover else s

/-- A timer has reached its expiry. -/
def State.due (s : State) (t : Option Nat) : Bool :=
  match t with
  | some d => decide (d ≤ s.now)
  | none => false

/-- The deadman's warning point is reached (R35). -/
def State.warningDue (s : State) : Bool :=
  match s.safety.deadman.timer with
  | some d => !s.safety.deadman.warned && decide (d ≤ s.now + 15000)
  | none => false

/-- The timer of a turn's wait. -/
def State.turnTimer (s : State) : Option Nat :=
  match s.dport.turn with
  | some t => t.timer
  | none => none

/-- A command that is due, or none. -/
def dueIf (b : Bool) (c : Instr) : Option Instr := if b then some c else none

/-- The timer events of one arm that are due. -/
def State.armDue (s : State) (k : Fin 4) : List (Option Instr) :=
  [dueIf (s.due (s.meter k).window) (.gateWindowClose k),
    dueIf ((s.arm k).state == .suspended && s.due (s.arm k).stopTimer) (.suspendStopTimeout k),
    dueIf ((s.arm k).state == .stopping && s.due (s.arm k).stopTimer) (.stoppingTimeout k),
    dueIf (s.due (s.vol k).staleTimer) (.stalenessExpiry k),
    dueIf (s.due (s.vol k).lostTimer) (.lostTimerExpiry k)]

/-- The timer events of one injector that are due. -/
def State.injDue (s : State) (j : Fin 6) : List (Option Instr) :=
  [dueIf (s.due (s.inj j).timer) (.injectionTimeout j), dueIf (s.due (s.inj j).windowTimer) (.feedbackWindowClose j)]

/-- The part's own event that is due, the first of a fixed order (log 2, log 7). -/
def State.dueCommand (s : State) : Option Instr :=
  if s.powered then
    ((inputIxs.map fun i => dueIf (s.due (s.input i).timer) (.debounceExpiry i))
      ++ [dueIf (s.due s.safety.deadman.timer) .deadmanExpiry, dueIf s.warningDue .deadmanWarning]
      ++ (armIxs.map s.armDue).flatten ++ (injIxs.map s.injDue).flatten
      ++ [dueIf (s.due s.session.idleTimer) .idleTimeout,
        dueIf (s.due (s.session.presentation.map Presentation.deadline)) .authorisationDeadline,
        dueIf (s.due s.uport.silence) .linkSilenceExpiry,
        dueIf (s.due s.turnTimer) (.dResponseTimeout s.dport.assembling),
        dueIf s.custody.midnight .dayRollover, dueIf s.uport.resetDue (.bayReset .request)]).findSome? id
  else none

end Sys2Proof.Machine
end

