-- ==== Sys2Proof/Machine/AdditiveCmds.lean ====
section
/-! DEFINITION. The commands of the additive unit: feedback pulses, the injection timeout and the end of the feedback window. -/

namespace Sys2Proof.Machine

/-- FEEDBACK_PULSE (R122). -/
def execFeedbackPulse (j : Fin 6) (s : State) : Host.Outcome State Fault Refusal :=
  whenPowered (fun t => t.feedback j) s

/-- INJECTION_TIMEOUT (R121): acts while the timeout timer runs. -/
def execInjectionTimeout (j : Fin 6) (s : State) : Host.Outcome State Fault Refusal :=
  whenPowered (fun t =>
    if (t.inj j).timer.isSome then t.closeInjection j true else t) s

/-- FEEDBACK_WINDOW_CLOSE (R122): acts while the tail of a window runs. -/
def execFeedbackWindowClose (j : Fin 6) (s : State) : Host.Outcome State Fault Refusal :=
  whenPowered (fun t =>
    if (t.inj j).windowTimer.isSome then
      t.setInj j { t.inj j with windowOpen := false, windowTimer := none, owner := none }
    else t) s

end Sys2Proof.Machine
end

