-- ==== Sys2Proof/Machine/BatchCmds.lean ====
section
/-! DEFINITION. The commands of the arm controllers: the five batch operations from either source, and the stop timers. -/

namespace Sys2Proof.Machine

/-- BATCH_SETUP (R86 to R89). -/
def execBatchSetup (tag : Byte) (payload : List Byte) (s : State) : Host.Outcome State Fault Refusal :=
  whenPowered (fun t => t.request 0x07 tag (payload.length == 7) fun u => u.setupRequest payload) s

/-- BATCH_START (R90 to R92). -/
def execBatchStart (tag : Byte) (payload : List Byte) (s : State) : Host.Outcome State Fault Refusal :=
  whenPowered (fun t => t.request 0x08 tag (payload.length == 1) fun u => u.armRequest payload fun k => u.start k .server) s

/-- BATCH_STOP (R102). -/
def execBatchStop (tag : Byte) (payload : List Byte) (s : State) : Host.Outcome State Fault Refusal :=
  whenPowered (fun t => t.request 0x09 tag (payload.length == 1) fun u => u.armRequest payload u.stop) s

/-- BATCH_SUSPEND (R100). -/
def execBatchSuspend (tag : Byte) (payload : List Byte) (s : State) : Host.Outcome State Fault Refusal :=
  whenPowered (fun t => t.request 0x0A tag (payload.length == 1) fun u => u.armRequest payload u.suspendOp) s

/-- BATCH_RESUME (R101). -/
def execBatchResume (tag : Byte) (payload : List Byte) (s : State) : Host.Outcome State Fault Refusal :=
  whenPowered (fun t => t.request 0x0B tag (payload.length == 1) fun u => u.armRequest payload u.resume) s

/-- KEY_SETUP (R86 to R89, R171). -/
def execKeySetup (address arm compartment product : Byte) (preset : BitVec 24) (recipe : Byte) (s : State) : Host.Outcome State Fault Refusal :=
  whenPowered (fun t => t.keySetupFrom address arm compartment product preset recipe) s

/-- KEY_START (R86, R171). -/
def execKeyStart (address arm : Byte) (s : State) : Host.Outcome State Fault Refusal :=
  whenPowered (fun t => t.keyFrom address arm .start [] (t.keyStart address arm)) s

/-- KEY_STOP (R86, R171). -/
def execKeyStop (address arm : Byte) (s : State) : Host.Outcome State Fault Refusal :=
  whenPowered (fun t => t.keyFrom address arm .stop [] (t.keyStop address arm)) s

/-- KEY_SUSPEND (R86, R171). -/
def execKeySuspend (address arm : Byte) (s : State) : Host.Outcome State Fault Refusal :=
  whenPowered (fun t => t.keyFrom address arm .suspend [] (t.keySuspend address arm)) s

/-- KEY_RESUME (R86, R171). -/
def execKeyResume (address arm : Byte) (s : State) : Host.Outcome State Fault Refusal :=
  whenPowered (fun t => t.keyFrom address arm .resume [] (t.keyResume address arm)) s

/-- SUSPEND_STOP_TIMEOUT (R99): acts while the stop timer of a SUSPENDED arm runs. -/
def execSuspendStopTimeout (k : Fin 4) (s : State) : Host.Outcome State Fault Refusal :=
  whenPowered (fun t =>
    if (t.arm k).state = .suspended ∧ (t.arm k).stopTimer.isSome then
      (t.setArm k { t.arm k with stopTimer := none }).armFault .valve k
    else t) s

/-- STOPPING_TIMEOUT (R104): acts while the stop timer of a STOPPING arm runs. The last arm's timeout in CLOSING closes
the session before VALVE is raised (DEDUCED, log 38). -/
def execStoppingTimeout (k : Fin 4) (s : State) : Host.Outcome State Fault Refusal :=
  whenPowered (fun t =>
    if (t.arm k).state = .stopping ∧ (t.arm k).stopTimer.isSome then
      ((t.updBatch k fun b => { b with endReason := some .fault }).endStopped k).armFault .valve k
    else t) s

end Sys2Proof.Machine
end

