-- ==== Sys2Proof/Machine/CustodyCmds.lean ====
section
/-! DEFINITION. The commands of the custody store: note requests, the bay clock and day rollover. -/

namespace Sys2Proof.Machine

/-- NOTE_LIST (R140). -/
def execNoteList (tag : Byte) (payload : List Byte) (reads : List Finding) (s : State) : Host.Outcome State Fault Refusal :=
  whenPowered (fun t => t.request 0x0C tag (payload.length == 0) fun u => u.noteList reads) s

/-- NOTE_READ (R142). -/
def execNoteRead (tag : Byte) (payload : List Byte) (reads : List Finding) (s : State) : Host.Outcome State Fault Refusal :=
  whenPowered (fun t => t.request 0x0D tag (payload.length == 5) fun u => u.noteRead payload reads) s

/-- NOTE_RELEASE (R143). -/
def execNoteRelease (tag : Byte) (payload : List Byte) (reads : List Finding) (s : State) : Host.Outcome State Fault Refusal :=
  whenPowered (fun t => t.request 0x0E tag (payload.length == 4) fun u => u.noteRelease payload reads) s

/-- CLOCK_SET (R184). -/
def execClockSet (tag : Byte) (payload : List Byte) (s : State) : Host.Outcome State Fault Refusal :=
  whenPowered (fun t => t.request 0x15 tag (payload.length == 5) fun u => u.clockSet payload) s

/-- DAY_ROLLOVER (R20, R184). -/
def execDayRollover (s : State) : Host.Outcome State Fault Refusal :=
  whenPowered State.midnightPassed s

/-- BAY_CLOCK_STOP (R184): the clock stands at its last value. -/
def execBayClockStop (s : State) : Host.Outcome State Fault Refusal :=
  whenPowered (fun t =>
    t.withCustody { t.custody with clock := clockMax, phase := 0 }) s

end Sys2Proof.Machine
end

