-- ==== Sys2Proof/Machine/LineCmds.lean ====
section
/-! DEFINITION. The commands of the U port: unknown and broadcast requests, the end of a reply, link silence, and the receivers of both lines. -/

namespace Sys2Proof.Machine

/-- A frame of the U line ends incomplete (R153). With a request in hand, when R157 lets no frame begin, it counts all the
same (DESIGN CHOICE, log 75). -/
def State.endFrameU (s : State) : State :=
  s.withUport { s.uport with incomplete := bump 65535 s.uport.incomplete, assembling := false }

/-- A frame of the D line ends incomplete (R153); a turn past its timeout ends with it (R169). -/
def State.endFrameD (s : State) : State :=
  (s.withDport { s.dport with incomplete := bump 65535 s.dport.incomplete, assembling := false }).endOverdue

/-- The driver enable of a line (R155); its receiver takes nothing while it is asserted. -/
def State.driving (s : State) (line : Line) : Bool :=
  match line with
  | .u => s.ude
  | .d => s.dde

/-- A frame of a line ends incomplete (R153). -/
def State.endFrame (s : State) (line : Line) : State :=
  match line with
  | .u => s.endFrameU
  | .d => s.endFrameD

/-- An address character in IGNORING (R153, R157): it may start a frame. -/
def State.addressCharacter (s : State) (line : Line) (a : Byte) : State :=
  match line with
  | .u =>
    if a = 31 ∨ (s.addressed ∧ a = s.uport.address.zeroExtend 8) then
      if s.uport.inHand.isSome then s.countOverlap else s.withUport { s.uport with assembling := true }
    else s
  | .d => if a = 0 ∨ a = 31 then s.withDport { s.dport with assembling := true } else s

/-- A framing error on a line: counted; a frame being assembled ends incomplete (R153), on the U line with a request in hand
too (DESIGN CHOICE, log 75). -/
def State.framingError (s : State) (line : Line) (inFrame : Bool) : State :=
  match line with
  | .u =>
    let t := s.withUport { s.uport with framing := bump 65535 s.uport.framing }
    if inFrame ∨ s.uport.assembling then t.endFrameU else t
  | .d =>
    let t := s.withDport { s.dport with framing := bump 65535 s.dport.framing }
    if inFrame ∨ s.dport.assembling then t.endFrameD else t

/-- A frame whose check fails (R154); on the D line a turn past its timeout ends with it (R169). On the U line it counts with
a request in hand too, when R157 lets no frame begin (DESIGN CHOICE, log 75). -/
def State.checkError (s : State) (line : Line) : State :=
  match line with
  | .u => s.withUport { s.uport with check := bump 65535 s.uport.check, assembling := false }
  | .d => (s.withDport { s.dport with check := bump 65535 s.dport.check, assembling := false }).endOverdue

/-- RELAY (R172). -/
def execRelay (tag : Byte) (payload : List Byte) (s : State) : Host.Outcome State Fault Refusal :=
  whenPowered (fun t => t.request 0x0F tag (within 2 payload.length 50) fun u => u.relay payload) s

/-- UNKNOWN_REQUEST (R157). -/
def execUnknownRequest (kind tag : Byte) (payload : List Byte) (s : State) : Host.Outcome State Fault Refusal :=
  whenPowered (fun t => t.request kind tag (payload.length ≤ 240) fun u =>
    (u, deny .unknownRequest)) s

/-- BROADCAST_REQUEST (R157): CLOCK_SET and a BAY_COMMAND setting OUT_OF_SERVICE reach their owners, without reply. -/
def execBroadcastRequest (kind : Byte) (payload : List Byte) (s : State) : Host.Outcome State Fault Refusal :=
  whenPowered (fun t =>
    if t.ude then t
    else if t.uport.inHand.isSome then t.countOverlap
    else if kind = 0x15 ∧ payload.length = 5 then (t.linkFrame.clockSet payload).1
    else if kind = 0x16 ∧ payload = [0] then (t.linkFrame.bayCommand payload).1
    else t.linkFrame) s

/-- REPLY_COMPLETE (R157, R158): the request is no longer in hand, its reply sent or still to begin (log 30); a RESET
that was taken falls due, and one that is due stays so. -/
def execReplyComplete (s : State) : Host.Outcome State Fault Refusal :=
  whenPowered (fun t =>
    if t.uport.inHand.isSome then
      t.withUport { t.uport with
        inHand := none, phase := .none, resetDue := t.uport.resetDue || t.uport.resetAsked, resetAsked := false }
    else t) s

/-- LINK_SILENCE_EXPIRY (R164): acts while the link silence timer runs. -/
def execLinkSilenceExpiry (s : State) : Host.Outcome State Fault Refusal :=
  whenPowered (fun t =>
    if t.uport.silence.isSome then t.linkSilent else t) s

/-- FRAMING_ERROR (R153, R155). -/
def execFramingError (line : Line) (inFrame : Bool) (s : State) : Host.Outcome State Fault Refusal :=
  whenPowered (fun t => if t.driving line then t else t.framingError line inFrame) s

/-- FRAME_SILENCE_TIMEOUT (R153, R155). -/
def execFrameSilenceTimeout (line : Line) (s : State) : Host.Outcome State Fault Refusal :=
  whenPowered (fun t => if t.driving line then t else t.endFrame line) s

/-- FRAME_CHECK_ERROR (R154, R155). -/
def execFrameCheckError (line : Line) (s : State) : Host.Outcome State Fault Refusal :=
  whenPowered (fun t => if t.driving line then t else t.checkError line) s

/-- OVERLAPPING_REQUEST (R155, R157): an address character to the UB4; without a request in hand it starts a frame
(log 31). -/
def execOverlappingRequest (s : State) : Host.Outcome State Fault Refusal :=
  whenPowered (fun t =>
    if t.ude then t
    else if t.uport.inHand.isSome then t.countOverlap
    else t.withUport { t.uport with assembling := true }) s

/-- FRAME_ENDED_BY_ADDRESS_CHARACTER (R153, R155). -/
def execFrameEndedByAddressCharacter (line : Line) (address : Byte) (s : State) : Host.Outcome State Fault Refusal :=
  whenPowered (fun t => if t.driving line then t else (t.endFrame line).addressCharacter line address) s

/-- PAYLOAD_LENGTH_OVER_MAXIMUM (R153, R155). -/
def execPayloadLengthOverMaximum (line : Line) (s : State) : Host.Outcome State Fault Refusal :=
  whenPowered (fun t => if t.driving line then t else t.endFrame line) s

end Sys2Proof.Machine
end

