-- ==== Sys2Proof/Machine/MeterCmds.lean ====
section
/-! DEFINITION. The commands of the meter channels and the volume engine: edges, window closes, samples and the temperature timers. -/

namespace Sys2Proof.Machine

/-- METER_A_EDGE (R48, R53, R54). -/
def execMeterAEdge (k : Fin 4) (s : State) : Host.Outcome State Fault Refusal :=
  whenPowered (fun t => t.aEdge k) s

/-- METER_B_EDGE (R48). -/
def execMeterBEdge (k : Fin 4) (s : State) : Host.Outcome State Fault Refusal :=
  whenPowered (fun t => t.setMeter k (t.meter k).bEdge) s

/-- METER_FALLING_EDGE (R47): the pin is seen low. -/
def execMeterFallingEdge (k : Fin 4) (c : Channel) (s : State) : Host.Outcome State Fault Refusal :=
  whenPowered (fun t =>
    match c with
    | .a => t.setMeter k { t.meter k with seenA := false }
    | .b => t.setMeter k { t.meter k with seenB := false }) s

/-- GATE_WINDOW_CLOSE (R51). -/
def execGateWindowClose (k : Fin 4) (s : State) : Host.Outcome State Fault Refusal :=
  whenPowered (fun t => t.closeWindow k) s

/-- TEMP (R68, R69, R171). -/
def execTemp (address : Byte) (v : BitVec 16) (quality : Byte) (s : State) : Host.Outcome State Fault Refusal :=
  whenPowered (fun t => t.tempFrom address v quality) s

/-- STALENESS_EXPIRY (R70): acts while the staleness timer runs. -/
def execStalenessExpiry (k : Fin 4) (s : State) : Host.Outcome State Fault Refusal :=
  whenPowered (fun t =>
    if (t.vol k).staleTimer.isSome then t.goStale k else t) s

/-- LOST_TIMER_EXPIRY (R71): acts while the lost timer runs. -/
def execLostTimerExpiry (k : Fin 4) (s : State) : Host.Outcome State Fault Refusal :=
  whenPowered (fun t =>
    if (t.vol k).lostTimer.isSome then
      (t.setVol k { t.vol k with lostTimer := none }).armFault .tempLost k
    else t) s

end Sys2Proof.Machine
end

