-- ==== Sys2Proof/Machine/ResetCmds.lean ====
section
/-! DEFINITION. The commands of the supplies, the bay reset and the scrub. -/

namespace Sys2Proof.Machine

/-- RESET (R158, R186): answered first; the reset follows the reply. -/
def execResetRequest (tag : Byte) (payload : List Byte) (s : State) : Host.Outcome State Fault Refusal :=
  whenPowered (fun t => t.request 0x17 tag (payload.length == 0) fun u => (u.withUport { u.uport with resetAsked := true }, taken)) s

/-- SCRUB_VISIT (R189). -/
def execScrubVisit (finding : Finding) (s : State) : Host.Outcome State Fault Refusal :=
  whenPowered (fun t => (t.readWord false finding).scrubNext) s

/-- BAY_RESET (R186): from BRST at a new assertion, or once a RESET is due. -/
def execBayReset (source : ResetSource) (s : State) : Host.Outcome State Fault Refusal :=
  whenPowered (fun t =>
    match source with
    | .pin => if t.pins.brst then t else (t.withPins { t.pins with brst := true }).bayReset
    | .request => if t.uport.resetDue then t.bayReset else t) s

/-- BRST_RELEASE (R186). -/
def execBrstRelease (s : State) : Host.Outcome State Fault Refusal :=
  whenPowered (fun t => t.withPins { t.pins with brst := false }) s

/-- POWER_ON (R190, R191). -/
def execPowerOn (pins : PinLevels) (kept : Bool) (findings : List Finding) (s : State) : Host.Outcome State Fault Refusal :=
  .next (s.startUp pins kept findings)

/-- POWER_FAIL (R77). -/
def execPowerFail (s : State) : Host.Outcome State Fault Refusal :=
  whenPowered State.powerLost s

end Sys2Proof.Machine
end

