-- ==== Sys2Proof/Machine/SafetyCmds.lean ====
section
/-! DEFINITION. The commands of the safety monitor: fault requests, the safety inputs, debounce and the deadman. -/

namespace Sys2Proof.Machine

/-- CLEAR_FAULT (R43). -/
def execClearFault (tag : Byte) (payload : List Byte) (s : State) : Host.Outcome State Fault Refusal :=
  whenPowered (fun t => t.request 0x05 tag (payload.length == 1) fun u => u.clearRequest payload) s

/-- FAULT_DRILL (R44). -/
def execFaultDrill (tag : Byte) (payload : List Byte) (s : State) : Host.Outcome State Fault Refusal :=
  whenPowered (fun t => t.request 0x06 tag (payload.length == 2) fun u => u.drillRequest payload) s

/-- PERMISSIVE_FALL (R28, R31): a low level; a fall where the accepted level is PERMITTED. -/
def execPermissiveFall (i : Permissive) (s : State) : Host.Outcome State Fault Refusal :=
  whenPowered (fun t =>
    let x := t.input i.input
    let t1 := t.setInput i.input { x with pin := false }
    if x.level then (t1.acceptFall i.input).suspendFlowing (permissiveCause i) else t1) s

/-- ESTOP_FALL (R28, R32). -/
def execEstopFall (s : State) : Host.Outcome State Fault Refusal :=
  whenPowered (fun t =>
    let x := t.input .estop
    let t1 := t.setInput .estop { x with pin := false }
    if x.level then (t1.acceptFall .estop).estopEffect else t1) s

/-- DEADMAN_RELEASE (R28). -/
def execDeadmanRelease (s : State) : Host.Outcome State Fault Refusal :=
  whenPowered (fun t =>
    (t.setInput .deadman { t.input .deadman with pin := false }).acceptFall .deadman) s

/-- DEBOUNCE_START (R29). -/
def execDebounceStart (i : SafetyInput) (s : State) : Host.Outcome State Fault Refusal :=
  whenPowered (fun t => t.seenHigh i) s

/-- DEBOUNCE_EXPIRY (R29): acts while the debounce timer runs. -/
def execDebounceExpiry (i : SafetyInput) (s : State) : Host.Outcome State Fault Refusal :=
  whenPowered (fun t =>
    if (t.input i).timer.isSome then t.debounced i else t) s

/-- DEADMAN_WARNING (R35): acts once in a run of the deadman timer. -/
def execDeadmanWarning (s : State) : Host.Outcome State Fault Refusal :=
  whenPowered (fun t =>
    let d := t.safety.deadman
    if d.timer.isSome && !d.warned then
      (t.setDeadman { d with warned := true, warn := true }).raise (.deadmanWarning 15)
    else t) s

/-- DEADMAN_EXPIRY (R36): acts while the deadman timer runs. -/
def execDeadmanExpiry (s : State) : Host.Outcome State Fault Refusal :=
  whenPowered (fun t =>
    if t.safety.deadman.timer.isSome then t.deadmanOut else t) s

end Sys2Proof.Machine
end

