-- ==== Sys2Proof/Machine/SessionCmds.lean ====
section
/-! DEFINITION. The commands of the session unit: server verdicts, session ends, cards, tags and their timers. -/

namespace Sys2Proof.Machine

/-- AUTHORISE (R15). -/
def execAuthorise (tag : Byte) (payload : List Byte) (s : State) : Host.Outcome State Fault Refusal :=
  whenPowered (fun t => t.request 0x01 tag (payload.length == 10) fun u => u.authorise (field payload 0 5) (BitVec.ofNat 16 (field payload 5 2)) (field payload 7 3)) s

/-- DENY (R15). -/
def execDeny (tag : Byte) (payload : List Byte) (s : State) : Host.Outcome State Fault Refusal :=
  whenPowered (fun t => t.request 0x02 tag (payload.length == 6) fun u => u.denyCard (field payload 0 5) (field payload 5 1)) s

/-- SESSION_END (R21). -/
def execSessionEnd (tag : Byte) (payload : List Byte) (s : State) : Host.Outcome State Fault Refusal :=
  whenPowered (fun t => t.request 0x03 tag (payload.length == 0) fun u => u.sessionEnd) s

/-- SESSION_ABORT (R23). -/
def execSessionAbort (tag : Byte) (payload : List Byte) (s : State) : Host.Outcome State Fault Refusal :=
  whenPowered (fun t => t.request 0x04 tag (payload.length == 0) fun u => u.sessionAbort) s

/-- CARD (R12, R171). -/
def execCard (address : Byte) (number : BitVec 40) (s : State) : Host.Outcome State Fault Refusal :=
  whenPowered (fun t => t.cardFrom address number) s

/-- TAG (R7, R8, R171). -/
def execTag (address : Byte) (number : BitVec 32) (s : State) : Host.Outcome State Fault Refusal :=
  whenPowered (fun t => t.tagFrom address number) s

/-- IDLE_TIMEOUT (R22): acts while the idle timer runs, as the orderly close of R21. -/
def execIdleTimeout (s : State) : Host.Outcome State Fault Refusal :=
  whenPowered (fun t =>
    if t.session.idleTimer.isSome && t.noneRunning then
      (t.withSession { t.session with idleTimer := none }).orderlyClose .idleTimeout
    else t) s

/-- AUTHORISATION_DEADLINE (R14): acts while a presentation is pending. -/
def execAuthorisationDeadline (s : State) : Host.Outcome State Fault Refusal :=
  whenPowered State.deadlinePassed s

end Sys2Proof.Machine
end

