-- ==== Sys2Proof/Machine/TableCmds.lean ====
section
/-! DEFINITION. The management commands: tables, read-out and the service flag. -/

namespace Sys2Proof.Machine

/-- TABLE_WRITE (R177). -/
def execTableWrite (tag : Byte) (payload : List Byte) (s : State) : Host.Outcome State Fault Refusal :=
  whenPowered (fun t => t.request 0x10 tag (tableWriteLength payload) fun u => u.tableWrite payload) s

/-- TABLE_READ (R179). -/
def execTableRead (tag : Byte) (payload : List Byte) (reads : List Finding) (s : State) : Host.Outcome State Fault Refusal :=
  whenPowered (fun t => t.request 0x11 tag (payload.length == 3) fun u => u.tableRead payload reads) s

/-- TABLE_CLEAR (R178). -/
def execTableClear (tag : Byte) (payload : List Byte) (s : State) : Host.Outcome State Fault Refusal :=
  whenPowered (fun t => t.request 0x12 tag (payload.length == 1) fun u => u.tableClear payload) s

/-- STATUS_READ (R181). -/
def execStatusRead (tag : Byte) (payload : List Byte) (s : State) : Host.Outcome State Fault Refusal :=
  whenPowered (fun t => t.request 0x13 tag (payload.length == 2) fun u => u.statusRead payload) s

/-- COUNTER_READ (R183). -/
def execCounterRead (tag : Byte) (payload : List Byte) (s : State) : Host.Outcome State Fault Refusal :=
  whenPowered (fun t => t.request 0x14 tag (payload.length == 2) fun u => u.counterRead payload) s

/-- BAY_COMMAND (R185). -/
def execBayCommand (tag : Byte) (payload : List Byte) (s : State) : Host.Outcome State Fault Refusal :=
  whenPowered (fun t => t.request 0x16 tag (payload.length == 1) fun u => u.bayCommand payload) s

end Sys2Proof.Machine
end

