-- ==== Sys2Proof/Machine/TurnCmds.lean ====
section
/-! DEFINITION. The commands of the D port: turns, their responses and their timeout. -/

namespace Sys2Proof.Machine

/-- POLL (R169): the next turn, when it is a poll. -/
def execPoll (s : State) : Host.Outcome State Fault Refusal :=
  whenPowered (fun t =>
    let u := t.settleCursor
    match u.turnChoice with
    | .poll i => u.beginTurn .poll (u.device i).address []
    | _ => t) s

/-- VERDICT_FRAME (R169, R170): the next turn, when it is a verdict frame. -/
def execVerdictFrame (s : State) : Host.Outcome State Fault Refusal :=
  whenPowered (fun t =>
    let u := t.settleCursor
    match u.turnChoice with
    | .verdict i => u.verdictTurn i
    | _ => t) s

/-- RELAY_TURN (R169, R173): the next turn, when it is a relay turn. -/
def execRelayTurn (s : State) : Host.Outcome State Fault Refusal :=
  whenPowered (fun t =>
    let u := t.settleCursor
    match u.turnChoice with
    | .relay => u.handleRelay
    | _ => t) s

/-- TURN_LAST_CHARACTER_SENT (R169): the wait for a response begins. -/
def execTurnLastCharacterSent (s : State) : Host.Outcome State Fault Refusal :=
  whenPowered (fun t =>
    match t.dport.turn with
    | some x =>
      if x.phase = TurnPhase.sending then
        t.withDport { t.dport with
          turn := some { x with phase := .waiting, timer := some (t.now + t.bay.dResponseMs) } }
      else t
    | none => t) s

/-- STATION_RESPONSE (R167, R169 to R171): the response of the station of the turn, or an unexpected frame. -/
def execStationResponse (source kind : Byte) (payload : List Byte) (s : State) : Host.Outcome State Fault Refusal :=
  whenPowered (fun t =>
    if t.dde then t else t.stationFrame source kind payload) s

/-- RELAY_RESPONSE (R169, R173). -/
def execRelayResponse (source : Byte) (payload : List Byte) (s : State) : Host.Outcome State Fault Refusal :=
  whenPowered (fun t =>
    if t.dde then t else t.relayAnswered source payload) s

/-- D_RESPONSE_TIMEOUT (R169): acts while a turn waits. A frame the port is assembling is being received, whatever the
command says (DESIGN CHOICE, log 62). -/
def execDResponseTimeout (receiving : Bool) (s : State) : Host.Outcome State Fault Refusal :=
  whenPowered (fun t =>
    match t.dport.turn with
    | some x =>
      if x.phase = TurnPhase.waiting then
        if receiving || t.dport.assembling then t.withDport { t.dport with turn := some { x with phase := .overdue, timer := none } }
        else t.turnMissed x
      else t
    | none => t) s

/-- UNEXPECTED_FRAME (R169). -/
def execUnexpectedFrame (s : State) : Host.Outcome State Fault Refusal :=
  whenPowered State.unexpectedFrame s

end Sys2Proof.Machine
end

