-- ==== Sys2Proof/Machine/Dispatch.lean ====
section
/-! DEFINITION. The meaning of every command. -/

namespace Sys2Proof.Machine

def exec (i : Instr) (s : State) : Host.Outcome State Fault Refusal :=
  match i with
  | .authorise tag payload => Sys2Proof.Machine.execAuthorise tag payload s
  | .deny tag payload => Sys2Proof.Machine.execDeny tag payload s
  | .sessionEnd tag payload => Sys2Proof.Machine.execSessionEnd tag payload s
  | .sessionAbort tag payload => Sys2Proof.Machine.execSessionAbort tag payload s
  | .clearFault tag payload => Sys2Proof.Machine.execClearFault tag payload s
  | .faultDrill tag payload => Sys2Proof.Machine.execFaultDrill tag payload s
  | .batchSetup tag payload => Sys2Proof.Machine.execBatchSetup tag payload s
  | .batchStart tag payload => Sys2Proof.Machine.execBatchStart tag payload s
  | .batchStop tag payload => Sys2Proof.Machine.execBatchStop tag payload s
  | .batchSuspend tag payload => Sys2Proof.Machine.execBatchSuspend tag payload s
  | .batchResume tag payload => Sys2Proof.Machine.execBatchResume tag payload s
  | .noteList tag payload reads => Sys2Proof.Machine.execNoteList tag payload reads s
  | .noteRead tag payload reads => Sys2Proof.Machine.execNoteRead tag payload reads s
  | .noteRelease tag payload reads => Sys2Proof.Machine.execNoteRelease tag payload reads s
  | .relay tag payload => Sys2Proof.Machine.execRelay tag payload s
  | .tableWrite tag payload => Sys2Proof.Machine.execTableWrite tag payload s
  | .tableRead tag payload reads => Sys2Proof.Machine.execTableRead tag payload reads s
  | .tableClear tag payload => Sys2Proof.Machine.execTableClear tag payload s
  | .statusRead tag payload => Sys2Proof.Machine.execStatusRead tag payload s
  | .counterRead tag payload => Sys2Proof.Machine.execCounterRead tag payload s
  | .clockSet tag payload => Sys2Proof.Machine.execClockSet tag payload s
  | .bayCommand tag payload => Sys2Proof.Machine.execBayCommand tag payload s
  | .resetRequest tag payload => Sys2Proof.Machine.execResetRequest tag payload s
  | .unknownRequest kind tag payload => Sys2Proof.Machine.execUnknownRequest kind tag payload s
  | .broadcastRequest kind payload => Sys2Proof.Machine.execBroadcastRequest kind payload s
  | .replyComplete => Sys2Proof.Machine.execReplyComplete s
  | .linkSilenceExpiry => Sys2Proof.Machine.execLinkSilenceExpiry s
  | .framingError line inFrame => Sys2Proof.Machine.execFramingError line inFrame s
  | .frameSilenceTimeout line => Sys2Proof.Machine.execFrameSilenceTimeout line s
  | .frameCheckError line => Sys2Proof.Machine.execFrameCheckError line s
  | .overlappingRequest => Sys2Proof.Machine.execOverlappingRequest s
  | .poll => Sys2Proof.Machine.execPoll s
  | .verdictFrame => Sys2Proof.Machine.execVerdictFrame s
  | .relayTurn => Sys2Proof.Machine.execRelayTurn s
  | .stationResponse source kind payload => Sys2Proof.Machine.execStationResponse source kind payload s
  | .relayResponse source payload => Sys2Proof.Machine.execRelayResponse source payload s
  | .dResponseTimeout receiving => Sys2Proof.Machine.execDResponseTimeout receiving s
  | .unexpectedFrame => Sys2Proof.Machine.execUnexpectedFrame s
  | .card address number => Sys2Proof.Machine.execCard address number s
  | .tag address number => Sys2Proof.Machine.execTag address number s
  | .temp address t quality => Sys2Proof.Machine.execTemp address t quality s
  | .keySetup address arm compartment product preset recipe => Sys2Proof.Machine.execKeySetup address arm compartment product preset recipe s
  | .keyStart address arm => Sys2Proof.Machine.execKeyStart address arm s
  | .keyStop address arm => Sys2Proof.Machine.execKeyStop address arm s
  | .keySuspend address arm => Sys2Proof.Machine.execKeySuspend address arm s
  | .keyResume address arm => Sys2Proof.Machine.execKeyResume address arm s
  | .permissiveFall k => Sys2Proof.Machine.execPermissiveFall k s
  | .estopFall => Sys2Proof.Machine.execEstopFall s
  | .deadmanRelease => Sys2Proof.Machine.execDeadmanRelease s
  | .debounceStart k => Sys2Proof.Machine.execDebounceStart k s
  | .debounceExpiry k => Sys2Proof.Machine.execDebounceExpiry k s
  | .deadmanWarning => Sys2Proof.Machine.execDeadmanWarning s
  | .deadmanExpiry => Sys2Proof.Machine.execDeadmanExpiry s
  | .meterAEdge k => Sys2Proof.Machine.execMeterAEdge k s
  | .meterBEdge k => Sys2Proof.Machine.execMeterBEdge k s
  | .gateWindowClose k => Sys2Proof.Machine.execGateWindowClose k s
  | .suspendStopTimeout k => Sys2Proof.Machine.execSuspendStopTimeout k s
  | .stoppingTimeout k => Sys2Proof.Machine.execStoppingTimeout k s
  | .stalenessExpiry k => Sys2Proof.Machine.execStalenessExpiry k s
  | .lostTimerExpiry k => Sys2Proof.Machine.execLostTimerExpiry k s
  | .idleTimeout => Sys2Proof.Machine.execIdleTimeout s
  | .authorisationDeadline => Sys2Proof.Machine.execAuthorisationDeadline s
  | .feedbackPulse j => Sys2Proof.Machine.execFeedbackPulse j s
  | .injectionTimeout j => Sys2Proof.Machine.execInjectionTimeout j s
  | .feedbackWindowClose j => Sys2Proof.Machine.execFeedbackWindowClose j s
  | .dayRollover => Sys2Proof.Machine.execDayRollover s
  | .scrubVisit finding => Sys2Proof.Machine.execScrubVisit finding s
  | .bayReset source => Sys2Proof.Machine.execBayReset source s
  | .powerOn pins kept findings => Sys2Proof.Machine.execPowerOn pins kept findings s
  | .powerFail => Sys2Proof.Machine.execPowerFail s
  | .meterFallingEdge k c => Sys2Proof.Machine.execMeterFallingEdge k c s
  | .frameEndedByAddressCharacter line address => Sys2Proof.Machine.execFrameEndedByAddressCharacter line address s
  | .payloadLengthOverMaximum line => Sys2Proof.Machine.execPayloadLengthOverMaximum line s
  | .turnLastCharacterSent => Sys2Proof.Machine.execTurnLastCharacterSent s
  | .brstRelease => Sys2Proof.Machine.execBrstRelease s
  | .bayClockStop => Sys2Proof.Machine.execBayClockStop s

end Sys2Proof.Machine
end

