-- ==== Sys2Proof/Safety.lean ====
section
/-! DEFINITION. What a safe state is (the guard on the valves, the bounds of the queues, the form of the tables, the note
queue), and the words the statements are written in. -/

namespace Sys2Proof.Machine

/-! ### Invariants -/

/-- A batch that is set up, waits or flows: its arm may open its valve by a start, a grant or as it stands. -/
def openable : ArmState → Bool
  | .ready | .waitInjector | .lowStart | .full | .slowdown => true
  | .idle | .suspended | .stopping => false

/-- R84, for one arm, with what a start and a grant rely on (R90, R93): set up, waiting or flowing, the bay is in
SESSION; flowing, the three inputs stand PERMITTED too. -/
def State.armGuarded (s : State) (k : Fin 4) : Prop :=
  (openable (s.arm k).state = true → s.bayState = .session) ∧
    ((s.arm k).state.flowing = true → s.permitted = true)

/-- R84, for every arm. -/
def State.guarded (s : State) : Prop := ∀ k, s.armGuarded k

/-- The bounds of R117, R160, R161, R162, R170 and R172, and that of R115: no dose record of a batch on an arm has an
interval below 2,000 mL. -/
structure State.bounded (s : State) : Prop where
  events : s.uport.events.length ≤ 32
  lost : s.uport.lost ≤ 255
  relayUp : s.uport.relayUp.length ≤ 8
  relayDown : s.dport.relayDown.length ≤ 4
  verdicts : ∀ i, (s.station i).verdicts.length ≤ 4
  waiting : s.additive.waiting.length ≤ 3
  intervals : ∀ k b, (s.arm k).state ≠ .idle → (s.arm k).batch = some b → ∀ d ∈ b.doses, 2000 ≤ d.interval

/-- Every sparse table stands in its one canonical form. -/
def State.canonical (s : State) : Bool :=
  tabWf emptyPermit s.tables.permits && tabWf emptyVehicle s.tables.vehicles && tabWf emptyProduct s.tables.products
    && tabWf emptyRecipe s.tables.recipes && tabWf emptyInjector s.tables.injectors && tabWf emptyArm s.tables.arms
    && tabWf emptyDevice s.tables.devices

/-- R136, R137: at most 16 places, one of them RESERVED exactly while a session is open; a presentation waits only
while no session is open and a place is free; no open session stands marked closed. -/
structure State.notesSound (s : State) : Prop where
  inUse : s.custody.places.length ≤ 16
  reserved : s.placesIn .reserved = if s.session.record.isSome then 1 else 0
  presented : s.session.presentation.isSome = true → s.session.record = none ∧ s.custody.places.length < 16
  unclosed : ∀ r, s.session.record = some r → r.closed = false

/-! ### Requests and station records -/

/-- The UB4 has its supply, and no error waits in the retention words that its next command's blocks read (log 46). -/
def State.live (s : State) : Bool := s.powered && s.retention.reads.isEmpty

/-- The UB4 is live and has a station address, and no request is in hand. -/
def State.hearing (s : State) : Bool := s.live && s.uport.inHand.isNone && s.addressed

/-- The directory holds a station of a role at a D address. -/
def State.holds (s : State) (a : Byte) (i : Fin 12) (role : Role) : Prop :=
  s.findDevice a = some i ∧ (s.device i).role = some role

/-- What an accepted record leaves, `u` being what its block made of it: a forwarded copy too when the entry has the
forward flag (R171). -/
def State.copied (s u : State) (i : Fin 12) (a : Byte) (role : Role) (record : List Byte) : State :=
  if (s.device i).forward then u.forwardCopy a role record else u

/-- The kind, the tag and the length check of a request to the UB4's own address (R157, R193, Table 10-3). -/
def asRequest : Instr → Option (Byte × Byte × Bool)
  | .authorise t p => some (0x01, t, p.length == 10)
  | .deny t p => some (0x02, t, p.length == 6)
  | .sessionEnd t p => some (0x03, t, p.length == 0)
  | .sessionAbort t p => some (0x04, t, p.length == 0)
  | .clearFault t p => some (0x05, t, p.length == 1)
  | .faultDrill t p => some (0x06, t, p.length == 2)
  | .batchSetup t p => some (0x07, t, p.length == 7)
  | .batchStart t p => some (0x08, t, p.length == 1)
  | .batchStop t p => some (0x09, t, p.length == 1)
  | .batchSuspend t p => some (0x0A, t, p.length == 1)
  | .batchResume t p => some (0x0B, t, p.length == 1)
  | .noteList t p _ => some (0x0C, t, p.length == 0)
  | .noteRead t p _ => some (0x0D, t, p.length == 5)
  | .noteRelease t p _ => some (0x0E, t, p.length == 4)
  | .relay t p => some (0x0F, t, within 2 p.length 50)
  | .tableWrite t p => some (0x10, t, tableWriteLength p)
  | .tableRead t p _ => some (0x11, t, p.length == 3)
  | .tableClear t p => some (0x12, t, p.length == 1)
  | .statusRead t p => some (0x13, t, p.length == 2)
  | .counterRead t p => some (0x14, t, p.length == 2)
  | .clockSet t p => some (0x15, t, p.length == 5)
  | .bayCommand t p => some (0x16, t, p.length == 1)
  | .resetRequest t p => some (0x17, t, p.length == 0)
  | .unknownRequest k t p => some (k, t, p.length ≤ 240)
  | .broadcastRequest _ _ | .replyComplete | .linkSilenceExpiry | .framingError _ _ | .frameSilenceTimeout _
  | .frameCheckError _ | .overlappingRequest | .poll | .verdictFrame | .relayTurn | .stationResponse _ _ _
  | .relayResponse _ _ | .dResponseTimeout _ | .unexpectedFrame | .card _ _ | .tag _ _ | .temp _ _ _
  | .keySetup _ _ _ _ _ _ | .keyStart _ _ | .keyStop _ _ | .keySuspend _ _ | .keyResume _ _ | .permissiveFall _
  | .estopFall | .deadmanRelease | .debounceStart _ | .debounceExpiry _ | .deadmanWarning | .deadmanExpiry
  | .meterAEdge _ | .meterBEdge _ | .gateWindowClose _ | .suspendStopTimeout _ | .stoppingTimeout _
  | .stalenessExpiry _ | .lostTimerExpiry _ | .idleTimeout | .authorisationDeadline | .feedbackPulse _
  | .injectionTimeout _ | .feedbackWindowClose _ | .dayRollover | .scrubVisit _ | .bayReset _ | .powerOn _ _ _
  | .powerFail | .meterFallingEdge _ _ | .frameEndedByAddressCharacter _ _ | .payloadLengthOverMaximum _
  | .turnLastCharacterSent | .brstRelease | .bayClockStop => none

/-! ### Arms -/

/-- The arm after a suspension (R98, R99). -/
def State.suspended (s : State) (k : Fin 4) (c : SuspendCause) : Arm :=
  { s.arm k with
    state := .suspended, zeroCloses := 0, stopTimer := some (s.now + (s.armEntry k).stopTimeout * 1000)
    batch := (s.arm k).batch.map fun b => { b with cause := some c } }

/-- The arm after its entry to STOPPING (R103). -/
def State.stopped (s : State) (k : Fin 4) (r : EndReason) : Arm :=
  { s.arm k with
    state := .stopping, zeroCloses := 0, stopTimer := some (s.now + (s.armEntry k).stopTimeout * 1000)
    batch := (s.arm k).batch.map fun b => { b with endReason := some r, atStopping := some b.delivered } }

/-- The arm after a suspension of the flowing arms: another arm stands (R31, R36). -/
def State.armSuspended (s : State) (k : Fin 4) (c : SuspendCause) : Arm :=
  if (s.arm k).state.flowing then s.suspended k c else s.arm k

/-- An injector of a dose's additive, in service and plumbed to arm `k` (R115). -/
def State.serves (s : State) (k : Fin 4) (d : Dose) (j : Fin 6) : Bool :=
  (s.injEntry j).code == d.code && (s.injEntry j).inService && (s.injEntry j).plumbing.getLsbD k.val

/-- Such an injector with an interval of 2,000 mL or more for the dose (R115, R119). -/
def State.suits (s : State) (k : Fin 4) (d : Dose) (j : Fin 6) : Bool :=
  s.serves k d j && decide (2000 ≤ (s.injEntry j).stroke * 100000 / d.rate)

/-- The injector that a dose takes on arm `k`: the lowest-indexed of those that suit it and are FREE (R116). -/
def State.pick (s : State) (k : Fin 4) (d : Dose) : Option (Fin 6) :=
  injIxs.find? fun j => s.suits k d j && (s.inj j).state == .free

/-- The dose record of a grant (R116, R119, Table 6-4). -/
def State.doseGiven (s : State) (r : RecipeEntry) (d : Dose) (j : Fin 6) : DoseRec :=
  ⟨d.code, d.rate, j, (s.injEntry j).stroke, (s.injEntry j).ppl, (s.injEntry j).timeoutMs, r.tolerance, r.action,
    (s.injEntry j).stroke * 100000 / d.rate, (s.injEntry j).stroke * 100000 / d.rate / 2, 0, 0, 0, 0, 0, false, false,
    none⟩

/-- The grant of a recipe to arm `k`, whose doses name different additives (R116), from state `s` to state `u`. -/
def State.grants (s u : State) (k : Fin 4) (b : Batch) (r : RecipeEntry) : Prop :=
  ∃ js : List (Fin 6), r.doses.map (s.pick k) = js.map some ∧
    (u.arm k).batch.map Batch.doses = some (b.doses ++ List.zipWith (s.doseGiven r) r.doses js) ∧
    ∀ j, u.inj j = if j ∈ js then { s.inj j with state := .claimedIdle, claimant := some k } else s.inj j

/-- A batch starts to flow on arm `k` (R19, R91, R92), its start adding `more` litres to the reserved volume, from state
`s` to state `u`. -/
structure State.flows (s u : State) (k : Fin 4) (b : Batch) (src : StartSource) (more : Nat) : Prop where
  state : (u.arm k).state = .lowStart
  valve : u.valve k = .low
  noFlow : (u.arm k).noFlow = 0
  batch : ∃ x, (u.arm k).batch = some x ∧ x.phase = .started ∧ x.rg = 0 ∧ x.rs = 0 ∧
    x.totalStart = (Vec.get s.custody.gross k).value ∧ x.preset = b.preset ∧ x.source = src ∧ x.gross = b.gross
  others : ∀ j, j ≠ k → u.arm j = s.arm j
  session : u.session = { s.session with
    record := s.session.record.map fun r => { r with reserved := r.reserved + more }, idleTimer := none }
  event : u.uport = (s.raise (.batchStarted k b.compartment b.code b.recipe b.preset
    (Vec.get s.custody.gross k).value)).uport
  deadman : s.anyFlowing = false → u.safety.deadman.timer = s.deadmanRestart
  unclaimed : b.recipe = none → u.additive = s.additive
  granted : ∀ q, b.recipe = some q → ((s.recipe q).doses.map Dose.code).Nodup → s.grants u k b (s.recipe q)
  stands : u.tables = s.tables ∧ u.custody = s.custody ∧ u.meters = s.meters ∧ u.volumes = s.volumes ∧
    u.safety.faults = s.safety.faults ∧ u.safety.inputs = s.safety.inputs ∧ u.additive.waiting = s.additive.waiting

/-- A batch that must wait for its injectors (R19, R91, R117), from state `s` to state `u`. -/
structure State.waits (s u : State) (k : Fin 4) (b : Batch) (src : StartSource) : Prop where
  arm : u.arm k = { s.arm k with state := .waitInjector, batch := some { b with source := src } }
  others : ∀ j, j ≠ k → u.arm j = s.arm j
  waiting : u.additive = { s.additive with waiting := s.additive.waiting ++ [k] }
  session : u.session = { s.session with
    record := s.session.record.map fun r => { r with reserved := r.reserved + b.preset }, idleTimer := none }
  event : u.uport = (s.raise (.injectorWait k (s.additive.waiting.length + 1) (s.blockers k b.recipe))).uport
  stands : u.tables = s.tables ∧ u.custody = s.custody ∧ u.meters = s.meters ∧ u.volumes = s.volumes ∧
    u.safety.faults = s.safety.faults ∧ u.safety.inputs = s.safety.inputs

/-- A waiting arm goes back to READY, its start refused with `r` (R93, R118), from state `s` to state `u`. Of a reserved
volume below the preset, which only a record rewritten as read can hold, 0 is left (the model's choice, log 63). -/
structure State.sentBack (s u : State) (k : Fin 4) (b : Batch) (r : BatchReason) : Prop where
  arm : u.arm k = { s.arm k with state := .ready }
  others : ∀ j, j ≠ k → u.arm j = s.arm j
  waiting : u.additive.waiting = s.additive.waiting.filter (· != k)
  injectors : ∀ j, { u.inj j with claimant := none } = { s.inj j with claimant := none }
  session : u.session = { s.session with
    record := s.session.record.map fun x => { x with reserved := x.reserved - b.preset }, idleTimer := none }
  event : u.uport = (s.raise (.batchRefused k.val .start b.source r)).uport
  verdict : u.dport = match b.source with
    | .keypad a => (s.tellKeypad a (.refused (BitVec.ofNat 8 k.val) r)).dport
    | .server => s.dport
  stands : u.tables = s.tables ∧ u.custody = s.custody ∧ u.meters = s.meters ∧ u.volumes = s.volumes ∧
    u.safety = s.safety

/-- A batch set up on arm `k` (R17, R64, R75, R89), from state `s` to state `u`. -/
structure State.setsUp (s u : State) (k : Fin 4) (f : SetupFields) (src : StartSource) (p : SetupPlan) : Prop where
  state : (u.arm k).state = .ready
  batch : ∃ x, (u.arm k).batch = some x ∧ x.compartment = f.compartment ∧ x.product = p.product ∧
    x.preset = p.preset ∧ x.phase = .setUp ∧ x.source = src ∧ x.gross = 0 ∧ x.standard = 0 ∧ x.weight = 0 ∧
    x.doses = [] ∧ x.flags = { noFlags with presetClamped := p.preset < f.preset } ∧
    x.code = (s.product p.product).code ∧ x.alpha = (s.product p.product).alpha ∧ x.tRef = s.bay.tRef ∧
    x.basis = s.bay.basis ∧ x.recipe = f.recipe.orElse (fun _ => (s.product p.product).recipe) ∧
    x.k5 = (if (s.vol k).temp.state = .absent then none
      else some (correction (s.vol k).temp.t s.bay.tRef (s.product p.product).alpha))
  others : ∀ j, j ≠ k → u.arm j = s.arm j
  session : u.session = { s.session with
    record := s.session.record.map fun r => { r with claims := Vec.set r.claims f.compartment (some k) }
    idleTimer := none }
  stands : u.tables = s.tables ∧ u.custody = s.custody ∧ u.meters = s.meters ∧ u.volumes = s.volumes ∧
    u.additive = s.additive ∧ u.safety = s.safety ∧ u.uport = s.uport ∧ u.dport = s.dport

/-- A resume taken on arm `k` (R101), from state `s` to state `u`. -/
structure State.resumes (s u : State) (k : Fin 4) : Prop where
  arm : u.arm k = { s.arm k with
    state := .lowStart, noFlow := 0, stopTimer := none, zeroCloses := 0
    batch := (s.arm k).batch.map fun b => { b with cause := none } }
  valve : u.valve k = .low
  others : ∀ j, j ≠ k → u.arm j = s.arm j
  event : u.uport = (s.raise (.armResumed k ((s.arm k).batch.bind Batch.cause))).uport
  deadman : s.anyFlowing = false → u.safety.deadman.timer = s.deadmanRestart
  stands : u.tables = s.tables ∧ u.custody = s.custody ∧ u.session.record = s.session.record ∧
    u.meters = s.meters ∧ u.volumes = s.volumes ∧ u.additive = s.additive ∧
    u.safety.faults = s.safety.faults ∧ u.safety.inputs = s.safety.inputs

/-- A suspension of the flowing arm `k` (R34, R84, R98), from state `s` to state `u`. -/
structure State.suspends (s u : State) (k : Fin 4) (c : SuspendCause) : Prop where
  stands : u = { s with
    arms := u.arms, session := { s.session with idleTimer := none }
    safety := { s.safety with deadman := u.safety.deadman }, uport := u.uport }
  arm : u.arm k = s.suspended k c
  valve : u.valve k = .closed
  others : ∀ j, j ≠ k → u.arm j = s.arm j
  deadman : u.safety.deadman =
    if s.safety.deadman.timer = none ∨ ∃ j, j ≠ k ∧ (s.arm j).state.flowing = true then s.safety.deadman
    else { s.safety.deadman with timer := none, warned := false, warn := false }
  event : ∀ x, (s.arm k).batch = some x →
    u.uport = (s.raise (.armSuspended k c (x.delivered / 1000) (x.remaining / 1000))).uport

/-- A stop taken on arm `k` (R102), from state `s` to state `u`, by the arm's state. Of a reserved volume below the preset 0
is left (the model's choice, log 63). -/
def State.stopsBatch (s u : State) (k : Fin 4) : Prop :=
  (∀ j, j ≠ k → u.arm j = s.arm j) ∧ u.tables = s.tables ∧ u.custody = s.custody ∧
    match (s.arm k).state with
    | .lowStart | .full | .slowdown | .suspended => u.arm k = s.stopped k .stopped ∧ u.session.record = s.session.record
    | .waitInjector => u.arm k = { s.arm k with state := .ready } ∧ k ∉ u.additive.waiting ∧
        ∀ b, (s.arm k).batch = some b → u.session.record = s.session.record.map fun r =>
          { r with reserved := r.reserved - b.preset }
    | .ready => (u.arm k).state = .idle ∧ (u.arm k).batch = none ∧
        ∀ b, (s.arm k).batch = some b → u.session.record = s.session.record.map fun r =>
          { r with claims := Vec.set r.claims b.compartment none }
    | .stopping | .idle => u = s

/-- An abort acts on an arm by its state (R23), from state `s` to state `u`. -/
def State.abortsArm (s u : State) (r : EndReason) (k : Fin 4) : Prop :=
  match (s.arm k).state with
  | .lowStart | .full | .slowdown | .suspended => u.arm k = s.stopped k r
  | .ready | .waitInjector => (u.arm k).state = .idle ∧ (u.arm k).batch = none
  | .idle | .stopping => u.arm k = s.arm k

/-- An ESTOP fall acts on an arm in an open session by its state (R32, R41), from state `s` to state `u`. -/
def State.estopsArm (s u : State) (k : Fin 4) : Prop :=
  match (s.arm k).state with
  | .lowStart | .full | .slowdown | .suspended => u.arm k = s.stopped k .estop
  | .stopping => u.arm k = { s.arm k with
      batch := (s.arm k).batch.map fun b =>
        if b.endReason = some .complete then b else { b with endReason := some .estop } }
  | .ready | .waitInjector => (u.arm k).state = .idle ∧ (u.arm k).batch = none
  | .idle => u.arm k = s.arm k

/-- Every entry of one table at its cleared value (R178). -/
def emptied (t : Tables) (id : TableId) : Tables :=
  match id with
  | .permit => { t with permits := [] }
  | .vehicle => { t with vehicles := [] }
  | .compat => { t with compat := ⟨clearedCompat, false⟩ }
  | .product => { t with products := [] }
  | .recipe => { t with recipes := [] }
  | .injector => { t with injectors := [] }
  | .arm => { t with arms := [] }
  | .device => { t with devices := [] }
  | .faultPolicy => { t with policies := clearedPolicies }
  | .bay => { t with bay := ⟨defaultBay, false⟩ }

/-- The lengths of the status groups (Table 10-12). -/
def statusLength : Nat → Nat
  | 0 => 12 | 1 => 76 | 2 => 36 | 3 => 70 | 4 => 107 | 5 => 24 | 6 => 50 | _ => 26

/-- The lengths of the counter groups (Table 10-13). -/
def counterLength : Nat → Nat
  | 0 => 186 | 1 => 18 | 2 => 24 | 3 => 12 | 4 => 131 | 5 => 20 | _ => 4

/-- An orderly close (R21, R24, R107, R134, R139) of the session `r`, from state `s` to state `u`. -/
structure State.closes (s u : State) (r : Session) (reason : CloseReason) : Prop where
  stands : u = { s with
    session := { s.session with record := none, idleTimer := none }, arms := u.arms
    additive := { s.additive with
      waiting := s.additive.waiting.filter fun k => (s.arm k).state != .waitInjector }
    custody := u.custody, uport := u.uport }
  arms : ∀ k, u.arm k =
    if (s.arm k).state = .idle then s.arm k else { s.arm k with state := .idle, batch := none }
  noLine : r.lines = [] → u.custody = { s.custody with
    places := s.custody.places.filter fun p => p.state != .reserved }
  lines : r.lines ≠ [] → u.custody = { s.custody with
    counter := s.custody.counter.pass r.number
    places := fillReserved ⟨r.number, if r.damaged then .damaged else .ready, some (s.noteOf r reason),
      noteForm (s.noteOf r reason), false, false⟩ s.custody.places }
  event : u.uport = (((if r.lines = [] then s else s.raise (.noteReady r.number reason r.lines.length
    (r.lines.filter fun l => anyFlag l.flags).length s.custody.places.length)).raise
    (.sessionClosed r.number reason r.lines.length))).uport

/-! ### Faults -/

/-- The record of a class after one raise that names `k`, under the response `m` (R38 to R41). -/
def State.struck (s : State) (c : FaultClass) (k : Option (Fin 4)) (m : ResponseMode) (drill : Bool) : FaultRec where
  latch := match m with
    | .report | .recipe => (s.fault c).latch
    | .stopArm => if (s.fault c).latch = some .stopBay then some .stopBay else some .stopArm
    | .stopBay => some .stopBay
  count := min 255 ((s.fault c).count + 1)
  firstArm := if (s.fault c).count = 0 then k else (s.fault c).firstArm
  firstTime := if (s.fault c).count = 0 then some s.custody.clock else (s.fault c).firstTime
  lastTime := some s.custody.clock
  armsNamed := joinOpt (s.fault c).armsNamed k
  armsLatched := if m = .stopArm then joinOpt (s.fault c).armsLatched k else (s.fault c).armsLatched
  drill := drill

/-- FAULT_RAISED of that raise, unless the class's mask is set (R39). -/
def State.announced (s : State) (c : FaultClass) (k : Option (Fin 4)) (x : Subject) (m : ResponseMode)
    (drill : Bool) : State :=
  if (s.policy c).mask then s else s.raise (.faultRaised c k x (min 255 ((s.fault c).count + 1)) m drill)

/-- A pending presentation refused with BAY_NOT_READY, as when the bay leaves IDLE (R9, R10); a state with none pending
stands. The tag reported is the tag record's as it stands (log 34). -/
def State.unseated (s : State) : State :=
  match s.session.presentation with
  | none => s
  | some p => { s with
      session := { s.session with presentation := none }, dport := (s.tellReader (.refuse .bayNotReady)).dport
      uport := (s.raise (.sessionRefused p.card ((s.session.tagRecord.map TagRec.tag).getD 0) .bayNotReady 0)).uport }

/-! ### Windows -/

/-- The discrepancies of the last eight windows, the closing one's among them, sum above the limit: the close raises
METER_PULSE (R55). -/
def State.pulses (s : State) (k : Fin 4) : Bool :=
  decide (s.bay.discrepancyLimit <
    (keepLast 8 ((s.meter k).history ++ [absDiff (s.meter k).aCount (s.meter k).bCount])).sum)

/-- The batch with the increment of the window that closes (R66, R67, R70, R73, R76, R77, R108). -/
def State.windowed (s : State) (k : Fin 4) (b : Batch) : Batch :=
  let m := s.meter k
  let x := m.n * (meterFactor (s.vol k).curve (m.n * 240000 / m.ppl)).getD 0 * 10 + b.rg
  let y := x / m.ppl * b.k5.getD 0 + b.rs
  { b with
    gross := b.gross + x / m.ppl, rg := x % m.ppl, standard := b.standard + y / 100000, rs := y % 100000
    weight := b.weight + (s.vol k).temp.t * (x / m.ppl : Nat)
    flags := { b.flags with
      tempHeld := b.flags.tempHeld || (s.vol k).temp.state == .stale
      tempClamped := b.flags.tempClamped || (s.vol k).temp.clamped
      meterFault := b.flags.meterFault || s.pulses k } }

/-- The unauthorised-flow accumulator stands above its limit, its flag clear: the close raises UNAUTH_FLOW (R58). -/
def State.leaks (s : State) (k : Fin 4) (unauth : Nat) : Bool :=
  !(s.meter k).unauthFlag && decide (s.bay.unauthLimit * 1000 < unauth)

/-- The gross increment of a window that closes on the unauthorised path (R57, R66, R67), and its remainder. -/
def State.leaked (s : State) (k : Fin 4) : Nat × Nat :=
  let m := s.meter k
  let x := m.n * (meterFactor (s.vol k).curve (m.n * 240000 / m.ppl)).getD 0 * 10 + (s.vol k).unauthRem
  (x / m.ppl, x % m.ppl)

/-- The accumulator after that window (R58). -/
def State.leakedSum (s : State) (k : Fin 4) : Nat := min 999999999 ((s.meter k).unauth + (s.leaked k).1)

/-- The window that closes with its accumulator at `unauth` raises METER_PULSE or UNAUTH_FLOW under REPORT alone. -/
def State.reported (s : State) (k : Fin 4) (unauth : Nat) : Prop :=
  (s.pulses k = true → (s.policy .meterPulse).mode = .report) ∧
    (s.leaks k unauth = true → (s.policy .unauthFlow).mode = .report)

/-- The records of METER_PULSE and UNAUTH_FLOW after such a window (R39), every other class's standing. -/
def State.windowFault (s : State) (k : Fin 4) (unauth : Nat) (c : FaultClass) : FaultRec :=
  if c = .meterPulse ∧ s.pulses k = true ∨ c = .unauthFlow ∧ s.leaks k unauth = true
  then s.struck c (some k) .report false else s.fault c

/-- What such a window reports, METER_PULSE before UNAUTH_FLOW (R51). -/
def State.windowReport (s : State) (k : Fin 4) (unauth : Nat) : State :=
  let t := if s.pulses k then s.announced .meterPulse (some k) .none .report false else s
  if s.leaks k unauth then t.announced .unauthFlow (some k) .none .report false else t

/-- The note of the session `r` stands in its place (R134), from state `s` to state `u`. -/
def State.noted (s u : State) (r : Session) (reason : CloseReason) : Prop :=
  u.custody.counter = s.custody.counter.pass r.number ∧
    u.custody.places = fillReserved ⟨r.number, if r.damaged then .damaged else .ready, some (s.noteOf r reason),
      noteForm (s.noteOf r reason), false, false⟩ s.custody.places

/-- RETENTION recorded for an item and latched with STOP_BAY (R39, R188, R190), from state `s` to state `u`. -/
def State.recordsRetention (s u : State) (item : RetItem) : Prop :=
  u = { s with safety := { s.safety with faults := u.safety.faults }, uport := u.uport } ∧
    (∀ c, c ≠ .retention → u.fault c = s.fault c) ∧ u.fault .retention = s.struck .retention none .stopBay false ∧
    u.uport = (s.announced .retention none (.retention (itemCode item)) .stopBay false).uport

/-- RETENTION raised for an item under its response STOP_BAY with no session open (R39, R41, R188): a presentation
pending is refused. From state `s` to state `u`. -/
def State.raisesRetention (s u : State) (item : RetItem) : Prop :=
  ∃ v : State, s.recordsRetention v item ∧ u = v.unseated

/-- An uncorrectable error in the item raises RETENTION (R188, Table 9-7): the BAY entry not yet damaged, and every item
but the other table entries and the note words; the session record's words where none stands among them (log 70,
DEDUCED). -/
def State.strikes (s : State) : RetItem → Bool
  | .tableEntry id i => id == .bay && i == 0 && !s.tables.bay.damaged
  | .noteWord _ _ _ => false
  | .sessionRecord _ | .quotaDay | .placeList _ | .noteCounter _ | .totalizer _ _ | .faultRecord _ | .serviceFlag
  | .bayClock _ | .validityMarker => true

/-- What Table 9-7 makes of an item that raises RETENTION, before it is raised, from state `s` to state `v`. -/
def State.rewords (s v : State) : RetItem → Prop
  | .tableEntry _ _ =>
    v = { s with tables := { s.tables with bay := ⟨s.tables.bay.entry, true⟩ }, arms := v.arms } ∧ v.bay = defaultBay ∧
      ∀ k, v.arm k = if s.bay.basis = .gross then s.arm k else { s.arm k with history := [] }
  | .sessionRecord img => v = s.rewriteSession img
  | .quotaDay => v = { s with session := { s.session with quotaDay := s.custody.clock / 86400 } }
  | .noteWord _ _ _ => v = s
  | .placeList both => v = if both then s.rebuildPlaces else s
  | .noteCounter both => v = if both then { s with custody := { s.custody with counter := .usedUp } } else s
  | .totalizer (.gross k) x =>
    v = { s with custody := { s.custody with gross := Vec.set s.custody.gross k ⟨x, true⟩ } }
  | .totalizer (.standard k) x =>
    v = { s with custody := { s.custody with standard := Vec.set s.custody.standard k ⟨x, true⟩ } }
  | .totalizer (.additive j) x =>
    v = { s with custody := { s.custody with additive := Vec.set s.custody.additive j ⟨x, true⟩ } }
  | .faultRecord c =>
    v = { s with safety := { s.safety with faults := v.safety.faults } } ∧
      v.fault c = ⟨some .stopBay, 1, none, some s.custody.clock, some s.custody.clock, 0, 0, false⟩ ∧
      ∀ d, d ≠ c → v.fault d = s.fault d
  | .serviceFlag => v = { s with session := { s.session with inService := false } }
  | .bayClock x => v = { s with custody := { s.custody with clock := x } }
  | .validityMarker => v = { s with retention := { s.retention with marker := true } }

/-- Entry `i` of a sparse table carries the DAMAGED mark beside its words, every other entry as it was (R188). -/
def marked (empty : α) (t u : Tab α) (i : Nat) : Prop :=
  tabGet empty u i = ⟨(tabGet empty t i).entry, true⟩ ∧ ∀ j, j ≠ i → tabGet empty u j = tabGet empty t j

/-! ### The lines -/

/-- The line error counters of R156: those of the U port, then those of the D port. -/
def State.lineErrors (s : State) : List Nat :=
  [s.uport.framing, s.uport.check, s.uport.incomplete, s.uport.overlapping, s.dport.framing, s.dport.check,
    s.dport.incomplete, s.dport.unexpected, s.dport.verdictDrop, s.dport.relayDrop]

/-! ### The poll cursor (R168) -/

/-- The poll cursor, at entry `c` in the round of `s`, goes on to the next station of the round, and past the last one to
the first station of the next round, round 0 after round 7 (R168); the stations are those of `u`. Where the next round has
no station there is none at the cursor (the model's choice, log 44). -/
structure State.advances (s u : State) (c : Fin 12) : Prop where
  next : ∀ i, c < i → u.inRound s.dport.round i = true →
    (∀ j, c < j → j < i → u.inRound s.dport.round j = false) →
    u.dport.cursor = some i ∧ u.dport.round = s.dport.round
  past : (∀ i, c < i → u.inRound s.dport.round i = false) →
    u.dport.round = (if s.dport.round = 7 then 0 else s.dport.round + 1) ∧
    (∀ i, u.inRound u.dport.round i = true → (∀ j, j < i → u.inRound u.dport.round j = false) →
      u.dport.cursor = some i) ∧
    ((∀ i, u.inRound u.dport.round i = false) → u.dport.cursor = none)

/-- The cursor at the end of a turn (R168, R169): after a poll or a verdict frame it goes on, after a relay it stays. -/
structure State.passesOn (s u : State) (t : Turn) : Prop where
  station : t.kind ≠ .relay → ∀ c, s.dport.cursor = some c → s.advances u c
  relay : t.kind = .relay → u.dport.cursor = s.dport.cursor ∧ u.dport.round = s.dport.round

/-- The cursor when a turn is chosen, from state `s` to state `v` (R168): an entry at the cursor that is no station of the
round is skipped. While the round has no station the cursor and the round stay (the model's choice, log 44). -/
structure State.settles (s v : State) : Prop where
  stands : v = { s with dport := { s.dport with cursor := v.dport.cursor, round := v.dport.round } }
  empty : (∀ j, s.inRound s.dport.round j = false) → v = s
  here : ∀ c, s.dport.cursor = some c → s.inRound s.dport.round c = true → v = s
  skip : ∀ c j, s.dport.cursor = some c → s.inRound s.dport.round c = false → s.inRound s.dport.round j = true →
    s.advances v c
  first : ∀ j, s.dport.cursor = none → s.inRound s.dport.round j = true →
    (∀ m, m < j → s.inRound s.dport.round m = false) →
    v.dport.cursor = some j ∧ v.dport.round = s.dport.round

/-! ### Doses -/

/-- Dose `i` of arm `k` becomes `d`, every other dose and the rest of the batches standing. -/
def State.redosed (s u : State) (k : Fin 4) (i : Nat) (d : DoseRec) : Prop :=
  u.dose k i = some d ∧ (∀ m, m ≠ i → u.dose k m = s.dose k m) ∧ (∀ m, m ≠ k → u.arm m = s.arm m) ∧
    { u.arm k with batch := none } = { s.arm k with batch := none } ∧
    (u.arm k).batch.map (fun b => { b with doses := [] }) = (s.arm k).batch.map fun b => { b with doses := [] }

/-- The window that brings batch `b` to `gross` makes no demand (R120): its increment is 0, or no dose whose claim is not
lost has its due point reached. -/
def noneDue (b : Batch) (gross : Nat) : Prop :=
  gross = b.gross ∨ ∀ d ∈ b.doses, d.claimLost = true ∨ gross < d.nextDue

/-- A dose record without what a demand changes (R120): its next due point, its owed count, its overflow mark. -/
def DoseRec.undemanded (d : DoseRec) : DoseRec := { d with nextDue := 0, owed := 0, overflow := false }

/-- The verdict of a dose (R128). -/
def verdictOf (d : DoseRec) (expected : Nat) : DoseVerdict :=
  if d.claimLost ∧ d.action = .continueUntreated then .untreated
  else if expected = 0 then .treated
  else if (d.tolerance : Int) < (((d.measured : Int) - expected) * 100).tdiv expected then .over
  else if (((d.measured : Int) - expected) * 100).tdiv expected < -(d.tolerance : Int) then .under
  else .treated

/-- Dose `i` of arm `k` at the end of its batch (R127, R128): an injection cut off by the end counts as done. -/
def State.doseEnded (s : State) (k : Fin 4) (gross i : Nat) (d : DoseRec) : DoseRec :=
  let x := s.inj d.injector
  { d with
    done := if x.state = .injecting ∧ x.claimant = some k ∧ x.owner = some (k, i) then min 65535 (d.done + 1)
      else d.done
    expected := gross * d.rate / 100000, verdict := some (verdictOf d (gross * d.rate / 100000)) }

/-! ### A session that a reset or a loss of supply closes (R25, R26) -/

/-- The batches that a bay reset ends: those of the running arms, in arm order (R25). -/
def State.runningBatches (s : State) : List (Fin 4 × Batch) :=
  armIxs.filterMap fun k => if (s.arm k).state.running then (s.arm k).batch.map fun b => (k, b) else none

/-- The batches that end at power-on: those that had begun to flow, in arm order (R26, R107). -/
def State.startedBatches (s : State) : List (Fin 4 × Batch) :=
  armIxs.filterMap fun k => (s.arm k).batch.bind fun b => if b.phase = .started then some (k, b) else none

/-- The line of such a batch, its dose records finalised (R106, R127, R128, R135). -/
def State.lastLine (s : State) (e : EndReason) (x : Fin 4 × Batch) : BatchLine :=
  batchLine x.1 { x.2 with doses := x.2.doses.mapIdx (s.doseEnded x.1 x.2.gross) } e (Vec.get s.custody.gross x.1)

/-- The session record with the lines of the batches `l` that end with it. -/
def State.lined (s : State) (r : Session) (l : List (Fin 4 × Batch)) (e : EndReason) : Session :=
  { r with lines := r.lines ++ l.map (s.lastLine e) }

/-- The events of the close in their order: BATCH_ENDED for each batch, NOTE_READY where the session has lines,
SESSION_CLOSED (R24, R106, R134). -/
def State.closingEvents (s : State) (r : Session) (l : List (Fin 4 × Batch)) (e : EndReason) (c : CloseReason) :
    List Event :=
  let lines := (s.lined r l e).lines
  (l.map fun x => .batchEnded x.1 x.2.compartment x.2.code e (litres x.2.gross) (litres x.2.standard)
    (s.lastLine e x).flags x.2.overrun) ++
  (if lines = [] then [] else
    [.noteReady r.number c lines.length (lines.filter fun y => anyFlag y.flags).length s.custody.places.length]) ++
  [.sessionClosed r.number c lines.length]

/-- The vehicle entry after a batch: its compartment takes the product (R4). -/
def lastProduct (v : VehicleEntry) (x : Fin 4 × Batch) : VehicleEntry :=
  if 0 < x.2.gross then
    { v with compartments := v.compartments.modify x.2.compartment.val fun y => { y with last := some x.2.product } }
  else v

/-- The session `r` closes with the batches `l` that end with it, from state `s` to state `u`: the note in its place, or
the place freed; the last products; nothing else of the custody store or of the tables but the permits. -/
structure State.closesAll (s u : State) (r : Session) (l : List (Fin 4 × Batch)) (e : EndReason) (c : CloseReason) :
    Prop where
  record : u.session.record = none
  note : (s.lined r l e).lines ≠ [] → s.noted u (s.lined r l e) c
  noNote : (s.lined r l e).lines = [] → u.custody.counter = s.custody.counter ∧
    u.custody.places = s.custody.places.filter fun p => p.state != .reserved
  custody : u.custody = { s.custody with counter := u.custody.counter, places := u.custody.places }
  tables : u.tables = { s.tables with permits := u.tables.permits, vehicles := u.tables.vehicles }
  vehicle : (tabGet emptyVehicle s.tables.vehicles r.vehicle).damaged = false →
    u.vehicle r.vehicle = l.foldl lastProduct (s.vehicle r.vehicle)
  vehicles : ∀ i, i ≠ r.vehicle → u.vehicle i = s.vehicle i

/-- The charge of those batches (R19), from state `s` to state `u`: a permit index is charged as the record names it, an
empty entry's among them (the model's choice, log 64). -/
structure State.charges (s u : State) (r : Session) (l : List (Fin 4 × Batch)) : Prop where
  server : r.source = .server → u.tables.permits = s.tables.permits
  permit : ∀ p, r.source = .local_ → r.permit = some p → (tabGet emptyPermit s.tables.permits p).damaged = false →
    u.permit p = { s.permit p with
      usedToday := l.foldl (fun n x => min 9999999 (n + litres x.2.delivered)) (s.permit p).usedToday }
  permits : ∀ i, (r.source = .local_ → r.permit ≠ some i) → u.permit i = s.permit i

/-! ### Slots (R159, R161, R163) -/

/-- The records a class has for the slots of a reply, oldest first: once an event leaves, a LOST record joins the tail
when events were lost (R161); a place that waits for a relay's outcome gives none (R162). -/
def UPort.stock (u : UPort) (clock : Nat) : SlotClass → List SlotRec
  | .event => (u.events ++ if u.events ≠ [] ∧ 0 < u.lost then [(⟨.lost u.lost, clock⟩ : EventRec)] else []).map SlotRec.event
  | .relay => u.relayUp.filterMap fun p => match p with
    | .filled r => some (.relay r)
    | .reserved _ _ => none

/-- The slots of a reply, filled from the classes `cs` in turn (R161 to R163), from port `u` to port `v`. -/
structure UPort.fills (u v : UPort) (clock : Nat) (slots : List SlotRec) (cs : List SlotClass) : Prop where
  length : cs.length = slots.length
  oldest : ∀ i c, cs[i]? = some c → slots[i]? = (u.stock clock c)[(cs.take i).count c]?
  first : ∀ c, cs[0]? = some c → c =
    if u.stock clock u.firstClaim ≠ [] then u.firstClaim else otherClass u.firstClaim
  alternate : ∀ i c d, cs[i]? = some c → cs[i + 1]? = some d → d =
    if (cs.take (i + 1)).count (otherClass c) < (u.stock clock (otherClass c)).length then otherClass c else c
  claim : v.firstClaim = (cs[0]?.map otherClass).getD u.firstClaim
  untouched : .event ∉ cs → v.events = u.events ∧ v.lost = u.lost
  left : .event ∈ cs → v.lost = 0 ∧ v.stock clock .event = (u.stock clock .event).drop (cs.count .event)
  relays : v.stock clock .relay = (u.stock clock .relay).drop (cs.count .relay)
  places : ∀ t a, .reserved t a ∈ v.relayUp ↔ .reserved t a ∈ u.relayUp
  order : v.relayUp.Sublist u.relayUp
  stands : v = { u with
    events := v.events, lost := v.lost, relayUp := v.relayUp, firstClaim := v.firstClaim, inHand := v.inHand
    phase := v.phase }

end Sys2Proof.Machine
end

