-- ==== Sys2Proof/Certificates/Slice0/Obligations.lean ====
section
/-! DEFINITION. The statements for the provers. Where a statement speaks of a request, `s.linkFrame` is the state after
its frame has been taken as a valid one (R164), and `u.reply kind tag answer` is `u` with the one reply built (R158). -/

open Sys2Proof Sys2Proof.Machine

/-- The command at the front of the queue runs with the queue's rest. -/
def Obligations.StepRunsFrontCommand : Prop :=
  ∀ (c : Instr) (rest : List Instr) (s : State), s.pending = c :: rest → step s = exec c (s.withPending rest)

/-- Every command of the table completes in every state; none touches the queue or the timebase. R188: on a part with
its supply, a command other than POWER_ON acts as it does once the errors waiting in the words that its blocks read have
been met, after which none waits (log 46). -/
def Obligations.EveryCommandAnswersNext : Prop :=
  (∀ (c : Instr) (s : State), ∃ t, exec c s = .next t ∧ t.pending = s.pending ∧ t.now = s.now) ∧
  (∀ (c : Instr) (s : State), s.powered = true → (∀ p kept l, c ≠ .powerOn p kept l) →
    s.meet.live = true ∧ exec c s = exec c s.meet)

/-- The model's choice (log 15): without supply a command other than POWER_ON has no effect. -/
def Obligations.UnpoweredTakesNothing : Prop :=
  ∀ (c : Instr) (s : State), s.powered = false → (∀ p kept l, c ≠ .powerOn p kept l) → exec c s = .next s

/-- The model's choice (log 2): on an empty queue the part's own event that is due runs, or one millisecond passes: the
timebase counts it, the bay clock counts a second after a thousand, and a reply that was built begins within the bounds
of R158 (log 30). -/
def Obligations.IdleStep : Prop :=
  ∀ s : State, s.pending = [] →
    (∀ c, s.dueCommand = some c → step s = exec c s) ∧
    (s.dueCommand = none → ∃ u : State, step s = .next u ∧
      u = { s with
        now := s.now + 1, custody := u.custody, uport := { s.uport with phase := u.uport.phase } } ∧
      (s.custody.phase < 999 → s.custody.clock < 5662310399 →
        u.custody = { s.custody with phase := s.custody.phase + 1 }) ∧
      (s.custody.phase = 999 → s.custody.clock < 5662310399 →
        u.custody.clock = s.custody.clock + 1 ∧ u.custody.phase = 0 ∧
          u.custody.midnight = (s.custody.midnight || (s.powered && (s.custody.clock + 1) % 86400 == 0))) ∧
      (5662310399 ≤ s.custody.clock → u.custody.clock = s.custody.clock) ∧
      ((∀ a, s.uport.phase ≠ .built a) → u.uport.phase = s.uport.phase) ∧
      (∀ a, s.uport.phase = .built a →
        (u.uport.phase = .built a ∨ u.uport.phase = .sending) ∧
        (s.now + 1 < a + (if s.uport.speed = 0 then 2 else 1) → u.uport.phase = .built a) ∧
        (a + 5 ≤ s.now + 1 → u.uport.phase = .sending)))

/-- R84, with R90 and R93: an arm whose valve is open or may be opened by a start or a grant stands in an open session,
and while its valve is open the three permissives stand PERMITTED. Every step keeps this. -/
def Obligations.ValveGuardKept : Prop := ∀ s t : State, s.guarded → step s = .next t → t.guarded

/-- R117, R160, R161, R162, R170, R172: the bounds of the queues are kept by every step, and so is R115's bound on the
interval of every dose record of a batch set up, waiting or running: 2,000 mL or more (R119). -/
def Obligations.QueueBoundsKept : Prop := ∀ s t : State, s.bounded → step s = .next t → t.bounded

/-- Every sparse table keeps its canonical form (the model's own form of the stored tables). -/
def Obligations.CanonicalTablesKept : Prop := ∀ s t : State, s.canonical = true → step s = .next t → t.canonical = true

/-- R136, R137: the note queue holds at most 16 places, one of them RESERVED exactly while a session is open. That no
open session stands marked closed rests on log 25 (DEDUCED: no supply failure falls inside a command), since R134
foresees a session record found marked closed at power-on. -/
def Obligations.NoteQueueSoundKept : Prop := ∀ s t : State, s.notesSound → step s = .next t → t.notesSound

/-- The reset state meets the invariants and holds what R191 gives: cleared tables, an empty note queue, note counter
1, no session, zero totalizers, empty fault records, OUT_OF_SERVICE, clock and quota day 0, RETENTION_LOST queued. -/
def Obligations.ResetState : Prop :=
  State.reset.guarded ∧ State.reset.bounded ∧ State.reset.canonical = true ∧ State.reset.notesSound ∧
    State.reset.tables = clearedTables ∧ State.reset.custody.places = [] ∧ State.reset.custody.counter = .next 1 ∧
    State.reset.session.record = none ∧ (∀ k, Vec.get State.reset.custody.gross k = ⟨0, false⟩) ∧
    (∀ k, Vec.get State.reset.custody.standard k = ⟨0, false⟩) ∧
    (∀ j, Vec.get State.reset.custody.additive j = ⟨0, false⟩) ∧ (∀ c, State.reset.fault c = FaultRec.empty) ∧
    State.reset.session.inService = false ∧ State.reset.bayState = .outOfService ∧ State.reset.custody.clock = 0 ∧
    State.reset.session.quotaDay = 0 ∧ State.reset.uport.events = [⟨.retentionLost, 0⟩] ∧
    (∀ k, (State.reset.arm k).state = .idle) ∧ (∀ i, (State.reset.input i).level = false)

/-! ### Sessions (chapter 1) -/

/-- R12, R14, R16, R137: a card presented to an IDLE bay with a fresh tag, an admissible vehicle and a free note place.
With the local permit in order it opens a session under LOCAL source; under permit source SERVER with the link ONLINE it
becomes the pending presentation. That the opened record holds 0 in its products and its quota under LOCAL source is the
model's choice (log 33), the presentation keeps the vehicle's index (log 5, DEDUCED), and NOTE_QUEUE_HIGH comes before
SESSION_OPENED (log 7). -/
def Obligations.CardPresented : Prop :=
  ∀ (s : State) (a : Byte) (n : BitVec 40) (i : Fin 12) (t v : Nat),
    s.live = true → s.canonical = true → s.bayState = .idle → s.session.presentation = none →
    s.holds a i .cardReader → s.freshTag = some t → s.admissible t = .ok v →
    (∀ p, ¬(s.bay.permitSource = .server ∧ s.uport.link = .online) → s.permitCheck n.toNat t = .ok p →
      ∃ u : State, exec (.card a n) s = .next (s.copied u i a .cardReader (cardRecord n)) ∧
        u = { s with
          session := { s.session with record := u.session.record, idleTimer := u.session.idleTimer }
          custody := u.custody, tables := { s.tables with permits := u.tables.permits }, uport := u.uport
          dport := u.dport } ∧
        u.session.record = some {
          number := s.custody.counter.value, openTime := s.custody.clock, card := n.toNat
          carrier := (s.permit p).carrier, permit := some p, vehicle := v, tag := t, products := 0, source := .local_
          quota := 0, delivered := 0, reserved := 0, claims := Vector.replicate 8 none, lines := [], closing := none
          closed := false, damaged := false } ∧
        u.custody = { s.custody with
          places := s.custody.places ++ [⟨s.custody.counter.value, .reserved, none, [], false, false⟩] } ∧
        u.permit p = { s.permit p with refusals := 0 } ∧ (∀ x, x ≠ p → u.permit x = s.permit x) ∧
        u.bayState = .session ∧
        u.session.idleTimer = (if s.allIdle then
          some (s.session.idleTimer.getD (s.now + s.bay.idleMinutes * 60000)) else none) ∧
        u.dport = (s.tellReader .accept).dport ∧
        u.uport = ((if s.custody.places.length < 13 then s
          else s.raise (.noteQueueHigh (s.custody.places.length + 1) s.filledPlaces)).raise
            (.sessionOpened s.custody.counter.value n.toNat t .local_ (s.permit p).dailyQuota)).uport) ∧
    (s.bay.permitSource = .server → s.uport.link = .online →
      ∃ u : State, exec (.card a n) s = .next (s.copied u i a .cardReader (cardRecord n)) ∧
        u = { s with session := u.session, uport := u.uport } ∧
        u.session = { s.session with
          presentation := some ⟨n.toNat, t, v, s.now, s.now + s.bay.authorisationWait * 1000⟩ } ∧
        u.uport = (s.raise (.cardPresented n.toNat t s.bay.authorisationWait)).uport)

/-- Chapters 1.4, 1.6 and 8.5. R10, for a refusal as the session unit makes it, with the refusal count of R11; the cards that R12 refuses by the bay
state, and the repeat of a pending card; and the checks of R12 and R13 in their order, the first that fails giving the
refusal. A card presentation reports the tag while it is fresh, 0 otherwise (R7). R170: a verdict joins the tail of its
station's list, a list of 4 first discarding and counting its oldest; one for no station is discarded and counted. That a
keypad's verdict goes to the station that holds its D address, whatever its role, is the model's choice (log 55). -/
def Obligations.PresentationRefused : Prop :=
  (∀ (s : State) (v : Verdict),
    s.pushVerdict none v = { s with dport := { s.dport with verdictDrop := min 65535 (s.dport.verdictDrop + 1) } } ∧
    (∀ i, (s.station i).verdicts.length < 4 →
      ∃ u : State, u = s.pushVerdict (some i) v ∧ u = { s with dport := { s.dport with stations := u.dport.stations } } ∧
        u.station i = { s.station i with verdicts := (s.station i).verdicts ++ [v] } ∧
        ∀ j, j ≠ i → u.station j = s.station j) ∧
    (∀ i, 4 ≤ (s.station i).verdicts.length →
      ∃ u : State, u = s.pushVerdict (some i) v ∧ u = { s with dport := { s.dport with
          stations := u.dport.stations, verdictDrop := min 65535 (s.dport.verdictDrop + 1) } } ∧
        u.station i = { s.station i with
          verdicts := (s.station i).verdicts.drop 1 ++ [v], carried := (s.station i).carried - 1 } ∧
        ∀ j, j ≠ i → u.station j = s.station j) ∧
    s.tellReader v = s.pushVerdict (s.findRole .cardReader) v ∧
    ∀ a, s.tellKeypad a v = s.pushVerdict (s.findDevice a) v) ∧
  (∀ (s : State) (card tag : Nat) (r : SessionReason) (v : Nat), s.canonical = true →
    ∃ u : State, u = s.refuse card tag r v ∧ u = { s with
        tables := { s.tables with permits := u.tables.permits }, uport := u.uport, dport := u.dport } ∧
      (∀ i, s.findRole .cardReader = some i → (s.station i).verdicts.length < 4 →
        (u.station i).verdicts = (s.station i).verdicts ++ [.refuse r]) ∧
      u.dport = (s.tellReader (.refuse r)).dport ∧
      u.uport = (s.raise (.sessionRefused card tag r v)).uport ∧
      (∀ i, s.findPermit card ≠ some i → u.permit i = s.permit i) ∧
      (s.findPermit card = none → u.tables = s.tables) ∧
      ((r = .vehicleNotAllowed ∨ r = .vehicleBarred ∨ r = .vehicleExpired) →
        ∀ i, s.findPermit card = some i → u.permit i = { s.permit i with
          refusals := min 3 ((s.permit i).refusals + 1)
          state := if 3 ≤ (s.permit i).refusals + 1 then .lockedOut else (s.permit i).state }) ∧
      (¬(r = .vehicleNotAllowed ∨ r = .vehicleBarred ∨ r = .vehicleExpired) → u.tables = s.tables)) ∧
  (∀ (s : State) (a : Byte) (n : BitVec 40) (i : Fin 12), s.live = true → s.holds a i .cardReader →
    (s.bayState = .outOfService ∨ s.bayState = .faulted ∨ s.bayState = .closing → exec (.card a n) s =
      .next (s.copied (s.refuse n.toNat (s.freshTag.getD 0) .bayNotReady 0) i a .cardReader (cardRecord n))) ∧
    (∀ r, s.bayState = .session → s.session.record = some r → r.card ≠ n.toNat → exec (.card a n) s =
      .next (s.copied (s.refuse n.toNat (s.freshTag.getD 0) .bayBusy 0) i a .cardReader (cardRecord n))) ∧
    (∀ p, s.bayState = .idle → s.session.presentation = some p → p.card ≠ n.toNat → exec (.card a n) s =
      .next (s.copied (s.refuse n.toNat (s.freshTag.getD 0) .bayBusy 0) i a .cardReader (cardRecord n))) ∧
    (∀ p, s.bayState = .idle → s.session.presentation = some p → p.card = n.toNat → exec (.card a n) s =
      .next (s.copied s i a .cardReader (cardRecord n))) ∧
    (s.bayState = .idle → s.session.presentation = none → s.freshTag = none → exec (.card a n) s =
      .next (s.copied (s.refuse n.toNat 0 .noVehicle 0) i a .cardReader (cardRecord n))) ∧
    (∀ t e, s.bayState = .idle → s.session.presentation = none → s.freshTag = some t → s.admissible t = .error e →
      exec (.card a n) s = .next (s.copied (s.refuse n.toNat t e 0) i a .cardReader (cardRecord n))) ∧
    (∀ t v e, s.bayState = .idle → s.session.presentation = none → s.freshTag = some t → s.admissible t = .ok v →
      ¬(s.bay.permitSource = .server ∧ s.uport.link = .online) → s.permitCheck n.toNat t = .error e →
      exec (.card a n) s = .next (s.copied (s.refuse n.toNat t e 0) i a .cardReader (cardRecord n)))) ∧
  (∀ (s : State) (t : Nat),
    (s.findVehicle t = none → s.admissible t = .error .vehicleUnknown) ∧
    (∀ v, s.findVehicle t = some v →
      ((s.vehicle v).state = .barred → s.admissible t = .error .vehicleBarred) ∧
      ((s.vehicle v).state = .active →
        ((s.vehicle v).inspectionDay < s.custody.clock / 86400 → s.admissible t = .error .vehicleExpired) ∧
        (s.custody.clock / 86400 ≤ (s.vehicle v).inspectionDay →
          (16 ≤ s.custody.places.length ∨ s.custody.counter = .usedUp → s.admissible t = .error .noteQueueFull) ∧
          (s.custody.places.length < 16 → s.custody.counter ≠ .usedUp → s.admissible t = .ok v))))) ∧
  (∀ (s : State) (card t : Nat),
    (s.findPermit card = none → s.permitCheck card t = .error .cardUnknown) ∧
    (∀ p, s.findPermit card = some p →
      ((s.permit p).state = .suspended → s.permitCheck card t = .error .permitSuspended) ∧
      ((s.permit p).state = .lockedOut → s.permitCheck card t = .error .permitLocked) ∧
      ((s.permit p).state = .active →
        ((s.permit p).expiryDay < s.custody.clock / 86400 → s.permitCheck card t = .error .permitExpired) ∧
        (s.custody.clock / 86400 ≤ (s.permit p).expiryDay →
          ((s.permit p).vehicles ≠ [] → t ∉ (s.permit p).vehicles →
            s.permitCheck card t = .error .vehicleNotAllowed) ∧
          ((s.permit p).vehicles = [] ∨ t ∈ (s.permit p).vehicles → s.permitCheck card t = .ok p)))))

/-- R15, R16, R137: AUTHORISE. A re-check that fails reports the tag record's tag as it stands (log 34, DEDUCED); the
opening queues NOTE_QUEUE_HIGH before SESSION_OPENED (log 7). -/
def Obligations.AuthoriseDecides : Prop :=
  ∀ (s : State) (tag : Byte) (p : List Byte), s.hearing = true → p.length = 10 →
    (999999 < field p 7 3 → exec (.authorise tag p) s = .next (s.linkFrame.reply 0x01 tag (deny .badValue))) ∧
    (field p 7 3 ≤ 999999 → s.pendingOf (field p 0 5) = none →
      exec (.authorise tag p) s = .next (s.linkFrame.reply 0x01 tag (deny .late))) ∧
    (∀ x e, field p 7 3 ≤ 999999 → s.pendingOf (field p 0 5) = some x → s.admissible x.tag = .error e →
      exec (.authorise tag p) s = .next ((s.linkFrame.unpresent.refuse (field p 0 5)
        ((s.session.tagRecord.map TagRec.tag).getD 0) e 0).reply 0x01 tag
        (accept (sessionReasonCode e) []))) ∧
    (∀ x v, field p 7 3 ≤ 999999 → s.pendingOf (field p 0 5) = some x → s.admissible x.tag = .ok v →
      ∃ u : State, exec (.authorise tag p) s = .next (u.reply 0x01 tag taken) ∧
        u = { s.linkFrame with
          session := { s.session with
            presentation := none, record := u.session.record, idleTimer := u.session.idleTimer }
          custody := u.custody, tables := { s.tables with permits := u.tables.permits }, uport := u.uport
          dport := u.dport } ∧
        u.session.record = some {
          number := s.custody.counter.value, openTime := s.custody.clock, card := field p 0 5
          carrier := ((s.findPermit (field p 0 5)).map fun i => (s.permit i).carrier).getD 0
          permit := s.findPermit (field p 0 5), vehicle := v, tag := x.tag
          products := BitVec.ofNat 16 (field p 5 2), source := .server, quota := field p 7 3, delivered := 0
          reserved := 0, claims := Vector.replicate 8 none, lines := [], closing := none, closed := false
          damaged := false } ∧
        u.bayState = .session ∧
        u.session.idleTimer = (if s.allIdle then
          some (s.session.idleTimer.getD (s.now + s.bay.idleMinutes * 60000)) else none) ∧
        (s.findPermit (field p 0 5) = none → u.tables = s.tables) ∧
        (s.canonical = true → ∀ i, u.permit i =
          if s.findPermit (field p 0 5) = some i then { s.permit i with refusals := 0 } else s.permit i) ∧
        u.uport = ((if s.custody.places.length < 13 then s.linkFrame
          else s.linkFrame.raise (.noteQueueHigh (s.custody.places.length + 1) s.filledPlaces)).raise
            (.sessionOpened s.custody.counter.value (field p 0 5) x.tag .server (field p 7 3))).uport ∧
        u.custody = { s.custody with
          places := s.custody.places ++ [⟨s.custody.counter.value, .reserved, none, [], false, false⟩] } ∧
        u.dport = (s.tellReader .accept).dport)

/-- R14, R15: DENY, and the deadline of a pending presentation; the refusal reports the tag record's tag as it stands
(log 34, DEDUCED). -/
def Obligations.PresentationDeniedOrLate : Prop :=
  (∀ (s : State) (tag : Byte) (p : List Byte), s.hearing = true → p.length = 6 →
    (s.pendingOf (field p 0 5) = none →
      exec (.deny tag p) s = .next (s.linkFrame.reply 0x02 tag (deny .late))) ∧
    (∀ x, s.pendingOf (field p 0 5) = some x →
      ∃ u : State, exec (.deny tag p) s = .next (u.reply 0x02 tag taken) ∧
        u = { s.linkFrame with session := { s.session with presentation := none }, uport := u.uport, dport := u.dport } ∧
        u.dport = (s.tellReader (.refuse .serverDenied)).dport ∧
        u.uport = (s.linkFrame.raise (.sessionRefused (field p 0 5)
          ((s.session.tagRecord.map TagRec.tag).getD 0) .serverDenied (field p 5 1))).uport)) ∧
  (∀ (s : State) (x : Presentation), s.live = true → s.session.presentation = some x →
    ∃ u : State, exec .authorisationDeadline s = .next u ∧
      u = { s with session := { s.session with presentation := none }, uport := u.uport, dport := u.dport } ∧
      u.dport = (s.tellReader (.refuse .noAnswer)).dport ∧
      u.uport = (s.raise (.sessionRefused x.card ((s.session.tagRecord.map TagRec.tag).getD 0) .noAnswer 0)).uport)

/-- R21, R22, R24: SESSION_END, the idle timeout and the session's own card close the session in order. Byte 31 of its
note takes the bay parameters as they stand at the write (log 16), and the counter passes the number of the record even
where R188 rewrote it (logs 43 and 78). -/
def Obligations.OrderlyClose : Prop :=
  (∀ (s : State) (tag : Byte), s.hearing = true →
    (∀ r, s.bayState = .session → s.noneRunning = true → s.session.record = some r →
      ∃ u : State, exec (.sessionEnd tag []) s = .next (u.reply 0x03 tag taken) ∧ s.linkFrame.closes u r .orderly) ∧
    (¬(s.bayState = .session ∧ s.noneRunning = true) →
      exec (.sessionEnd tag []) s = .next (s.linkFrame.reply 0x03 tag (deny .wrongState)))) ∧
  (∀ (s : State) (r : Session), s.live = true → s.session.idleTimer.isSome = true → s.noneRunning = true →
    s.session.record = some r → ∃ u : State, exec .idleTimeout s = .next u ∧ s.closes u r .idleTimeout) ∧
  (∀ (s : State) (a : Byte) (n : BitVec 40) (i : Fin 12) (r : Session), s.live = true → s.holds a i .cardReader →
    s.bayState = .session → s.session.record = some r → r.card = n.toNat →
    (s.noneRunning = true → ∃ u : State, exec (.card a n) s =
      .next (s.copied (u.tellReader .accept) i a .cardReader (cardRecord n)) ∧ s.closes u r .orderly) ∧
    (s.noneRunning = false → exec (.card a n) s =
      .next (s.copied (s.tellReader .stopArmsFirst) i a .cardReader (cardRecord n))))

/-- R23, R24: SESSION_ABORT. With no arm running the session closes at once, with ABORT. Byte 31 of its note takes the bay
parameters as they stand at the write (log 16), and the counter passes the number of the record even where R188 rewrote
it (logs 43 and 78). -/
def Obligations.SessionAbort : Prop :=
  ∀ (s : State) (tag : Byte), s.hearing = true →
    (s.bayState = .session → ∃ u : State, exec (.sessionAbort tag []) s = .next (u.reply 0x04 tag taken) ∧
      (∀ k, s.abortsArm u .sessionAbort k) ∧
      (s.noneRunning = true → ∀ r, s.session.record = some r → s.linkFrame.closes u r .abort) ∧
      (s.noneRunning = false → u.bayState = .closing ∧
        (u.session.record.bind fun r => r.closing) = some .abort ∧
        u.custody = s.custody ∧ u.uport = s.linkFrame.uport) ∧ u.dport = s.dport ∧
      u.tables = s.tables ∧ u.meters = s.meters ∧ u.volumes = s.volumes ∧ u.safety.faults = s.safety.faults) ∧
    (s.bayState = .closing → exec (.sessionAbort tag []) s = .next (s.linkFrame.reply 0x04 tag taken)) ∧
    (s.session.record = none →
      exec (.sessionAbort tag []) s = .next (s.linkFrame.reply 0x04 tag (deny .wrongState)))

/-- R7, R8: a TAG record. -/
def Obligations.TagConfirmation : Prop :=
  ∀ (s : State) (a : Byte) (n : BitVec 32) (i : Fin 12), s.live = true → s.holds a i .tagReader →
    (s.session.candidate = none → exec (.tag a n) s = .next (s.copied
      { s with session := { s.session with candidate := some n.toNat } } i a .tagReader (tagRecord n))) ∧
    (∀ c, s.session.candidate = some c → c ≠ n.toNat → exec (.tag a n) s = .next (s.copied
      { s with session := { s.session with
        candidate := some n.toNat, chattered := min 65535 (s.session.chattered + 1) } } i a .tagReader (tagRecord n))) ∧
    (s.session.candidate = some n.toNat → n = 0 →
      exec (.tag a n) s = .next (s.copied s i a .tagReader (tagRecord n))) ∧
    (s.session.candidate = some n.toNat → n ≠ 0 → s.session.tagRecord.map TagRec.tag = some n.toNat →
      exec (.tag a n) s = .next (s.copied
        { s with session := { s.session with tagRecord := some ⟨n.toNat, s.now⟩ } } i a .tagReader (tagRecord n))) ∧
    (s.session.candidate = some n.toNat → n ≠ 0 → s.session.tagRecord.map TagRec.tag ≠ some n.toNat →
      ∃ u : State, exec (.tag a n) s = .next (s.copied u i a .tagReader (tagRecord n)) ∧
        u.session.tagRecord = some ⟨n.toNat, s.now⟩ ∧ u.session.record = s.session.record ∧
        u.tables = s.tables ∧ u.custody = s.custody ∧ u.meters = s.meters ∧ u.volumes = s.volumes ∧
        u.additive = s.additive ∧ u.dport = s.dport ∧
        (s.mismatch n.toNat = false → u.arms = s.arms ∧ u.safety = s.safety ∧
          u.uport = (s.raise (.tagConfirmed n.toNat false)).uport) ∧
        (s.mismatch n.toNat = true → (∀ k, u.arm k = s.armSuspended k .vehicleChange) ∧
          (∃ l, u.uport.events = (s.raise (.tagConfirmed n.toNat true)).uport.events ++ l ∧
            ∀ e ∈ l, ∃ k d x, e.event = .armSuspended k .vehicleChange d x) ∧
          (s.anyFlowing = false → u.uport = (s.raise (.tagConfirmed n.toNat true)).uport)))

/-! ### Safety inputs, deadman, faults (chapter 2) -/

/-- R43: CLEAR_FAULT, whole. A taken clear frees each arm that no other record latches; with no session open the bay leaves
FAULTED when no other class is latched with STOP_BAY, and with one open its state stands; no arm moves. -/
def Obligations.FaultCleared : Prop :=
  ∀ (s : State) (tag b : Byte), s.hearing = true →
    (11 ≤ b.toNat → exec (.clearFault tag [b]) s = .next (s.linkFrame.reply 0x05 tag (deny .badValue))) ∧
    (∀ c, faultOf b.toNat = some c →
      (s.clearBlocked c = true →
        exec (.clearFault tag [b]) s = .next (s.linkFrame.reply 0x05 tag (deny .wrongState))) ∧
      (s.clearBlocked c = false → ∃ u : State, exec (.clearFault tag [b]) s = .next (u.reply 0x05 tag taken) ∧
        u = { s.linkFrame with safety := u.safety, meters := u.meters, uport := u.uport } ∧
        u.safety = { s.safety with faults := u.safety.faults } ∧ u.fault c = FaultRec.empty ∧
        (∀ d, d ≠ c → u.fault d = s.fault d) ∧
        (∀ k, u.meter k = if c = .unauthFlow then { s.meter k with unauth := 0, unauthFlag := false } else s.meter k) ∧
        u.uport = (if (s.policy c).mask then s.linkFrame
          else s.linkFrame.raise (.faultCleared c (s.fault c).count)).uport ∧
        (∀ k, u.armLatched k = true ↔ ∃ d, d ≠ c ∧ (s.fault d).armsLatched.getLsbD k.val = true) ∧
        (s.session.record.isSome = true → u.bayState = s.bayState) ∧
        (s.session.record = none → (∃ d, d ≠ c ∧ (s.fault d).latch = some .stopBay) → u.bayState = .faulted) ∧
        (s.session.record = none → (∀ d, d ≠ c → (s.fault d).latch ≠ some .stopBay) →
          u.bayState = if s.session.inService then .idle else .outOfService))) ∧
    (s.clearBlocked .estop = !(s.input .estop).level) ∧
    (∀ c, c = .valve ∨ c = .unauthFlow → s.clearBlocked c =
      armIxs.any fun k => (s.fault c).armsNamed.getLsbD k.val && decide (0 < (s.meter k).lastN)) ∧
    (∀ c, c ≠ .estop → c ≠ .valve → c ≠ .unauthFlow → s.clearBlocked c = false)

/-- R9, R38 to R41, R44: FAULT_DRILL with every arm IDLE. A presentation pending under the response STOP_BAY is refused;
its refusal reports the tag record's tag as it stands (log 34, DEDUCED). -/
def Obligations.FaultDrilled : Prop :=
  ∀ (s : State) (tag b d : Byte), s.hearing = true →
    (11 ≤ b.toNat ∨ (4 ≤ d.toNat ∧ d.toNat ≤ 254) →
      exec (.faultDrill tag [b, d]) s = .next (s.linkFrame.reply 0x06 tag (deny .badValue))) ∧
    (∀ c k, faultOf b.toNat = some c → (d.toNat = 255 ∧ k = none ∨ ∃ j : Fin 4, j.val = d.toNat ∧ k = some j) →
      (s.session.record.isSome = true →
        exec (.faultDrill tag [b, d]) s = .next (s.linkFrame.reply 0x06 tag (deny .wrongState))) ∧
      (s.session.record = none → s.allIdle = true →
        ∃ u v : State, exec (.faultDrill tag [b, d]) s =
            .next (u.reply 0x06 tag (accept (modeCode (s.response c none)) [])) ∧
          u = (if s.response c none = .stopBay then v.unseated else v) ∧
          v = { s.linkFrame with safety := { s.safety with faults := v.safety.faults }, uport := v.uport } ∧
          (∀ x, x ≠ c → v.fault x = s.fault x) ∧ v.fault c = s.struck c k (s.response c none) true ∧
          v.uport = (s.linkFrame.announced c k .none (s.response c none) true).uport))

/-- R28, R31: a fall of GROUND or OVERFILL suspends every flowing arm with its cause and touches no other arm. -/
def Obligations.PermissiveFall : Prop :=
  ∀ (s : State) (i : Permissive), s.live = true →
    ((s.input i.input).level = true → ∃ u : State, exec (.permissiveFall i) s = .next u ∧
      u.input i.input = { s.input i.input with pin := false, level := false } ∧
      (∀ x, x ≠ i.input → u.input x = s.input x) ∧
      (∀ k, u.arm k = s.armSuspended k (permissiveCause i)) ∧
      u.session.record = s.session.record ∧ u.tables = s.tables ∧ u.custody = s.custody ∧ u.meters = s.meters ∧
      u.volumes = s.volumes ∧ u.additive = s.additive ∧ u.dport = s.dport ∧ u.safety.faults = s.safety.faults ∧
      (s.anyFlowing = false → u.uport = (s.raise (.permissiveChange i.input false (s.input i.input).chatter)).uport)) ∧
    ((s.input i.input).level = false → ∃ u : State, exec (.permissiveFall i) s = .next u ∧
      u = { s with safety := { s.safety with inputs := u.safety.inputs } } ∧
      u.input i.input = { s.input i.input with pin := false } ∧ (∀ x, x ≠ i.input → u.input x = s.input x))

/-- R9, R24, R32, R39, R41: an ESTOP fall under the response STOP_BAY. With a session open every arm is stopped or its
batch cancelled and the session is aborted with FAULT, at once where no arm runs; a session already closing takes FAULT as
its reason; with none open the class is latched and a pending presentation refused. PERMISSIVE_CHANGE comes before
FAULT_RAISED. The refusal reports the tag record's tag as it stands (log 34, DEDUCED), byte 31 of a note takes the bay
parameters as they stand at the write (log 16), and the counter passes the number of the record even where R188 rewrote
it (logs 43 and 78). -/
def Obligations.EstopFall : Prop :=
  ∀ s : State, s.live = true →
    ((s.input .estop).level = false → ∃ u : State, exec .estopFall s = .next u ∧
      u = { s with safety := { s.safety with inputs := u.safety.inputs } } ∧
      u.input .estop = { s.input .estop with pin := false } ∧ (∀ x, x ≠ .estop → u.input x = s.input x)) ∧
    ((s.input .estop).level = true → (s.policy .estop).mode = .stopBay →
      let v := (s.raise (.permissiveChange .estop false (s.input .estop).chatter)).announced .estop none .none .stopBay
        false
      ∃ u : State, exec .estopFall s = .next u ∧
      u.input .estop = { s.input .estop with pin := false, level := false } ∧
      (∀ x, x ≠ .estop → u.input x = s.input x) ∧
      u.fault .estop = s.struck .estop none .stopBay false ∧ (∀ c, c ≠ .estop → u.fault c = s.fault c) ∧
      u.tables = s.tables ∧ u.meters = s.meters ∧ u.volumes = s.volumes ∧
      (s.bayState = .session → (∀ k, s.estopsArm u k) ∧ u.dport = s.dport ∧
        (s.noneRunning = true → ∀ r, s.session.record = some r →
          ({ v with safety := u.safety } : State).closes u r .fault) ∧
        (s.noneRunning = false → (u.session.record.bind fun r => r.closing) = some .fault ∧ u.custody = s.custody ∧
          u.uport = v.uport)) ∧
      (s.bayState = .closing → u.session.record = s.session.record.map (fun r => { r with closing := some .fault }) ∧
        (∀ k, (s.arm k).state ≠ .ready → (s.arm k).state ≠ .waitInjector → s.estopsArm u k) ∧
        (∀ k, (s.arm k).state = .ready ∨ (s.arm k).state = .waitInjector → u.arm k = s.arm k) ∧
        u.custody = s.custody ∧ u.additive = s.additive ∧ u.dport = s.dport ∧ u.uport = v.uport) ∧
      (s.session.record = none → u.bayState = .faulted ∧
        (s.allIdle = true → u = ({ v with safety := u.safety } : State).unseated)))

/-- R28, R29: a debounce timer starts on a level that stands low, and at its expiry the level follows the pin; an expiry
commanded while the timer is stopped has no effect (the model's choice, log 20). The deadman input's press is
`DeadmanTimer`. -/
def Obligations.InputDebounce : Prop :=
  ∀ (s : State) (i : SafetyInput), s.live = true →
    ((s.input i).level = false → (s.input i).timer = none → ∃ u : State, exec (.debounceStart i) s = .next u ∧
      u = { s with safety := { s.safety with inputs := u.safety.inputs } } ∧ (∀ x, x ≠ i → u.input x = s.input x) ∧
      u.input i = { s.input i with pin := true, timer := some (s.now + Vec.get s.bay.debounceMs (inputIx i)) }) ∧
    ((s.input i).level = true ∨ (s.input i).timer.isSome = true → ∃ u : State, exec (.debounceStart i) s = .next u ∧
      u = { s with safety := { s.safety with inputs := u.safety.inputs } } ∧ (∀ x, x ≠ i → u.input x = s.input x) ∧
      u.input i = { s.input i with pin := true }) ∧
    ((s.input i).timer.isSome = true → (s.input i).pin = true → i ≠ .deadman →
      ∃ u : State, exec (.debounceExpiry i) s = .next u ∧
      u = { s with safety := { s.safety with inputs := u.safety.inputs }, uport := u.uport } ∧
      (∀ x, x ≠ i → u.input x = s.input x) ∧ u.input i = { s.input i with level := true, timer := none } ∧
      u.uport = (s.raise (.permissiveChange i true (s.input i).chatter)).uport) ∧
    ((s.input i).timer.isSome = true → (s.input i).pin = false → ∃ u : State, exec (.debounceExpiry i) s = .next u ∧
      u = { s with safety := { s.safety with inputs := u.safety.inputs } } ∧ (∀ x, x ≠ i → u.input x = s.input x) ∧
      u.input i = { s.input i with timer := none, chatter := min 65535 ((s.input i).chatter + 1) }) ∧
    ((s.input i).timer = none → exec (.debounceExpiry i) s = .next s)

/-- R28, R34, R35, R36: the deadman's release, press, warning and expiry. A press that finds the timer running also
clears an expired flag (the model's choice, log 19); an expiry commanded while the timer is stopped has no effect (the
model's choice, log 20). -/
def Obligations.DeadmanTimer : Prop :=
  ∀ s : State, s.live = true →
    (∃ u : State, exec .deadmanRelease s = .next u ∧ u = { s with safety := { s.safety with inputs := u.safety.inputs } } ∧
      (∀ x, x ≠ .deadman → u.input x = s.input x) ∧
      u.input .deadman = { s.input .deadman with pin := false, level := false }) ∧
    ((s.input .deadman).timer.isSome = true → (s.input .deadman).pin = true →
      ∃ u : State, exec (.debounceExpiry .deadman) s = .next u ∧ u = { s with safety := u.safety } ∧
        (∀ x, x ≠ .deadman → u.input x = s.input x) ∧
        u.input .deadman = { s.input .deadman with level := true, timer := none } ∧ u.safety.faults = s.safety.faults ∧
        u.safety.deadman.presses = min 65535 (s.safety.deadman.presses + 1) ∧
        (s.safety.deadman.timer.isSome = true → u.safety.deadman.timer = s.deadmanRestart ∧
          u.safety.deadman.warned = false ∧ u.safety.deadman.warn = false ∧ u.safety.deadman.expired = false) ∧
        (s.safety.deadman.timer = none → s.safety.deadman.expired = true → u.safety.deadman.timer = none ∧
          u.safety.deadman.warn = false ∧ u.safety.deadman.expired = false) ∧
        (s.safety.deadman.timer = none → s.safety.deadman.expired = false →
          u.safety.deadman = { s.safety.deadman with presses := u.safety.deadman.presses })) ∧
    (s.safety.deadman.timer.isSome = true → s.safety.deadman.warned = false →
      exec .deadmanWarning s = .next (({ s with safety := { s.safety with
        deadman := { s.safety.deadman with warned := true, warn := true } } } : State).raise (.deadmanWarning 15))) ∧
    (s.safety.deadman.timer = none ∨ s.safety.deadman.warned = true → exec .deadmanWarning s = .next s) ∧
    (s.safety.deadman.timer.isSome = true → ∃ u : State, exec .deadmanExpiry s = .next u ∧
      u.safety = { s.safety with
        deadman := { s.safety.deadman with timer := none, warned := false, expired := true } } ∧
      (∀ k, u.arm k = s.armSuspended k .deadman) ∧ u.session.record = s.session.record ∧ u.tables = s.tables ∧
      u.custody = s.custody ∧ u.meters = s.meters ∧ u.volumes = s.volumes ∧ u.additive = s.additive ∧
      u.dport = s.dport) ∧
    (s.safety.deadman.timer = none → exec .deadmanExpiry s = .next s)

/-! ### Meter channels and volume (chapters 3 and 4) -/

/-- R48, R53 and, in the clauses of an excess reverse pulse, R54: the edges of a running channel. R47: a stopped channel
counts no edge, and a falling edge only updates the seen level; that the seen level follows the pin on a stopped channel
too is log 24 (DEDUCED). -/
def Obligations.MeterEdges : Prop :=
  (∀ (s : State) (k : Fin 4), s.live = true → (s.meter k).running = true →
    ((s.meter k).seenB = false → ∃ u : State, exec (.meterAEdge k) s = .next u ∧ u = { s with meters := u.meters } ∧
      (∀ j, j ≠ k → u.meter j = s.meter j) ∧
      u.meter k = { s.meter k with
        seenA := true, aCount := (s.meter k).aCount + 1, excess := false
        debt := if 0 < (s.meter k).debt then (s.meter k).debt - 1 else (s.meter k).debt
        n := if 0 < (s.meter k).debt then (s.meter k).n else (s.meter k).n + 1 }) ∧
    ((s.meter k).seenB = true → (s.meter k).debt < s.bay.reverseAllowance →
      ∃ u : State, exec (.meterAEdge k) s = .next u ∧ u = { s with meters := u.meters } ∧
      (∀ j, j ≠ k → u.meter j = s.meter j) ∧
      u.meter k = { s.meter k with
        seenA := true, aCount := (s.meter k).aCount + 1, debt := (s.meter k).debt + 1
        reverses := min 65535 ((s.meter k).reverses + 1) }) ∧
    ((s.meter k).seenB = true → s.bay.reverseAllowance ≤ (s.meter k).debt → ∃ u : State, exec (.meterAEdge k) s = .next u ∧
      (∀ j, j ≠ k → u.meter j = s.meter j) ∧
      u.meter k = { s.meter k with
        seenA := true, aCount := (s.meter k).aCount + 1, excess := true
        reverses := min 65535 ((s.meter k).reverses + 1) } ∧
      ((s.meter k).excess = true → u = { s with meters := u.meters }) ∧
      ((s.meter k).excess = false → (u.fault .meterReverse).count = min 255 ((s.fault .meterReverse).count + 1) ∧
        (u.fault .meterReverse).lastTime = some s.custody.clock ∧ (u.fault .meterReverse).armsNamed.getLsbD k.val = true)) ∧
    (∃ u : State, exec (.meterBEdge k) s = .next u ∧ u = { s with meters := u.meters } ∧
      (∀ j, j ≠ k → u.meter j = s.meter j) ∧
      u.meter k = { s.meter k with seenB := true, bCount := (s.meter k).bCount + 1 })) ∧
  (∀ (s : State) (k : Fin 4), s.live = true →
    ((s.meter k).running = false →
      (∃ u : State, exec (.meterAEdge k) s = .next u ∧ u = { s with meters := u.meters } ∧
        (∀ j, j ≠ k → u.meter j = s.meter j) ∧ u.meter k = { s.meter k with seenA := true }) ∧
      (∃ u : State, exec (.meterBEdge k) s = .next u ∧ u = { s with meters := u.meters } ∧
        (∀ j, j ≠ k → u.meter j = s.meter j) ∧ u.meter k = { s.meter k with seenB := true }) ∧
      exec (.gateWindowClose k) s = .next s) ∧
    (∃ u : State, exec (.meterFallingEdge k .a) s = .next u ∧ u = { s with meters := u.meters } ∧
      (∀ j, j ≠ k → u.meter j = s.meter j) ∧ u.meter k = { s.meter k with seenA := false }) ∧
    (∃ u : State, exec (.meterFallingEdge k .b) s = .next u ∧ u = { s with meters := u.meters } ∧
      (∀ j, j ≠ k → u.meter j = s.meter j) ∧ u.meter k = { s.meter k with seenB := false }))

/-- R40, R51, R52, R55 to R58, R66, R67, R70, R73, R76, R108: a window close of a running channel. Its discrepancy
joins the last eight, which raise METER_PULSE above their limit and are then forgotten. The gross increment is added
once to the arm's gross totalizer and once to the running batch, whose gross, standard, remainders and flags are those
of `windowed`, or to the unauthorised-flow accumulator, which raises UNAUTH_FLOW above its limit once until it is
cleared. With both classes under REPORT, nothing else changes on an arm without a running batch. METER_PULSE under
STOP_ARM stops a flowing or suspended arm before the increment is credited (R40): R51 leaves that order open, and it is
the model's choice (log 65). A batch whose STOPPING ends at this close is `FlowExamined`. A batch without K5 is
credited with K5 0 (the model's choice, log 57). -/
def Obligations.GateWindowClose : Prop :=
  ∀ (s : State) (k : Fin 4), s.live = true → (s.meter k).running = true →
    ∃ u : State, exec (.gateWindowClose k) s = .next u ∧
      (u.meter k).lastN = (s.meter k).n ∧ (u.meter k).lastA = (s.meter k).aCount ∧
      (u.meter k).lastB = (s.meter k).bCount ∧ (u.meter k).q = (s.meter k).n * 240000 / (s.meter k).ppl ∧
      (u.meter k).n = 0 ∧ (u.meter k).aCount = 0 ∧ (u.meter k).bCount = 0 ∧
      (u.meter k).window = some (s.now + 250) ∧ (u.meter k).debt = (s.meter k).debt ∧
      (u.meter k).reverses = (s.meter k).reverses ∧
      (u.meter k).discrepancies =
        min 65535 ((s.meter k).discrepancies + absDiff (s.meter k).aCount (s.meter k).bCount) ∧
      (u.meter k).history = (if s.pulses k then []
        else keepLast 8 ((s.meter k).history ++ [absDiff (s.meter k).aCount (s.meter k).bCount])) ∧
      (u.meter k).unauthFlag = ((s.meter k).unauthFlag || s.leaks k (u.meter k).unauth) ∧
      u.fault .meterPulse = (if s.pulses k then s.struck .meterPulse (some k) (s.response .meterPulse none) false
        else s.fault .meterPulse) ∧
      u.fault .unauthFlow = (if s.leaks k (u.meter k).unauth
        then s.struck .unauthFlow (some k) (s.response .unauthFlow none) false else s.fault .unauthFlow) ∧
      (∀ j, j ≠ k → u.meter j = s.meter j) ∧
      (u.vol k).factor = meterFactor (s.vol k).curve ((s.meter k).n * 240000 / (s.meter k).ppl) ∧
      ((s.arm k).state.running = false →
        Vec.get u.custody.gross k = (Vec.get s.custody.gross k).credit (s.leaked k).1 ∧
        (u.vol k).unauthRem = (s.leaked k).2 ∧ (u.meter k).unauth = s.leakedSum k ∧
        u.custody.standard = s.custody.standard ∧
        (s.reported k (s.leakedSum k) →
          u = { s with
            meters := u.meters, volumes := u.volumes, custody := u.custody, uport := u.uport
            safety := { s.safety with faults := u.safety.faults } } ∧
          u.custody = { s.custody with gross := u.custody.gross } ∧ (∀ j, j ≠ k → u.vol j = s.vol j) ∧
          (∀ c, u.fault c = s.windowFault k (s.leakedSum k) c) ∧
          u.uport = (s.windowReport k (s.leakedSum k)).uport) ∧
        (s.pulses k = false → s.leaks k (s.leakedSum k) = true → ∃ w : State,
          w = { s with meters := u.meters, volumes := u.volumes, custody := { s.custody with gross := u.custody.gross } } ∧
          u = w.raiseFault .unauthFlow (some k) .none false none)) ∧
      (∀ b, s.pulses k = true → s.response .meterPulse none = .stopArm → (s.arm k).batch = some b → b.doses = [] →
        s.leaks k (s.meter k).unauth = false → ((s.arm k).state.flowing = true ∨ (s.arm k).state = .suspended) →
        (∀ j, j ≠ k → u.arm j = s.arm j) ∧ u.arm k = { s.arm k with
          state := .stopping, zeroCloses := if (s.meter k).n = 0 then 1 else 0
          stopTimer := some (s.now + (s.armEntry k).stopTimeout * 1000)
          batch := some { s.windowed k b with endReason := some .fault, atStopping := some b.delivered } }) ∧
      (∀ b, (s.arm k).state.running = true → (s.arm k).batch = some b →
        Vec.get u.custody.gross k =
          (Vec.get s.custody.gross k).credit ((s.windowed k b).gross - b.gross) ∧
        Vec.get u.custody.standard k =
          (Vec.get s.custody.standard k).credit ((s.windowed k b).standard - b.standard) ∧
        (u.vol k).unauthRem = (s.vol k).unauthRem ∧ (u.meter k).unauth = (s.meter k).unauth ∧
        ((s.arm k).state ≠ .stopping ∨ 0 < (s.meter k).n ∨ (s.arm k).zeroCloses = 0 →
          ∃ x, (u.arm k).batch = some x ∧ x.gross = (s.windowed k b).gross ∧ x.rg = (s.windowed k b).rg ∧
            x.standard = (s.windowed k b).standard ∧ x.rs = (s.windowed k b).rs ∧
            x.weight = (s.windowed k b).weight ∧ x.flags.tempHeld = (s.windowed k b).flags.tempHeld ∧
            x.flags.tempClamped = (s.windowed k b).flags.tempClamped ∧
            x.flags.meterFault = (s.windowed k b).flags.meterFault ∧ x.preset = b.preset ∧ x.k5 = b.k5)) ∧
      (∀ j, j ≠ k → Vec.get u.custody.gross j = Vec.get s.custody.gross j ∧
        Vec.get u.custody.standard j = Vec.get s.custody.standard j)

/-- R70, R72, R73, R76: the batch path of a window's credit, before the examination; a batch without K5 is credited with
K5 0 (the model's choice, log 57). R119, R120: a window whose increment is 0 makes no demand, and changes nothing of the
doses, the injectors or the faults; after another every due point that the gross has reached has made one demand; and
what one demand does. -/
def Obligations.BatchCredited : Prop :=
  (∀ (s : State) (k : Fin 4) (b : Batch) (f : Nat), (s.arm k).batch = some b → (s.arm k).state.running = true →
    ∃ x, ((s.creditBatch k b f).arm k).batch = some x ∧
      x.gross = b.gross + ((s.meter k).lastN * f * 10 + b.rg) / (s.meter k).ppl ∧
      x.rg = ((s.meter k).lastN * f * 10 + b.rg) % (s.meter k).ppl ∧
      x.standard = b.standard + ((x.gross - b.gross) * b.k5.getD 0 + b.rs) / 100000 ∧
      x.rs = ((x.gross - b.gross) * b.k5.getD 0 + b.rs) % 100000 ∧
      x.weight = b.weight + (s.vol k).temp.t * ((x.gross - b.gross : Nat) : Int) ∧
      x.flags.tempHeld = (b.flags.tempHeld || (s.vol k).temp.state == .stale) ∧
      x.preset = b.preset ∧ x.k5 = b.k5 ∧ x.compartment = b.compartment ∧ x.totalStart = b.totalStart ∧
      Vec.get (s.creditBatch k b f).custody.standard k =
        (Vec.get s.custody.standard k).credit (x.standard - b.standard) ∧
      (noneDue b x.gross → x.doses = b.doses ∧ x.flags.doseFault = b.flags.doseFault ∧
        (s.creditBatch k b f).additive = s.additive ∧ (s.creditBatch k b f).safety = s.safety) ∧
      (∀ (i : Nat) (d : DoseRec), b.gross < x.gross → b.doses[i]? = some d → d.claimLost = false → 0 < d.interval →
        ∃ (y : DoseRec) (m : Nat), x.doses[i]? = some y ∧ y.nextDue = d.nextDue + m * d.interval ∧ y.interval = d.interval ∧
          x.gross < y.nextDue ∧ (m = 0 ∨ y.nextDue ≤ x.gross + d.interval))) ∧
  (∀ (s : State) (k : Fin 4) (i : Nat) (d : DoseRec), s.dose k i = some d →
    ((s.arm k).state = .stopping ∨ (s.inj d.injector).state = .injecting ∧ d.owed < 2 →
      s.redosed (s.demand k i) k i { d with
        nextDue := d.nextDue + d.interval, owed := if d.owed < 2 then d.owed + 1 else d.owed } ∧
      s.demand k i = { s with arms := (s.demand k i).arms }) ∧
    ((s.arm k).state ≠ .stopping → (s.inj d.injector).state = .claimedIdle →
      s.redosed (s.demand k i) k i { d with nextDue := d.nextDue + d.interval } ∧
      s.demand k i = { s with arms := (s.demand k i).arms, additive := (s.demand k i).additive } ∧
      (s.demand k i).additive.waiting = s.additive.waiting ∧
      (∀ j, j ≠ d.injector → (s.demand k i).inj j = s.inj j) ∧
      (s.demand k i).inj d.injector = { s.inj d.injector with
        state := .injecting, timer := some (s.now + d.timeoutMs), measured := 0, open_ := true, windowOpen := true
        windowTimer := none, stroke := d.stroke, ppl := d.ppl, owner := some (k, i) }) ∧
    ((s.arm k).state ≠ .stopping → (s.inj d.injector).state = .injecting → 2 ≤ d.owed → d.overflow = true →
      s.redosed (s.demand k i) k i { d with nextDue := d.nextDue + d.interval } ∧
      s.demand k i = { s with arms := (s.demand k i).arms }) ∧
    ((s.arm k).state ≠ .stopping → (s.inj d.injector).state = .injecting → 2 ≤ d.owed → d.overflow = false →
      ∃ v : State, s.demand k i = v.raiseDose k d ∧ v = { s with arms := v.arms } ∧
        s.redosed v k i { d with nextDue := d.nextDue + d.interval, overflow := true }))

/-- R94 to R97, R99, R104 to R106, R23, with R55, R58 and R120 before them: the examination of a window in each state
of a running arm, METER_PULSE, UNAUTH_FLOW and the faults of the batch's doses being taken under REPORT: in a flow
state the stop tests, then the flow transitions, then the no-flow time; in SUSPENDED and STOPPING the consecutive zero
closes and the stop timer; and the end of STOPPING with its observed overrun, whose end of the batch is spelled for a
batch without dose records and closes an aborted session once every arm is IDLE. A dose's demands change its next due
point, its owed count and its overflow mark alone; a window that makes none leaves the doses, the injectors and DOSE as
they stand, and so does one after which the doses stand, their intervals above 0 (`QueueBoundsKept`). Byte 31 of a note takes the bay parameters as they stand at the
write (log 16), and the counter passes the number of the record even where R188 rewrote it (logs 43 and 78). A batch without K5
is credited with K5 0 (the model's choice, log 57), BATCH_ENDED carries the line's flags (the model's choice, log 58),
and a batch without dose records ends without a scan, so that every other arm stays as it stands (log 23, DEDUCED). Of
a reserved volume below the preset that leaves it 0 is left (log 63), a batch without an end reason ends with FAULT
(log 66), and the overrun is 0 where delivered at stopping is absent or above delivered (log 67): the model's choices
for a record rewritten as read. -/
def Obligations.FlowExamined : Prop :=
  ∀ (s : State) (k : Fin 4) (b : Batch), s.live = true → s.canonical = true → (s.meter k).running = true →
    s.reported k (s.meter k).unauth → (∀ d ∈ b.doses, s.response .dose (some d.action) = .report) →
    (s.arm k).state.running = true → (s.arm k).batch = some b → 0 < (s.armEntry k).noFlowTimeout →
    ∃ (u : State) (ds : List DoseRec) (df : Bool),
    let x := { s.windowed k b with doses := ds, flags := { (s.windowed k b).flags with doseFault := df } }
    let v := s.setArm k { s.arm k with batch := some x }
    let w := s.windowReport k (s.meter k).unauth
    let n := (s.meter k).n
    let ahead := predicted (s.arm k).history (s.armEntry k).maxOverrun
    exec (.gateWindowClose k) s = .next u ∧ ds.map DoseRec.undemanded = b.doses.map DoseRec.undemanded ∧
    (b.flags.doseFault = true → df = true) ∧
    (noneDue b x.gross → ds = b.doses ∧ df = b.flags.doseFault) ∧
    ((s.arm k).state = .suspended ∨ (s.arm k).state.flowing = true →
      (∀ j, j ≠ k → u.arm j = s.arm j) ∧ u.tables = s.tables ∧ u.session.record = s.session.record ∧
      (∀ c, c ≠ .dose → u.fault c = s.windowFault k (s.meter k).unauth c) ∧ u.dport = s.dport ∧
      u.additive.waiting = s.additive.waiting ∧
      (noneDue b x.gross ∨ (∀ d ∈ b.doses, 0 < d.interval) ∧ ds = b.doses →
        u.additive = s.additive ∧ u.fault .dose = s.fault .dose)) ∧
    ((s.arm k).state.flowing = true →
      (b.preset * 1000 ≤ x.delivered + ahead → u.arm k = v.stopped k .complete) ∧
      (x.delivered + ahead < b.preset * 1000 → s.capacity b * 1000 ≤ x.gross → u.arm k = v.stopped k .capacity) ∧
      (x.delivered + ahead < b.preset * 1000 → x.gross < s.capacity b * 1000 →
        ((s.arm k).state ≠ .slowdown → b.preset * 1000 ≤ x.delivered + (s.armEntry k).slowdown * 1000 →
          u.arm k = { v.arm k with state := .slowdown }) ∧
        ((s.arm k).state = .lowStart → x.delivered + (s.armEntry k).slowdown * 1000 < b.preset * 1000 →
          (s.armEntry k).lowStart * 1000 ≤ x.delivered → u.arm k = { v.arm k with state := .full }) ∧
        ((s.arm k).state = .slowdown ∨ x.delivered + (s.armEntry k).slowdown * 1000 < b.preset * 1000 ∧
            ((s.arm k).state = .full ∨ x.delivered < (s.armEntry k).lowStart * 1000) →
          (0 < n → u.arm k = { v.arm k with noFlow := 0 }) ∧
          (n = 0 → (s.arm k).noFlow + 250 < (s.armEntry k).noFlowTimeout * 1000 →
            u.arm k = { v.arm k with noFlow := (s.arm k).noFlow + 250 }) ∧
          (n = 0 → (s.armEntry k).noFlowTimeout * 1000 ≤ (s.arm k).noFlow + 250 →
            u.arm k = { v.suspended k .noFlow with noFlow := (s.arm k).noFlow + 250 })))) ∧
    ((s.arm k).state = .suspended →
      (n = 0 → u.arm k = { v.arm k with
        zeroCloses := (s.arm k).zeroCloses + 1
        stopTimer := if 1 ≤ (s.arm k).zeroCloses then none else (s.arm k).stopTimer }) ∧
      (0 < n → u.arm k = { v.arm k with
        zeroCloses := 0
        stopTimer := if (s.arm k).stopTimer.isSome then (s.arm k).stopTimer
          else some (s.now + (s.armEntry k).stopTimeout * 1000) })) ∧
    ((s.arm k).state = .stopping → 0 < n → u.arm k = { v.arm k with zeroCloses := 0 }) ∧
    ((s.arm k).state = .stopping → n = 0 → (s.arm k).zeroCloses = 0 → u.arm k = { v.arm k with zeroCloses := 1 }) ∧
    ((s.arm k).state = .stopping → n = 0 → 1 ≤ (s.arm k).zeroCloses →
      let o := x.delivered - b.atStopping.getD x.delivered
      o ≤ (s.armEntry k).maxOverrun * 1000 → ∃ y : State, u = (y.batchEnd k (b.endReason.getD .fault) false).closeIfDone ∧
        y = { s with
          meters := y.meters, volumes := y.volumes, custody := y.custody, arms := y.arms, uport := w.uport
          safety := { s.safety with faults := y.safety.faults } } ∧
        (∀ c, y.fault c = s.windowFault k (s.meter k).unauth c) ∧ (∀ j, j ≠ k → y.arm j = s.arm j) ∧
        y.arm k = { s.arm k with
          batch := some { x with overrun := some o }
          stopTimer := none, zeroCloses := (s.arm k).zeroCloses + 1
          history := if b.endReason = some .complete ∧ b.basis = s.bay.basis
            then keepLast 4 ((s.arm k).history ++ [o]) else (s.arm k).history }) ∧
    ((s.arm k).state = .stopping → n = 0 → 1 ≤ (s.arm k).zeroCloses → b.doses = [] →
      let o := x.delivered - b.atStopping.getD x.delivered
      let l := batchLine k { x with overrun := some o } (b.endReason.getD .fault)
        ((Vec.get s.custody.gross k).credit (x.gross - b.gross))
      u.arm k = { s.arm k with
        state := .idle, batch := none, stopTimer := none, zeroCloses := 0
        history := if b.endReason = some .complete ∧ b.basis = s.bay.basis
          then keepLast 4 ((s.arm k).history ++ [o]) else (s.arm k).history } ∧
      (∀ c, c ≠ .overrun → u.fault c = s.windowFault k (s.meter k).unauth c) ∧
      ((s.armEntry k).maxOverrun * 1000 < o →
        (u.fault .overrun).count = min 255 ((s.fault .overrun).count + 1) ∧
        (u.fault .overrun).armsNamed = joinArm (s.fault .overrun).armsNamed k) ∧
      (o ≤ (s.armEntry k).maxOverrun * 1000 → u.fault .overrun = s.fault .overrun ∧
        (∀ j, j ≠ k → u.arm j = s.arm j) ∧
        (∀ r, s.session.record = some r → r.closing = none →
          u.session.record = some { r with
            reserved := r.reserved - b.preset, claims := Vec.set r.claims b.compartment none, lines := r.lines ++ [l]
            delivered := if r.source = .server then r.delivered + litres x.delivered else r.delivered } ∧
          u.uport = (w.raise (.batchEnded k b.compartment b.code l.endReason l.grossL l.standardL l.flags
            (some o))).uport) ∧
        (∀ r c, s.session.record = some r → r.closing = some c → (∀ j, j ≠ k → (s.arm j).state = .idle) →
          u.session.record = none ∧ s.noted u { r with lines := r.lines ++ [l] } c ∧
          u.uport = (((w.raise (.batchEnded k b.compartment b.code l.endReason l.grossL l.standardL l.flags
            (some o))).raise (.noteReady r.number c (r.lines.length + 1)
              ((r.lines ++ [l]).filter fun y => anyFlag y.flags).length s.custody.places.length)).raise
                (.sessionClosed r.number c (r.lines.length + 1))).uport) ∧
        (∀ r c j, s.session.record = some r → r.closing = some c → j ≠ k → (s.arm j).state ≠ .idle →
          (u.session.record.bind Session.closing) = some c)))

/-- R66: the meter factor is that of the first point at or below it, of the last at or above it, an inner point's at
that point, and never leaves the range of the curve's points. R75: with T clamped, the reference at 1,500 or 2,000 and
α within its range, every correction factor lies in 89,968 to 113,152. -/
def Obligations.FactorBounds : Prop :=
  (∀ (a : CurvePoint) (l : List CurvePoint) (q : Nat), ((a :: l).map CurvePoint.q).Pairwise (· < ·) →
    ∃ f, meterFactor (a :: l) q = some f ∧
      (q ≤ a.q → f = a.f) ∧ (((a :: l).getLast?.map CurvePoint.q).getD 0 ≤ q →
        some f = (a :: l).getLast?.map CurvePoint.f) ∧
      (∀ p ∈ a :: l, p.q = q → f = p.f) ∧
      (∀ lo hi : Nat, (∀ p ∈ a :: l, lo ≤ p.f ∧ p.f ≤ hi) → lo ≤ f ∧ f ≤ hi)) ∧
  (∀ (t : Int) (tRef alpha : Nat), -4000 ≤ t → t ≤ 7000 → (tRef = 1500 ∨ tRef = 2000) → alpha ≤ 20000 →
    89968 ≤ correction t tRef alpha ∧ correction t tRef alpha ≤ 113152)

/-- R68, R69, R75: a TEMP record from the station an arm names. -/
def Obligations.TempSample : Prop :=
  ∀ (s : State) (a : Byte) (t : BitVec 16) (i : Fin 12) (k : Fin 4), s.live = true → s.holds a i .tempXmtr →
    (s.device i).arm = some k →
    ((s.armEntry k).station = some i → ∃ u : State, exec (.temp a t 0) s = .next (s.copied u i a .tempXmtr (tempRecord t 0)) ∧
      u = { s with volumes := u.volumes } ∧ (∀ j, j ≠ k → u.vol j = s.vol j) ∧
      u.vol k = { s.vol k with badSamples := min 65535 ((s.vol k).badSamples + 1) }) ∧
    ((s.armEntry k).station = some i → ∃ u : State, exec (.temp a t 1) s = .next (s.copied u i a .tempXmtr (tempRecord t 1)) ∧
      u = { s with volumes := u.volumes, arms := u.arms } ∧ (∀ j, j ≠ k → u.vol j = s.vol j ∧ u.arm j = s.arm j) ∧
      u.vol k = { s.vol k with
        temp := ⟨.fresh, max (-4000) (min 7000 t.toInt), decide (t.toInt < -4000 ∨ 7000 < t.toInt), s.now,
          !(s.meter k).running⟩
        staleTimer := some (s.now + 10000), lostTimer := none
        clamps := if t.toInt < -4000 ∨ 7000 < t.toInt then min 65535 ((s.vol k).clamps + 1) else (s.vol k).clamps
        overruns := if (s.vol k).temp.state ≠ .absent ∧ (s.vol k).temp.processed = false
          then min 65535 ((s.vol k).overruns + 1) else (s.vol k).overruns } ∧
      u.arm k = { s.arm k with batch := (s.arm k).batch.map fun b =>
        { b with k5 := some (correction (u.vol k).temp.t b.tRef b.alpha) } }) ∧
    ((s.armEntry k).station ≠ some i → ∀ q : Byte, q.toNat ≤ 1 →
      exec (.temp a t q) s = .next (s.copied s i a .tempXmtr (tempRecord t q)))

/-- R70, R71: staleness and the lost timer. The fault TEMP_LOST is taken here under the response REPORT. An expiry
commanded while its timer is stopped has no effect (the model's choice, log 20). -/
def Obligations.TempTimers : Prop :=
  ∀ (s : State) (k : Fin 4), s.live = true →
    ((s.vol k).staleTimer.isSome = true → ∃ u : State, exec (.stalenessExpiry k) s = .next u ∧
      u = { s with volumes := u.volumes, uport := u.uport } ∧ (∀ j, j ≠ k → u.vol j = s.vol j) ∧
      u.vol k = { s.vol k with
        temp := { (s.vol k).temp with state := .stale }, staleTimer := none
        lostTimer := if (s.arm k).state.running then some (s.now + 60000) else none } ∧
      u.uport = (s.raise (.tempStale k (s.vol k).temp.t (s.arm k).state.running)).uport) ∧
    ((s.vol k).staleTimer = none → exec (.stalenessExpiry k) s = .next s) ∧
    ((s.vol k).lostTimer.isSome = true → (s.policy .tempLost).mode = .report →
      ∃ u : State, exec (.lostTimerExpiry k) s = .next u ∧
      u = { s with volumes := u.volumes, safety := u.safety, uport := u.uport } ∧
      (∀ j, j ≠ k → u.vol j = s.vol j) ∧ u.vol k = { s.vol k with lostTimer := none } ∧
      u.safety = { s.safety with faults := u.safety.faults } ∧ (∀ c, c ≠ .tempLost → u.fault c = s.fault c) ∧
      (u.fault .tempLost).count = min 255 ((s.fault .tempLost).count + 1) ∧
      (u.fault .tempLost).armsNamed = joinArm (s.fault .tempLost).armsNamed k ∧
      (u.fault .tempLost).latch = (s.fault .tempLost).latch) ∧
    ((s.vol k).lostTimer = none → exec (.lostTimerExpiry k) s = .next s)

/-! ### Batches (chapter 5) -/

/-- R86, R87, R89: BATCH_SETUP and the keypad's SETUP, taken or refused by the checks of R87, then each of those checks in
its order, the first that fails giving the refusal: the arm, the bay, the session's lines; the compartment, the product,
the compatibility, the preset; the product and its permission, the remaining quota of R18, the verdict of R5. A KEY
record's fields are tested before these checks (the model's choice, log 40). -/
def Obligations.BatchSetup : Prop :=
  (∀ (s : State) (tag : Byte) (p : List Byte), s.hearing = true → p.length = 7 →
    (setupFields p = none ∨ 4 ≤ field p 0 1 →
      exec (.batchSetup tag p) s = .next (s.linkFrame.reply 0x07 tag (deny .badValue))) ∧
    (∀ f k, setupFields p = some f → finOf 4 (field p 0 1) = some k →
      (∀ e, s.setupCheck k f = .error e → exec (.batchSetup tag p) s =
        .next (s.linkFrame.reply 0x07 tag ⟨.refused, batchReasonCode e, []⟩)) ∧
      (∀ pl, s.setupCheck k f = .ok pl → ∃ u : State, exec (.batchSetup tag p) s = .next (u.reply 0x07 tag
          (accept 0 (be 3 pl.preset ++ be 1 (bit (pl.preset < f.preset))))) ∧
        s.linkFrame.setsUp u k f .server pl))) ∧
  (∀ (s : State) (a arm c g r : Byte) (v : BitVec 24) (i : Fin 12), s.live = true → s.holds a i .keypad →
    v.toNat ≤ 999999 →
    (4 ≤ arm.toNat → exec (.keySetup a arm c g v r) s = .next (s.copied
      ((s.raise (.batchRefused arm.toNat .setup (.keypad a) .armDisabled)).tellKeypad a (.refused arm .armDisabled))
      i a .keypad (keyRecord .setup arm c g v r))) ∧
    (∀ e, arm.toNat < 4 → keySetupFields c g v r = .error e → exec (.keySetup a arm c g v r) s = .next (s.copied
      ((s.raise (.batchRefused arm.toNat .setup (.keypad a) e)).tellKeypad a (.refused arm e))
      i a .keypad (keyRecord .setup arm c g v r))) ∧
    (∀ f k, finOf 4 arm.toNat = some k → keySetupFields c g v r = .ok f →
      (∀ e, s.setupCheck k f = .error e → exec (.keySetup a arm c g v r) s = .next (s.copied
        ((s.raise (.batchRefused arm.toNat .setup (.keypad a) e)).tellKeypad a (.refused arm e))
        i a .keypad (keyRecord .setup arm c g v r))) ∧
      (∀ pl, s.setupCheck k f = .ok pl → ∃ u : State, exec (.keySetup a arm c g v r) s = .next (s.copied
          (u.tellKeypad a (.setupAccepted arm pl.preset (pl.preset < f.preset)))
          i a .keypad (keyRecord .setup arm c g v r)) ∧ s.setsUp u k f (.keypad a) pl))) ∧
  (∀ (s : State) (k : Fin 4) (f : SetupFields),
    ((s.arm k).state ≠ .idle → s.setupCheck k f = .error .armBusy) ∧
    ((s.arm k).state = .idle →
      (s.bayState ≠ .session → s.setupCheck k f = .error .noSession) ∧
      (∀ r, s.session.record = some r → r.closing = none →
        ((s.armEntry k).enabled = false → s.setupCheck k f = .error .armDisabled) ∧
        ((s.armEntry k).enabled = true → s.armLatched k = true → s.setupCheck k f = .error .armFaulted) ∧
        ((s.armEntry k).enabled = true → s.armLatched k = false →
          (16 ≤ r.lines.length + (armIxs.filter fun j => j != k && (s.arm j).state != .idle).length →
            s.setupCheck k f = .error .batchLimit) ∧
          (r.lines.length + (armIxs.filter fun j => j != k && (s.arm j).state != .idle).length < 16 →
            s.setupCheck k f = s.setupPlan k r f))))) ∧
  (∀ (s : State) (k : Fin 4) (r : Session) (f : SetupFields),
    ((s.vehicle r.vehicle).compartments[f.compartment.val]? = none →
      s.setupPlan k r f = .error .compartmentUnknown) ∧
    (∀ c, (s.vehicle r.vehicle).compartments[f.compartment.val]? = some c →
      ((Vec.get r.claims f.compartment).isSome = true → s.setupPlan k r f = .error .compartmentClaimed) ∧
      (Vec.get r.claims f.compartment = none →
        (∀ e, s.productOf k r f.product = .error e → s.setupPlan k r f = .error e) ∧
        (∀ p, s.productOf k r f.product = .ok p →
          (s.compatible c.last p = false → s.setupPlan k r f = .error .incompatibleLastProduct) ∧
          (s.compatible c.last p = true →
            (∀ e, presetRule f.preset c.capacity s.bay.minBatch s.bay.maxBatch (s.remainingQuota r) = .error e →
              s.setupPlan k r f = .error e) ∧
            (∀ n, presetRule f.preset c.capacity s.bay.minBatch s.bay.maxBatch (s.remainingQuota r) = .ok n →
              s.setupPlan k r f = .ok ⟨p, n⟩)))))) ∧
  (∀ (s : State) (k : Fin 4) (r : Session),
    (∀ p : Fin 16,
      ((s.armEntry k).products.getLsbD p.val = false ∨ (s.product p).code = 0 →
        s.productOf k r (some p) = .error .productNotOnArm) ∧
      ((s.armEntry k).products.getLsbD p.val = true → (s.product p).code ≠ 0 →
        s.productOf k r (some p) =
          if (s.permittedProducts r).getLsbD p.val then .ok p else .error .productNotPermitted) ∧
      ((∀ q : Fin 16, (s.armEntry k).products.getLsbD q.val = true ↔ q = p) →
        s.productOf k r none = s.productOf k r (some p))) ∧
    ((¬∃ p : Fin 16, ∀ q : Fin 16, (s.armEntry k).products.getLsbD q.val = true ↔ q = p) →
      s.productOf k r none = .error .productNotOnArm) ∧
    (r.source = .server → s.permittedProducts r = r.products ∧
      s.remainingQuota r = if r.quota = 0 then none else some ((r.quota : Int) - r.delivered - r.reserved)) ∧
    (∀ i, r.source = .local_ → r.permit = some i → s.permittedProducts r = (s.permit i).products ∧
      s.remainingQuota r = if (s.permit i).dailyQuota = 0 then none
        else some (((s.permit i).dailyQuota : Int) - (s.permit i).usedToday - r.reserved)) ∧
    (∀ p, s.compatible none p = s.bay.unknownAllowed) ∧
    (∀ l p, s.tables.compat.damaged = false →
      s.compatible (some l) p = (Vec.get s.tables.compat.entry l).getLsbD p.val))

/-- R90 to R92, R115 to R117, R119: BATCH_START and the keypad's START: refused, waiting for injectors, or flowing with
the injectors of its recipe claimed; then the start conditions in their order, and the evaluation of a recipe, its first
dose that fails giving the reason. -/
def Obligations.BatchStart : Prop :=
  ∀ (s : State) (k : Fin 4), s.live = true →
    (∀ tag b : Byte, s.hearing = true →
      (4 ≤ b.toNat → exec (.batchStart tag [b]) s = .next (s.linkFrame.reply 0x08 tag (deny .badValue))) ∧
      (b.toNat = k.val →
        ((s.arm k).state ≠ .ready →
          exec (.batchStart tag [b]) s = .next (s.linkFrame.reply 0x08 tag (deny .wrongState))) ∧
        (∀ x, (s.arm k).state = .ready → (s.arm k).batch = some x →
          (∀ e, s.startRefusal k = some e ∨ s.startRefusal k = none ∧ (s.evaluate k x.recipe = .refused e ∨
              s.evaluate k x.recipe = .wait ∧ 3 ≤ s.additive.waiting.length ∧ e = .recipeUnavailable) →
            exec (.batchStart tag [b]) s =
              .next (s.linkFrame.reply 0x08 tag ⟨.refused, batchReasonCode e, []⟩)) ∧
          (s.startRefusal k = none → s.evaluate k x.recipe = .wait → s.additive.waiting.length < 3 →
            ∃ u : State, exec (.batchStart tag [b]) s = .next (u.reply 0x08 tag (accept 2 [])) ∧
              s.linkFrame.waits u k x .server) ∧
          (s.startRefusal k = none → s.evaluate k x.recipe = .granted →
            ∃ u : State, exec (.batchStart tag [b]) s = .next (u.reply 0x08 tag (accept 1 [])) ∧
              s.linkFrame.flows u k x .server x.preset)))) ∧
    (∀ (a arm : Byte) (i : Fin 12), s.holds a i .keypad →
      (4 ≤ arm.toNat → exec (.keyStart a arm) s = .next (s.copied
        ((s.raise (.batchRefused arm.toNat .start (.keypad a) .armDisabled)).tellKeypad a (.refused arm .armDisabled))
        i a .keypad (keyRecord .start arm 0 0 0 0))) ∧
      (arm.toNat = k.val →
        ((s.arm k).state ≠ .ready → exec (.keyStart a arm) s =
          .next (s.copied (s.tellKeypad a (.notNow arm)) i a .keypad (keyRecord .start arm 0 0 0 0))) ∧
        (∀ x, (s.arm k).state = .ready → (s.arm k).batch = some x →
          (∀ e, s.startRefusal k = some e ∨ s.startRefusal k = none ∧ (s.evaluate k x.recipe = .refused e ∨
              s.evaluate k x.recipe = .wait ∧ 3 ≤ s.additive.waiting.length ∧ e = .recipeUnavailable) →
            exec (.keyStart a arm) s = .next (s.copied
              ((s.raise (.batchRefused arm.toNat .start (.keypad a) e)).tellKeypad a (.refused arm e))
              i a .keypad (keyRecord .start arm 0 0 0 0))) ∧
          (s.startRefusal k = none → s.evaluate k x.recipe = .wait → s.additive.waiting.length < 3 →
            ∃ u : State, exec (.keyStart a arm) s = .next (s.copied (u.tellKeypad a (.waiting arm))
                i a .keypad (keyRecord .start arm 0 0 0 0)) ∧ s.waits u k x (.keypad a)) ∧
          (s.startRefusal k = none → s.evaluate k x.recipe = .granted →
            ∃ u : State, exec (.keyStart a arm) s = .next (s.copied (u.tellKeypad a (.started arm))
                i a .keypad (keyRecord .start arm 0 0 0 0)) ∧ s.flows u k x (.keypad a) x.preset)))) ∧
    (s.armLatched k = true → s.startRefusal k = some .armFaulted) ∧
    (s.armLatched k = false →
      ((s.input .ground).level = false ∨ (s.input .overfill).level = false ∨ (s.input .estop).level = false →
        s.startRefusal k = some .permissiveOpen) ∧
      ((s.input .ground).level = true → (s.input .overfill).level = true → (s.input .estop).level = true →
        s.startRefusal k = if (s.vol k).temp.state = .fresh then none else some .tempMissing)) ∧
    (s.evaluate k none = .granted) ∧
    (∀ q : Fin 16,
      ((s.recipe q).doses = [] → s.evaluate k (some q) = .refused .recipeUnavailable) ∧
      (∀ l d m, (s.recipe q).doses = l ++ d :: m → (∀ x ∈ l, ∃ j, s.suits k x j = true) →
        ((∀ j, s.serves k d j = false) → s.evaluate k (some q) = .refused .recipeUnavailable) ∧
        ((∃ j, s.serves k d j = true) → (∀ j, s.suits k d j = false) →
          s.evaluate k (some q) = .refused .doseRateInvalid)) ∧
      ((s.recipe q).doses ≠ [] → (∀ d ∈ (s.recipe q).doses, ∃ j, s.suits k d j = true) →
        s.evaluate k (some q) =
          if (s.recipe q).doses.all (fun d => (s.pick k d).isSome) then .granted else .wait))

/-- R102, R103: BATCH_STOP and the keypad's STOP, by the arm's state. Of a reserved volume below the preset that leaves
it 0 is left (the model's choice, log 63). -/
def Obligations.BatchStop : Prop :=
  ∀ (s : State) (k : Fin 4), s.live = true →
    (∀ tag b : Byte, s.hearing = true →
      (4 ≤ b.toNat → exec (.batchStop tag [b]) s = .next (s.linkFrame.reply 0x09 tag (deny .badValue))) ∧
      (b.toNat = k.val → (s.arm k).state = .idle →
        exec (.batchStop tag [b]) s = .next (s.linkFrame.reply 0x09 tag (deny .wrongState))) ∧
      (b.toNat = k.val → (s.arm k).state ≠ .idle →
        ∃ u : State, exec (.batchStop tag [b]) s = .next (u.reply 0x09 tag taken) ∧ s.linkFrame.stopsBatch u k)) ∧
    (∀ (a arm : Byte) (i : Fin 12), s.holds a i .keypad →
      (4 ≤ arm.toNat → exec (.keyStop a arm) s = .next (s.copied
        ((s.raise (.batchRefused arm.toNat .stop (.keypad a) .armDisabled)).tellKeypad a (.refused arm .armDisabled))
        i a .keypad (keyRecord .stop arm 0 0 0 0))) ∧
      (arm.toNat = k.val → (s.arm k).state = .idle → exec (.keyStop a arm) s =
        .next (s.copied (s.tellKeypad a (.notNow arm)) i a .keypad (keyRecord .stop arm 0 0 0 0))) ∧
      (arm.toNat = k.val → (s.arm k).state ≠ .idle → ∃ u : State, exec (.keyStop a arm) s =
          .next (s.copied (u.tellKeypad a (.accepted arm)) i a .keypad (keyRecord .stop arm 0 0 0 0)) ∧
        s.stopsBatch u k))

/-- R100, with what R34, R36 and R98 say of a suspension: BATCH_SUSPEND and the keypad's SUSPEND. An arm outside 0 to 3 is
refused by its source's rule (R86). That the last flowing arm's suspension releases a WARN still driven from an earlier
expiry, the expired flag standing, is the model's choice (log 36). -/
def Obligations.BatchSuspend : Prop :=
  ∀ (s : State) (k : Fin 4), s.live = true →
    (∀ tag b : Byte, s.hearing = true →
      (4 ≤ b.toNat → exec (.batchSuspend tag [b]) s = .next (s.linkFrame.reply 0x0A tag (deny .badValue))) ∧
      (b.toNat = k.val →
        ((s.arm k).state.flowing = true → ∃ u : State,
          exec (.batchSuspend tag [b]) s = .next (u.reply 0x0A tag taken) ∧ s.linkFrame.suspends u k .request) ∧
        ((s.arm k).state = .suspended → exec (.batchSuspend tag [b]) s = .next (s.linkFrame.reply 0x0A tag taken)) ∧
        ((s.arm k).state.flowing = false → (s.arm k).state ≠ .suspended →
          exec (.batchSuspend tag [b]) s = .next (s.linkFrame.reply 0x0A tag (deny .wrongState))))) ∧
    (∀ (a arm : Byte) (i : Fin 12), s.holds a i .keypad →
      (4 ≤ arm.toNat → exec (.keySuspend a arm) s = .next (s.copied
        ((s.raise (.batchRefused arm.toNat .suspend (.keypad a) .armDisabled)).tellKeypad a
          (.refused arm .armDisabled)) i a .keypad (keyRecord .suspend arm 0 0 0 0))) ∧
      (arm.toNat = k.val →
        ((s.arm k).state.flowing = true → ∃ u : State, exec (.keySuspend a arm) s = .next (s.copied
          (u.tellKeypad a (.accepted arm)) i a .keypad (keyRecord .suspend arm 0 0 0 0)) ∧
          s.suspends u k .request) ∧
        ((s.arm k).state = .suspended → exec (.keySuspend a arm) s = .next (s.copied
          (s.tellKeypad a (.accepted arm)) i a .keypad (keyRecord .suspend arm 0 0 0 0))) ∧
        ((s.arm k).state.flowing = false → (s.arm k).state ≠ .suspended → exec (.keySuspend a arm) s =
          .next (s.copied (s.tellKeypad a (.notNow arm)) i a .keypad (keyRecord .suspend arm 0 0 0 0)))))

/-- R101: BATCH_RESUME and the keypad's RESUME. An arm outside 0 to 3 is refused by its source's rule (R86). -/
def Obligations.BatchResume : Prop :=
  ∀ (s : State) (k : Fin 4), s.live = true →
    (∀ tag b : Byte, s.hearing = true → 4 ≤ b.toNat →
      exec (.batchResume tag [b]) s = .next (s.linkFrame.reply 0x0B tag (deny .badValue))) ∧
    (∀ tag b : Byte, s.hearing = true → b.toNat = k.val →
      ((s.arm k).state ≠ .suspended ∨ s.bayState ≠ .session →
        exec (.batchResume tag [b]) s = .next (s.linkFrame.reply 0x0B tag (deny .wrongState))) ∧
      ((s.arm k).state = .suspended → s.bayState = .session → s.permitted = false ∨ s.safety.deadman.expired = true →
        exec (.batchResume tag [b]) s =
          .next (s.linkFrame.reply 0x0B tag ⟨.refused, batchReasonCode .permissiveOpen, []⟩)) ∧
      ((s.arm k).state = .suspended → s.bayState = .session → s.permitted = true → s.safety.deadman.expired = false →
        ∃ u : State, exec (.batchResume tag [b]) s = .next (u.reply 0x0B tag taken) ∧ s.linkFrame.resumes u k)) ∧
    (∀ (a arm : Byte) (i : Fin 12), s.holds a i .keypad → 4 ≤ arm.toNat → exec (.keyResume a arm) s = .next (s.copied
      ((s.raise (.batchRefused arm.toNat .resume (.keypad a) .armDisabled)).tellKeypad a (.refused arm .armDisabled))
      i a .keypad (keyRecord .resume arm 0 0 0 0))) ∧
    (∀ (a arm : Byte) (i : Fin 12), s.holds a i .keypad → arm.toNat = k.val →
      ((s.arm k).state ≠ .suspended ∨ s.bayState ≠ .session → exec (.keyResume a arm) s = .next (s.copied
        (s.tellKeypad a (.notNow arm)) i a .keypad (keyRecord .resume arm 0 0 0 0))) ∧
      ((s.arm k).state = .suspended → s.bayState = .session → s.permitted = false ∨ s.safety.deadman.expired = true →
        exec (.keyResume a arm) s = .next (s.copied
          ((s.raise (.batchRefused arm.toNat .resume (.keypad a) .permissiveOpen)).tellKeypad a
            (.refused arm .permissiveOpen)) i a .keypad (keyRecord .resume arm 0 0 0 0))) ∧
      ((s.arm k).state = .suspended → s.bayState = .session → s.permitted = true → s.safety.deadman.expired = false →
        ∃ u : State, exec (.keyResume a arm) s = .next (s.copied (u.tellKeypad a (.accepted arm))
            i a .keypad (keyRecord .resume arm 0 0 0 0)) ∧ s.resumes u k))

/-- R99, R104 to R106, with VALVE under its response STOP_BAY: the stop timers of a SUSPENDED and of a STOPPING arm.
The STOPPING timeout makes the end reason FAULT, stores the overrun, which OVERRUN reports before the batch ends, ends
the batch with FAULT and raises VALVE after that; with OVERRUN under STOP_BAY this is stated for an empty waiting list.
The last arm's timeout in CLOSING closes the session before VALVE is raised (log 38, DEDUCED). A timeout commanded
while its timer is stopped has no effect (the model's choice, log 20), and the overrun is 0 where delivered at stopping
is absent or above delivered (the model's choice, log 67). -/
def Obligations.StopTimers : Prop :=
  ∀ (s : State) (k : Fin 4), s.live = true → (s.policy .valve).mode = .stopBay →
    (¬((s.arm k).state = .suspended ∧ (s.arm k).stopTimer.isSome = true) →
      exec (.suspendStopTimeout k) s = .next s) ∧
    (¬((s.arm k).state = .stopping ∧ (s.arm k).stopTimer.isSome = true) → exec (.stoppingTimeout k) s = .next s) ∧
    ((s.arm k).state = .suspended → (s.arm k).stopTimer.isSome = true → s.bayState = .session →
      ∃ u : State, exec (.suspendStopTimeout k) s = .next u ∧ u.arm k = s.stopped k .fault ∧
        (u.session.record.bind fun r => r.closing) = some .fault ∧ (u.fault .valve).latch = some .stopBay ∧
        (u.fault .valve).count = min 255 ((s.fault .valve).count + 1) ∧
        (u.fault .valve).armsNamed = joinArm (s.fault .valve).armsNamed k ∧
        (∀ c, c ≠ .valve → u.fault c = s.fault c) ∧ u.tables = s.tables ∧ u.meters = s.meters ∧
        u.volumes = s.volumes) ∧
    ((s.arm k).state = .stopping → (s.arm k).stopTimer.isSome = true → s.bayState = .session →
      ∃ u : State, exec (.stoppingTimeout k) s = .next u ∧ (u.arm k).state = .idle ∧ (u.arm k).batch = none ∧
        (u.arm k).stopTimer = none ∧ (u.fault .valve).latch = some .stopBay ∧
        (u.fault .valve).count = min 255 ((s.fault .valve).count + 1) ∧
        (u.fault .valve).armsNamed = joinArm (s.fault .valve).armsNamed k ∧ u.meters = s.meters) ∧
    (∀ b, (s.arm k).state = .stopping → (s.arm k).stopTimer.isSome = true → (s.arm k).batch = some b →
      let o := b.delivered - b.atStopping.getD b.delivered
      let y := s.setArm k { s.arm k with
        batch := some { b with endReason := some .fault, overrun := some o }, stopTimer := none }
      (o ≤ (s.armEntry k).maxOverrun * 1000 → exec (.stoppingTimeout k) s =
        .next ((y.batchEnd k .fault false).closeIfDone.raiseFault .valve (some k) .none false none)) ∧
      ((s.armEntry k).maxOverrun * 1000 < o → ((s.policy .overrun).mode = .stopBay → s.additive.waiting = []) →
        exec (.stoppingTimeout k) s =
        .next ((((y.raiseFault .overrun (some k) .none false none).batchEnd k .fault false).closeIfDone).raiseFault
          .valve (some k) .none false none))) ∧
    (∀ r c, (s.arm k).state = .stopping → (s.arm k).stopTimer.isSome = true → s.session.record = some r →
      r.closing = some c → (∀ j, j ≠ k → (s.arm j).state = .idle) →
      ∃ u : State, exec (.stoppingTimeout k) s = .next u ∧ (∀ j, (u.arm j).state = .idle) ∧
        u.session.record = none ∧ u.bayState = .faulted ∧
        (u.fault .valve).count = min 255 ((s.fault .valve).count + 1))

/-- R4, R17, R19, R78, R106, R127, R128: the end of a batch: the injectors released and the dose records finalised,
reservation, charge, last product, claim, line, event, arm. Then the scan of R127: one once every record is finalised,
and none for a batch without dose records (log 23, DEDUCED), whose end therefore leaves every other arm as it stands.
BATCH_ENDED carries the line's flags (the model's choice, log 58). For a record rewritten as read it is the model's
choice that of a reserved volume below the preset 0 is left (log 63), that a permit index is charged whatever entry
stands there (log 64), and that the injector which a dose record names is released (log 68). -/
def Obligations.BatchEndEffects : Prop :=
  (∀ (s : State) (k : Fin 4) (b : Batch) (r : Session) (reason : EndReason), s.canonical = true →
    (s.arm k).batch = some b → (b.doses.map DoseRec.injector).Nodup →
    (b.doses = [] ∨ s.additive.waiting = []) → s.session.record = some r →
    let u := s.batchEnd k reason false
    let l := batchLine k { b with doses := b.doses.mapIdx (s.doseEnded k b.gross) } reason
      (Vec.get s.custody.gross k)
    (u.arm k).state = .idle ∧ (u.arm k).batch = none ∧ (u.arm k).stopTimer = none ∧
    (∀ j, j ≠ k → u.arm j = s.arm j) ∧ u.custody = s.custody ∧ u.meters = s.meters ∧
    u.session.record = some { r with
      reserved := r.reserved - b.preset, claims := Vec.set r.claims b.compartment none, lines := r.lines ++ [l]
      delivered := if r.source = .server then r.delivered + litres b.delivered else r.delivered } ∧
    (∀ p, r.source = .local_ → r.permit = some p → (tabGet emptyPermit s.tables.permits p).damaged = false →
      (u.permit p).usedToday = min 9999999 ((s.permit p).usedToday + litres b.delivered)) ∧
    (r.source = .server → u.tables.permits = s.tables.permits) ∧
    (0 < b.gross → (tabGet emptyVehicle s.tables.vehicles r.vehicle).damaged = false →
      (u.vehicle r.vehicle).compartments[b.compartment.val]? =
        (s.vehicle r.vehicle).compartments[b.compartment.val]?.map fun c => { c with last := some b.product }) ∧
    (b.gross = 0 → u.tables.vehicles = s.tables.vehicles) ∧
    l.endReason = reason ∧ l.preset = b.preset ∧ l.grossL = litres b.gross ∧ l.standardL = litres b.standard ∧
    l.totalStart = b.totalStart ∧ l.totalEnd = (Vec.get s.custody.gross k).value ∧
    (∀ (i : Nat) (d : DoseRec), b.doses[i]? = some d → l.doses[i]? = some ⟨d.code, d.injector,
      verdictOf d (b.gross * d.rate / 100000), d.owed, (s.doseEnded k b.gross i d).done, d.rate,
      b.gross * d.rate / 100000, d.measured⟩) ∧
    (∀ (i : Nat) (d : DoseRec), b.doses[i]? = some d → u.inj d.injector = { s.inj d.injector with
      claimant := if (s.inj d.injector).claimant = some k then none else (s.inj d.injector).claimant
      state := if (s.inj d.injector).claimant = some k ∧ (s.inj d.injector).state = .claimedIdle then .free
        else (s.inj d.injector).state
      owner := if (s.inj d.injector).owner = some (k, i) then none else (s.inj d.injector).owner }) ∧
    (∀ j, j ∉ b.doses.map DoseRec.injector → u.inj j = s.inj j) ∧
    u.uport = (s.raise (.batchEnded k b.compartment b.code reason l.grossL l.standardL l.flags b.overrun)).uport) ∧
  (∀ (s : State) (k : Fin 4) (b : Batch), (s.arm k).batch = some b →
    s.releaseDoses k false = if b.doses = [] then s else (s.releaseDoses k true).scan)

/-- R88: the preset in force is the least of the terms and not below the bay minimum; the refusal is QUOTA_EXHAUSTED
exactly when a quota applies and is not greater than any other term. -/
def Obligations.PresetRule : Prop :=
  ∀ (requested capacity bayMin bayMax : Nat) (quota : Option Int),
    (∀ n, presetRule requested capacity bayMin bayMax quota = .ok n →
      n ≤ requested ∧ n ≤ capacity ∧ n ≤ bayMax ∧ bayMin ≤ n ∧ (∀ q, quota = some q → (n : Int) ≤ q) ∧
      (n = requested ∨ n = capacity ∨ n = bayMax ∨ quota = some (n : Int))) ∧
    (∀ e, presetRule requested capacity bayMin bayMax quota = .error e →
      (requested < bayMin ∨ capacity < bayMin ∨ bayMax < bayMin ∨ ∃ q, quota = some q ∧ q < bayMin) ∧
      (e = .quotaExhausted ∧ (∃ q, quota = some q ∧ q ≤ requested ∧ q ≤ capacity ∧ q ≤ bayMax) ∨
        e = .belowMinimum ∧ ¬∃ q, quota = some q ∧ q ≤ requested ∧ q ≤ capacity ∧ q ≤ bayMax)) ∧
    (∀ q : Int, quota = some q → q < 0 → presetRule requested capacity bayMin bayMax quota = .error .quotaExhausted)

/-! ### Additive injection (chapter 6) -/

/-- R122, R123, R125: a feedback pulse outside a window, inside one, and one that fills the stroke: without a batch
behind it the injector is freed and the waiting list scanned; else the injector goes on by what its dose owes, and the
dose check follows, stated last. A tail pulse is scaled by the ppl_milli copied at the opening (the model's choice,
log 41). A pulse under a ppl_milli of 0 adds a free value (log 73), and a check at an expected quantity of 0 has a free value
for its deviation (log 72): only a record rewritten as read (R188) makes either. -/
def Obligations.FeedbackPulse : Prop :=
  (∀ (s : State) (j : Fin 6), s.live = true →
    ((s.inj j).windowOpen = false → ∃ u : State, exec (.feedbackPulse j) s = .next u ∧ u = { s with additive := u.additive } ∧
      u.additive.waiting = s.additive.waiting ∧ (∀ x, x ≠ j → u.inj x = s.inj x) ∧
      u.inj j = { s.inj j with stray := min 65535 ((s.inj j).stray + 1) }) ∧
    (∀ inc rem, ((s.inj j).ppl ≠ 0 → inc = (10000000 + (s.inj j).remainder) / (s.inj j).ppl ∧
        rem = (10000000 + (s.inj j).remainder) % (s.inj j).ppl) →
      ((s.inj j).ppl = 0 → inc = (Config.zeroScale (10000000 + (s.inj j).remainder)).1 % 1000000000000000 ∧
        rem = (Config.zeroScale (10000000 + (s.inj j).remainder)).2) → (s.inj j).windowOpen = true →
      let custody := { s.custody with
        additive := Vec.set s.custody.additive j ((Vec.get s.custody.additive j).credit inc) }
      ((s.inj j).open_ = false ∨ (s.inj j).measured + inc < (s.inj j).stroke →
        ∃ u : State, exec (.feedbackPulse j) s = .next u ∧
          u = { s with additive := u.additive, custody := custody, arms := u.arms } ∧
          u.additive.waiting = s.additive.waiting ∧ (∀ x, x ≠ j → u.inj x = s.inj x) ∧
          u.inj j = { s.inj j with remainder := rem, measured := (s.inj j).measured + inc } ∧
          ((s.inj j).owner = none → u.arms = s.arms) ∧
          (∀ (k : Fin 4) (i : Nat) (d : DoseRec), (s.inj j).owner = some (k, i) → s.dose k i = some d →
            s.redosed u k i { d with measured := d.measured + inc })) ∧
      ((s.inj j).open_ = true → (s.inj j).stroke ≤ (s.inj j).measured + inc →
        ((s.inj j).owner = none → ∃ w : State, exec (.feedbackPulse j) s = .next w.scan ∧
          w = { s with additive := w.additive, custody := custody } ∧
          w.additive.waiting = s.additive.waiting ∧ (∀ x, x ≠ j → w.inj x = s.inj x) ∧
          w.inj j = { s.inj j with
            remainder := rem, measured := (s.inj j).measured + inc, state := .free, claimant := none
            open_ := false, timer := none, windowTimer := some (s.now + 500), misses := 0 }) ∧
        (∀ (k : Fin 4) (i : Nat) (d : DoseRec), (s.inj j).owner = some (k, i) → s.dose k i = some d → d.injector = j →
          ∃ w : State, exec (.feedbackPulse j) s = .next (w.doseCheck k i) ∧
            w = { s with additive := w.additive, custody := custody, arms := w.arms } ∧
            w.additive.waiting = s.additive.waiting ∧ (∀ x, x ≠ j → w.inj x = s.inj x) ∧
            (d.owed = 0 ∨ (s.arm k).state = .stopping →
              s.redosed w k i { d with measured := d.measured + inc, done := min 65535 (d.done + 1) } ∧
              w.inj j = { s.inj j with
                remainder := rem, measured := (s.inj j).measured + inc, state := .claimedIdle
                open_ := false, timer := none, windowTimer := some (s.now + 500), misses := 0 }) ∧
            (0 < d.owed → (s.arm k).state ≠ .stopping →
              s.redosed w k i { d with
                measured := d.measured + inc, done := min 65535 (d.done + 1), owed := d.owed - 1
                overflow := if d.owed = 1 then false else d.overflow } ∧
              w.inj j = { s.inj j with
                remainder := rem, measured := 0, state := .injecting, open_ := true, windowOpen := true
                timer := some (s.now + d.timeoutMs), windowTimer := none, misses := 0, stroke := d.stroke
                ppl := d.ppl, owner := some (k, i) }))))) ∧
  (∀ (s : State) (k : Fin 4) (i : Nat) (b : Batch) (d : DoseRec), (s.arm k).batch = some b → s.dose k i = some d →
    let e := b.gross * d.rate / 100000
    let v := if e = 0 then Config.zeroExpected d.measured else (((d.measured : Int) - e) * 100).tdiv e
    (d.claimLost = true ∨ d.done < 5 → s.doseCheck k i = s) ∧
    (d.claimLost = false → 5 ≤ d.done →
      (-(d.tolerance : Int) ≤ v → v ≤ d.tolerance →
        s.redosed (s.doseCheck k i) k i { d with outCount := 0 } ∧
        s.doseCheck k i = { s with arms := (s.doseCheck k i).arms }) ∧
      (v < -(d.tolerance : Int) ∨ (d.tolerance : Int) < v →
        (d.outCount < 2 → s.redosed (s.doseCheck k i) k i { d with outCount := d.outCount + 1 } ∧
          s.doseCheck k i = { s with arms := (s.doseCheck k i).arms }) ∧
        (2 ≤ d.outCount → ∃ w : State, s.doseCheck k i = w.raiseDose k d ∧
          w = { s with arms := w.arms, uport := (s.raise (.doseAlarm k (i + 1) d.injector e d.measured v)).uport } ∧
          s.redosed w k i { d with outCount := 0 }))))

/-- R118, R121, R123, R124, R126: an injection that closes on its timeout, below half its stroke as a miss: the
injector is freed and the list scanned, or its dose goes on and is checked; the third miss in a row takes the injector
out of service; the end of the feedback window; what a scan does with the waiting arms, oldest first, and with one of
them; and the DOSE class with the dose's failure action. Of the third miss the injector's entry and the fault records
are stated under every response of INJECTOR, the whole state that it leaves under REPORT alone. An expiry commanded
while its timer is stopped has no effect (the model's choice, log 20), and of a reserved volume below the preset of a
batch sent back 0 is left (the model's choice, log 63). -/
def Obligations.InjectionTimeout : Prop :=
  (∀ (s : State) (j : Fin 6) (n : Nat), s.live = true → s.canonical = true →
    n = (if 2 * (s.inj j).measured < (s.inj j).stroke then min 3 ((s.inj j).misses + 1) else 0) →
    let closed : Injector := { s.inj j with
      open_ := false, timer := none, windowTimer := some (s.now + 500), misses := n }
    ((s.inj j).timer = none → exec (.injectionTimeout j) s = .next s) ∧
    ((s.inj j).timer.isSome = true → n < 3 →
      ((s.inj j).owner = none → ∃ w : State, exec (.injectionTimeout j) s = .next w.scan ∧
        w = { s with additive := w.additive } ∧ w.additive.waiting = s.additive.waiting ∧
        (∀ x, x ≠ j → w.inj x = s.inj x) ∧ w.inj j = { closed with state := .free, claimant := none }) ∧
      (∀ (k : Fin 4) (i : Nat) (d : DoseRec), (s.inj j).owner = some (k, i) → s.dose k i = some d → d.injector = j →
        ∃ w : State, exec (.injectionTimeout j) s = .next (w.doseCheck k i) ∧
          w = { s with additive := w.additive, arms := w.arms } ∧ w.additive.waiting = s.additive.waiting ∧
          (∀ x, x ≠ j → w.inj x = s.inj x) ∧
          (d.owed = 0 ∨ (s.arm k).state = .stopping →
            s.redosed w k i { d with done := min 65535 (d.done + 1) } ∧
            w.inj j = { closed with state := .claimedIdle }) ∧
          (0 < d.owed → (s.arm k).state ≠ .stopping →
            s.redosed w k i { d with
              done := min 65535 (d.done + 1), owed := d.owed - 1
              overflow := if d.owed = 1 then false else d.overflow } ∧
            w.inj j = { closed with
              measured := 0, state := .injecting, open_ := true, windowOpen := true
              timer := some (s.now + d.timeoutMs), windowTimer := none, stroke := d.stroke, ppl := d.ppl
              owner := some (k, i) }))) ∧
    ((s.inj j).timer.isSome = true → n = 3 → ∃ u : State, exec (.injectionTimeout j) s = .next u ∧
      u.injEntry j = { s.injEntry j with inService := false } ∧ (∀ x, x ≠ j → u.injEntry x = s.injEntry x) ∧
      u.fault .injector = s.struck .injector (s.inj j).claimant (s.response .injector none) false ∧
      ∀ c, c ≠ .injector → c ≠ .dose → u.fault c = s.fault c) ∧
    ((s.inj j).timer.isSome = true → n = 3 → (s.policy .injector).mode = .report →
      ∃ w : State,
        w = { s with
          tables := { s.tables with injectors := w.tables.injectors }
          safety := { s.safety with faults := w.safety.faults }, uport := w.uport, additive := w.additive
          arms := w.arms } ∧
        w.injEntry j = { s.injEntry j with inService := false } ∧ (∀ x, x ≠ j → w.injEntry x = s.injEntry x) ∧
        w.inj j = { closed with state := .free, claimant := none } ∧ (∀ x, x ≠ j → w.inj x = s.inj x) ∧
        w.additive.waiting = s.additive.waiting ∧ (∀ c, c ≠ .injector → w.fault c = s.fault c) ∧
        (w.fault .injector).count = min 255 ((s.fault .injector).count + 1) ∧
        (w.fault .injector).armsNamed = joinOpt (s.fault .injector).armsNamed (s.inj j).claimant ∧
        (w.fault .injector).latch = (s.fault .injector).latch ∧
        w.uport = (if (s.policy .injector).mask then s else s.raise (.faultRaised .injector (s.inj j).claimant
          (.injector j) (min 255 ((s.fault .injector).count + 1)) .report false)).uport ∧
        ((s.inj j).owner = none → w.arms = s.arms ∧ exec (.injectionTimeout j) s = .next w.scan) ∧
        (∀ (k : Fin 4) (i : Nat) (d : DoseRec), (s.inj j).owner = some (k, i) → s.dose k i = some d →
          exec (.injectionTimeout j) s = .next (w.raiseDose k d).scan ∧
          w.dose k i = some { d with done := min 65535 (d.done + 1), claimLost := true } ∧
          (∀ m, m ≠ i → w.dose k m = s.dose k m) ∧ (∀ m, m ≠ k → w.arm m = s.arm m) ∧
          { w.arm k with batch := none } = { s.arm k with batch := none } ∧
          (w.arm k).batch.map (fun b => { b with doses := [] }) = (s.arm k).batch.map fun b =>
            { b with doses := [], flags := { b.flags with injectorLost := true } })) ∧
    ((s.inj j).windowTimer = none → exec (.feedbackWindowClose j) s = .next s) ∧
    ((s.inj j).windowTimer.isSome = true → ∃ u : State, exec (.feedbackWindowClose j) s = .next u ∧
      u = { s with additive := u.additive } ∧ u.additive.waiting = s.additive.waiting ∧
      (∀ x, x ≠ j → u.inj x = s.inj x) ∧
      u.inj j = { s.inj j with windowOpen := false, windowTimer := none, owner := none })) ∧
  (∀ s : State, s.additive.waiting = [] → s.scan = s) ∧
  (∀ (s : State) (k : Fin 4) (l : List (Fin 4)), s.additive.waiting = k :: l →
    s.scan = l.foldl State.scanArm (s.scanArm k)) ∧
  (∀ (s : State) (k : Fin 4) (b : Batch), (s.arm k).state = .waitInjector → (s.arm k).batch = some b →
    b.doses = [] →
    (s.evaluate k b.recipe = .wait → s.scanArm k = s) ∧
    (∀ r, s.evaluate k b.recipe = .refused r → s.sentBack (s.scanArm k) k b r) ∧
    (∀ r, s.evaluate k b.recipe = .granted → s.startRefusal k = some r → s.sentBack (s.scanArm k) k b r) ∧
    (s.evaluate k b.recipe = .granted → s.startRefusal k = none → ∃ u : State, (s.unwait k).flows u k b b.source 0 ∧
      s.scanArm k = match b.source with
        | .keypad a => u.tellKeypad a (.started (BitVec.ofNat 8 k.val))
        | .server => u)) ∧
  (∀ (s : State) (k : Fin 4) (b : Batch) (d : DoseRec), (s.arm k).batch = some b → (s.policy .dose).mode = .recipe →
    let u := s.raiseDose k d
    let v := s.setArm k { s.arm k with batch := some { b with flags := { b.flags with doseFault := true } } }
    (∀ m, m ≠ k → u.arm m = s.arm m) ∧ (∀ c, c ≠ .dose → u.fault c = s.fault c) ∧ u.tables = s.tables ∧
    u.custody = s.custody ∧ u.additive = s.additive ∧
    (u.fault .dose).count = min 255 ((s.fault .dose).count + 1) ∧
    (u.fault .dose).armsNamed = joinArm (s.fault .dose).armsNamed k ∧
    u.uport = (if (s.policy .dose).mask then s else s.raise (.faultRaised .dose (some k) (.injector d.injector)
      (min 255 ((s.fault .dose).count + 1)) (if d.action = .stopArm then .stopArm else .report) false)).uport ∧
    (d.action = .continueUntreated → u.arm k = v.arm k ∧ (u.fault .dose).latch = (s.fault .dose).latch ∧
      (u.fault .dose).armsLatched = (s.fault .dose).armsLatched) ∧
    (d.action = .stopArm →
      (u.fault .dose).latch = (if (s.fault .dose).latch = some .stopBay then some .stopBay else some .stopArm) ∧
      (u.fault .dose).armsLatched = joinArm (s.fault .dose).armsLatched k ∧
      u.arm k = if (s.arm k).state.flowing ∨ (s.arm k).state = .suspended then v.stopped k .fault else v.arm k))

/-! ### Delivery notes and the bay clock (chapter 7) -/

/-- R140, R142, R143: NOTE_LIST, NOTE_READ and NOTE_RELEASE, on the state `v` that the retention reads of the request
leave (R188). A RESERVED place is listed with the open session's number. Where two notes bear one number, the release
leaves neither place (the model's choice, log 51). A note that stands under number 0, which only a session record rewritten
as read makes possible, is served and released under it (the model's choice, log 74). The lines and the segments of a
DAMAGED note are listed as written (the model's choice, log 69), and a number or a count too large for its field is a free
value (log 17). -/
def Obligations.NoteRequests : Prop :=
  ∀ (s : State) (tag : Byte) (reads : List Finding), s.hearing = true →
    let v := s.linkFrame.readWords reads
    ((∀ f ∈ reads, f.ecc = .clean) → v = s.linkFrame) ∧
    exec (.noteList tag [] reads) s = .next (v.reply 0x0C tag
      (accept 0 (be 1 v.custody.places.length ++ (v.custody.places.map v.placeBytes).flatten))) ∧
    (∀ x, x.state = .reserved → ∀ r, v.session.record = some r →
      v.placeBytes x = be 1 1 ++ beFig 4 r.number ++ [0, 0]) ∧
    (∀ x n, x.state ≠ .reserved → x.note = some n → v.placeBytes x =
      be 1 (placeStateCode x.state) ++ beFig 4 x.number ++ beFig 1 n.lines.length ++
        beFig 1 ((x.form.length + 191) / 192)) ∧
    (∀ p : List Byte, p.length = 5 →
      (v.findNote (field p 0 4) = none →
        exec (.noteRead tag p reads) s = .next (v.reply 0x0D tag (deny .noSuchNote))) ∧
      (∀ x, v.findNote (field p 0 4) = some x → (x.form.length + 191) / 192 ≤ field p 4 1 →
        exec (.noteRead tag p reads) s = .next (v.reply 0x0D tag (deny .badIndex))) ∧
      (∀ x, v.findNote (field p 0 4) = some x → field p 4 1 < (x.form.length + 191) / 192 →
        exec (.noteRead tag p reads) s = .next (v.reply 0x0D tag (accept 0 (be 4 x.number ++
          be 1 (placeStateCode x.state) ++ be 1 (field p 4 1) ++ beFig 1 (segmentCount x.form) ++
          (x.form.drop (192 * field p 4 1)).take 192))))) ∧
    (∀ p : List Byte, p.length = 4 →
      (v.findNote (field p 0 4) = none →
        exec (.noteRelease tag p reads) s = .next (v.reply 0x0E tag (deny .noSuchNote))) ∧
      (∀ x, v.findNote (field p 0 4) = some x → ∃ u : State,
        exec (.noteRelease tag p reads) s = .next (u.reply 0x0E tag (accept 0 (be 1 u.custody.places.length))) ∧
        u = { v with custody := { v.custody with places := u.custody.places } } ∧
        u.findNote (field p 0 4) = none ∧ u.placesIn .reserved = v.placesIn .reserved ∧
        (∀ y ∈ u.custody.places, y ∈ v.custody.places) ∧
        (∀ y ∈ v.custody.places, y.number ≠ field p 0 4 → y ∈ u.custody.places)))

/-- R141: the length of the serial form, its note check, and its segments. -/
def Obligations.NoteSerialForm : Prop :=
  ∀ n : NoteRec,
    (noteForm n).length = 34 + 40 * n.lines.length + 16 * (n.lines.map fun l => l.doses.length).sum ∧
    (noteForm n).drop ((noteForm n).length - 2) =
      be 2 (crc ((noteForm n).take ((noteForm n).length - 2))).toNat ∧
    segmentCount (noteForm n) = ((noteForm n).length + 191) / 192 ∧
    ((List.range (segmentCount (noteForm n))).map (segment (noteForm n))).flatten = noteForm n ∧
    (∀ i, i + 1 < segmentCount (noteForm n) → (segment (noteForm n) i).length = 192) ∧
    (∀ i, i + 1 = segmentCount (noteForm n) →
      1 ≤ (segment (noteForm n) i).length ∧ (segment (noteForm n) i).length ≤ 192)

/-- R20, R184: CLOCK_SET, DAY_ROLLOVER and the clock's last value. A rollover still owed for a midnight already passed is
made before the clock is set (log 47, DEDUCED), and a refused CLOCK_SET leaves it owed. A DAY_ROLLOVER that comes before
the clock has reached midnight moves the clock there, and BAY_CLOCK_STOP moves it to its last value (the model's choices,
log 20). Each of the three, where it moves the clock, sets the part-second to 0 (the model's choice, log 56). -/
def Obligations.BayClock : Prop :=
  (∀ (s : State) (tag : Byte) (p : List Byte), s.hearing = true → s.canonical = true → p.length = 5 →
    (5662310399 < field p 0 5 → exec (.clockSet tag p) s = .next (s.linkFrame.reply 0x15 tag (deny .badValue))) ∧
    (field p 0 5 ≤ 5662310399 → s.session.record.isSome = true →
      exec (.clockSet tag p) s = .next (s.linkFrame.reply 0x15 tag (deny .inUse))) ∧
    (field p 0 5 ≤ 5662310399 → s.session.record = none → ∃ u : State,
      exec (.clockSet tag p) s = .next (u.reply 0x15 tag taken) ∧
      u = { s.linkFrame with
        custody := { s.custody with clock := field p 0 5, phase := 0, midnight := false }
        tables := { s.tables with permits := u.tables.permits }
        session := { s.session with quotaDay := u.session.quotaDay }, uport := u.uport } ∧
      (s.custody.clock / 86400 < field p 0 5 / 86400 → u.session.quotaDay = field p 0 5 / 86400 ∧
        (∀ i, u.permit i = { s.permit i with usedToday := 0 }) ∧
        u.uport = (({ (if s.custody.midnight then s.linkFrame.raise (.dayRollover (s.custody.clock / 86400))
          else s.linkFrame) with custody := u.custody } : State).raise (.dayRollover (field p 0 5 / 86400))).uport) ∧
      (field p 0 5 / 86400 ≤ s.custody.clock / 86400 → s.custody.midnight = false →
        u.session.quotaDay = s.session.quotaDay ∧ u.tables = s.tables ∧ u.uport = s.linkFrame.uport) ∧
      (field p 0 5 / 86400 ≤ s.custody.clock / 86400 → s.custody.midnight = true →
        u.session.quotaDay = s.custody.clock / 86400 ∧ (∀ i, u.permit i = { s.permit i with usedToday := 0 }) ∧
        u.uport = (s.linkFrame.raise (.dayRollover (s.custody.clock / 86400))).uport))) ∧
  (∀ s : State, s.live = true → s.canonical = true →
    (s.custody.midnight = true ∨ (s.custody.clock / 86400 + 1) * 86400 ≤ 5662310399 →
      ∃ u : State, exec .dayRollover s = .next u ∧
        u = { s with custody := u.custody, tables := { s.tables with permits := u.tables.permits }
                     session := { s.session with quotaDay := u.custody.clock / 86400 }, uport := u.uport } ∧
        (s.custody.midnight = true → u.custody = { s.custody with midnight := false }) ∧
        (s.custody.midnight = false → u.custody =
          { s.custody with clock := (s.custody.clock / 86400 + 1) * 86400, phase := 0 }) ∧
        (∀ i, u.permit i = { s.permit i with usedToday := 0 }) ∧
        u.uport = (({ s with custody := u.custody } : State).raise (.dayRollover (u.custody.clock / 86400))).uport) ∧
    (s.custody.midnight = false → 5662310399 < (s.custody.clock / 86400 + 1) * 86400 →
      exec .dayRollover s = .next s) ∧
    exec .bayClockStop s = .next { s with custody := { s.custody with clock := 5662310399, phase := 0 } })

/-! ### Management (chapter 9) -/

/-- R1 to R5, R37, R50, R63, R81 to R83, R111, R113, R114, R166, R167, R177, R180, Table 9-3: TABLE_WRITE. BAD_TABLE and
BAD_INDEX, then for each table BAD_VALUE for a payload that does not decode or that another entry forbids, IN_USE, and
what a taken write stores. That a PERMIT write in use is one whose card is not the session's is log 21 (DEDUCED); that
the verdicts a DEVICE write discards are not counted is log 22 (DEDUCED); that a flag byte above 1 in an entry is
BAD_VALUE (log 48), and that the reported counts of A and B go to 0 at a channel's start (log 39), are the model's choices.
The faults of an ARM write's short window are taken here under REPORT. -/
def Obligations.TableWritten : Prop :=
  ∀ (s : State) (tag : Byte) (p : List Byte) (i : Nat), s.hearing = true → s.canonical = true →
    tableWriteLength p = true → field p 1 2 = i →
    let e := p.drop 3
    let answers := fun c => exec (.tableWrite tag p) s = .next (s.linkFrame.reply 0x10 tag (deny c))
    let taken' := fun u : State => exec (.tableWrite tag p) s = .next (u.reply 0x10 tag taken)
    (10 ≤ field p 0 1 → answers .badTable) ∧
    (∀ id, tableOf (field p 0 1) = some id → tableSize id ≤ i → answers .badIndex) ∧
    (tableOf (field p 0 1) = some .permit → i < 512 →
      (decodePermit e = none → answers .badValue) ∧
      (∀ x, decodePermit e = some x →
        (x.card ≠ 0 → tabOther (fun y => y.card == x.card) s.tables.permits i = true → answers .badValue) ∧
        (x.card = 0 ∨ tabOther (fun y => y.card == x.card) s.tables.permits i = false →
          (∀ r, s.session.record = some r → r.permit = some i → r.card ≠ field p 3 5 → answers .inUse) ∧
          ((∀ r, s.session.record = some r → r.permit = some i → r.card = field p 3 5) →
            ∃ u : State, taken' u ∧
              u = { s.linkFrame with tables := { s.tables with permits := u.tables.permits } } ∧
              u.permit i = x ∧ ∀ j, j ≠ i → u.permit j = s.permit j)))) ∧
    (tableOf (field p 0 1) = some .vehicle → i < 256 →
      (decodeVehicle e = none → answers .badValue) ∧
      (∀ x, decodeVehicle e = some x →
        (x.tag ≠ 0 → tabOther (fun y => y.tag == x.tag) s.tables.vehicles i = true → answers .badValue) ∧
        (x.tag = 0 ∨ tabOther (fun y => y.tag == x.tag) s.tables.vehicles i = false →
          (∀ r, s.session.record = some r → r.vehicle = i → answers .inUse) ∧
          ((∀ r, s.session.record = some r → r.vehicle ≠ i) →
            ∃ u : State, taken' u ∧
              u = { s.linkFrame with tables := { s.tables with vehicles := u.tables.vehicles } } ∧
              u.vehicle i = x ∧ ∀ j, j ≠ i → u.vehicle j = s.vehicle j)))) ∧
    (tableOf (field p 0 1) = some .compat → i = 0 → taken' { s.linkFrame with
      tables := { s.tables with compat := ⟨decodeCompat e, false⟩ } }) ∧
    (∀ g : Fin 16, tableOf (field p 0 1) = some .product → i = g.val →
      (decodeProduct e = none → answers .badValue) ∧
      (∀ x, decodeProduct e = some x →
        (x.code ≠ 0 → tabOther (fun y => y.code == x.code) s.tables.products i = true → answers .badValue) ∧
        (x.code = 0 ∨ tabOther (fun y => y.code == x.code) s.tables.products i = false →
          ((∃ k b, (s.arm k).batch = some b ∧ b.product = g) → answers .inUse) ∧
          ((∀ k b, (s.arm k).batch = some b → b.product ≠ g) →
            ∃ u : State, taken' u ∧
              u = { s.linkFrame with tables := { s.tables with products := u.tables.products } } ∧
              u.product g = x ∧ ∀ j, j ≠ g → u.product j = s.product j)))) ∧
    (∀ g : Fin 16, tableOf (field p 0 1) = some .recipe → i = g.val →
      (decodeRecipe e = none → answers .badValue) ∧
      (∀ x, decodeRecipe e = some x →
        ((∃ k b, (s.arm k).batch = some b ∧ b.recipe = some g) → answers .inUse) ∧
        ((∀ k b, (s.arm k).batch = some b → b.recipe ≠ some g) →
          ∃ u : State, taken' u ∧
            u = { s.linkFrame with tables := { s.tables with recipes := u.tables.recipes } } ∧
            u.recipe g = x ∧ ∀ j, j ≠ g → u.recipe j = s.recipe j))) ∧
    (∀ j : Fin 6, tableOf (field p 0 1) = some .injector → i = j.val →
      (decodeInjector e = none → answers .badValue) ∧
      (∀ x, decodeInjector e = some x →
        ((s.inj j).state ≠ .free → answers .inUse) ∧
        ((s.inj j).state = .free → ∃ w : State, taken' w.scan ∧
          w = { s.linkFrame with
            tables := { s.tables with injectors := w.tables.injectors }, additive := w.additive } ∧
          w.injEntry j = x ∧ (∀ y, y ≠ j → w.injEntry y = s.injEntry y) ∧
          w.additive.waiting = s.additive.waiting ∧ (∀ y, y ≠ j → w.inj y = s.inj y) ∧
          w.inj j = { s.inj j with misses := 0, remainder := 0 }))) ∧
    (∀ k : Fin 4, tableOf (field p 0 1) = some .arm → i = k.val →
      (decodeArm e = none → answers .badValue) ∧
      (∀ x, decodeArm e = some x →
        ((s.arm k).state ≠ .idle → answers .inUse) ∧
        ((s.arm k).state = .idle → ∃ u : State, taken' u ∧
          u.armEntry k = x ∧ (∀ j, j ≠ k → u.armEntry j = s.armEntry j) ∧ (u.arm k).history = [] ∧
          (∀ j, j ≠ k → u.meter j = s.meter j ∧ u.vol j = s.vol j) ∧
          u.meter k = { s.meter k with
            running := x.enabled, ppl := x.ppl, aCount := 0, bCount := 0, n := 0, lastN := 0, lastA := 0, lastB := 0
            q := 0, debt := 0, excess := false, history := []
            window := if x.enabled then some (s.now + 250) else none
            discrepancies := if (s.meter k).running
              then min 65535 ((s.meter k).discrepancies + absDiff (s.meter k).aCount (s.meter k).bCount)
              else (s.meter k).discrepancies
            unauth := if (s.meter k).running then s.leakedSum k else (s.meter k).unauth
            unauthFlag := (s.meter k).unauthFlag || (s.meter k).running && s.leaks k (s.leakedSum k) } ∧
          u.vol k = { s.vol k with
            curve := if x.enabled then x.curve else [], factor := if x.enabled then meterFactor x.curve 0 else none
            temp := TempRec.absent, staleTimer := none, lostTimer := none, unauthRem := 0 } ∧
          ((s.meter k).running = false ∨ s.reported k (s.leakedSum k) →
            u = { s.linkFrame with
              tables := { s.tables with arms := u.tables.arms }, arms := u.arms, meters := u.meters
              volumes := u.volumes, custody := u.custody, uport := u.uport
              safety := { s.safety with faults := u.safety.faults } } ∧
            u.arm k = { s.arm k with history := [] } ∧ (∀ j, j ≠ k → u.arm j = s.arm j) ∧
            u.custody = (if (s.meter k).running then { s.custody with
              gross := Vec.set s.custody.gross k ((Vec.get s.custody.gross k).credit (s.leaked k).1) }
              else s.custody) ∧
            (∀ c, u.fault c = if (s.meter k).running then s.windowFault k (s.leakedSum k) c else s.fault c) ∧
            u.uport = (if (s.meter k).running then s.linkFrame.windowReport k (s.leakedSum k)
              else s.linkFrame).uport)))) ∧
    (∀ g : Fin 12, tableOf (field p 0 1) = some .device → i = g.val →
      (decodeDevice e = none → answers .badValue) ∧
      (∀ x, decodeDevice e = some x →
        (x.address ≠ 0 → (tabOther (fun y => y.address == x.address) s.tables.devices i = true ∨
            (x.role = some .cardReader ∨ x.role = some .tagReader) ∧
              tabOther (fun y => y.role == x.role && y.address != 0) s.tables.devices i = true) →
          answers .badValue) ∧
        (x.address = 0 ∨ tabOther (fun y => y.address == x.address) s.tables.devices i = false ∧
            (x.role = some .tempXmtr ∨ x.role = some .keypad ∨
              tabOther (fun y => y.role == x.role && y.address != 0) s.tables.devices i = false) →
          (∀ k, (s.device g).role = some .tempXmtr → (s.device g).arm = some k → (s.arm k).state ≠ .idle →
            answers .inUse) ∧
          ((s.device g).role ≠ some .tempXmtr ∨ (∀ k, (s.device g).arm = some k → (s.arm k).state = .idle) →
            ∃ u : State, taken' u ∧
              u = { s.linkFrame with
                tables := { s.tables with devices := u.tables.devices }
                dport := { s.dport with stations := u.dport.stations } } ∧
              u.device g = x ∧ (∀ j, j ≠ g → u.device j = s.device j ∧ u.station j = s.station j) ∧
              u.station g = ⟨if x.address = 0 then .absent else .silent, 0, [], 0⟩)))) ∧
    (∀ c : Fin 11, tableOf (field p 0 1) = some .faultPolicy → i = c.val →
      (decodePolicy (faultClasses.getD i .estop) e = none → answers .badValue) ∧
      (∀ x, decodePolicy (faultClasses.getD i .estop) e = some x → taken' { s.linkFrame with
        tables := { s.tables with policies := Vec.set s.tables.policies c ⟨x, false⟩ } })) ∧
    (tableOf (field p 0 1) = some .bay → i = 0 →
      (decodeBay e = none → answers .badValue) ∧
      (∀ x, decodeBay e = some x →
        (s.session.record.isSome = true → answers .inUse) ∧
        (s.session.record = none → ∃ u : State, taken' u ∧
          u = { s.linkFrame with tables := { s.tables with bay := ⟨x, false⟩ }, arms := u.arms } ∧ u.bay = x ∧
          ∀ k, u.arm k = if x.basis = s.bay.basis then s.arm k else { s.arm k with history := [] })))

/-- R179: TABLE_READ, on the state `v` that the reads leave; an entry is returned at its whole length. -/
def Obligations.TableRead : Prop :=
  ∀ (s : State) (tag : Byte) (p : List Byte) (reads : List Finding), s.hearing = true → p.length = 3 →
    let v := s.linkFrame.readWords reads
    (10 ≤ field p 0 1 → exec (.tableRead tag p reads) s = .next (s.linkFrame.reply 0x11 tag (deny .badTable))) ∧
    (∀ id, tableOf (field p 0 1) = some id →
      (tableSize id ≤ field p 1 2 →
        exec (.tableRead tag p reads) s = .next (s.linkFrame.reply 0x11 tag (deny .badIndex))) ∧
      (field p 1 2 < tableSize id → v.tables.damaged id (field p 1 2) = true →
        exec (.tableRead tag p reads) s = .next (v.reply 0x11 tag (deny .damaged))) ∧
      (field p 1 2 < tableSize id → v.tables.damaged id (field p 1 2) = false →
        exec (.tableRead tag p reads) s = .next (v.reply 0x11 tag
          (accept 0 (be 1 (tableCode id) ++ be 2 (field p 1 2) ++ v.tables.entryBytes id (field p 1 2)))) ∧
        (v.tables.entryBytes id (field p 1 2)).length = entryLength id))

/-- R178, Table 9-3: TABLE_CLEAR, then the condition under which each table is in use. That the verdicts a DEVICE clear
discards are not counted is log 22 (DEDUCED); that an INJECTOR clear leaves the miss counts and the feedback remainders
is log 26 (DEDUCED). The scan of R118 that an INJECTOR clear makes finds no candidate. -/
def Obligations.TableClear : Prop :=
  (∀ (s : State) (tag b : Byte), s.hearing = true →
    (10 ≤ b.toNat → exec (.tableClear tag [b]) s = .next (s.linkFrame.reply 0x12 tag (deny .badTable))) ∧
    (∀ id, tableOf b.toNat = some id →
      (s.clearInUse id = true → exec (.tableClear tag [b]) s = .next (s.linkFrame.reply 0x12 tag (deny .inUse))) ∧
      (s.clearInUse id = false → ∃ u : State, exec (.tableClear tag [b]) s = .next (u.reply 0x12 tag taken) ∧
        u.tables = emptied s.tables id ∧
        (id ≠ .arm → id ≠ .injector → id ≠ .device → id ≠ .bay →
          u = { s.linkFrame with tables := emptied s.tables id }) ∧
        (id = .device → u = { s.linkFrame with
            tables := emptied s.tables id, dport := { s.dport with stations := u.dport.stations } } ∧
          ∀ i, u.station i = ⟨.absent, 0, [], 0⟩) ∧
        (id = .injector → let w : State := { s.linkFrame with tables := emptied s.tables id }
          u = w.scan ∧ (s.additive.waiting = [] → u = w) ∧
          ∀ k b q, s.additive.waiting = [k] → (s.arm k).state = .waitInjector → (s.arm k).batch = some b →
            b.recipe = some q → w.sentBack u k b .recipeUnavailable) ∧
        (id = .arm → ∀ k, (u.meter k).running = false ∧ (u.vol k).temp.state = .absent ∧ (u.arm k).history = []) ∧
        (id = .bay → u = { s.linkFrame with tables := emptied s.tables id, arms := u.arms } ∧
          ∀ k, u.arm k = if s.bay.basis = .gross then s.arm k else { s.arm k with history := [] })))) ∧
  (∀ s : State,
    (s.clearInUse .permit = true ↔ ∃ r, s.session.record = some r ∧ r.permit ≠ none) ∧
    (s.clearInUse .vehicle = true ↔ s.session.record ≠ none) ∧
    (s.clearInUse .bay = true ↔ s.session.record ≠ none) ∧
    (s.clearInUse .product = true ↔ ∃ k, (s.arm k).batch ≠ none) ∧
    (s.clearInUse .recipe = true ↔ ∃ k b, (s.arm k).batch = some b ∧ b.recipe ≠ none) ∧
    (s.clearInUse .injector = true ↔ ∃ j, (s.inj j).state ≠ .free) ∧
    (s.clearInUse .arm = true ↔ ∃ k, (s.arm k).state ≠ .idle) ∧
    (s.clearInUse .device = true ↔
      ∃ i k, (s.device i).role = some .tempXmtr ∧ (s.device i).arm = some k ∧ (s.arm k).state ≠ .idle) ∧
    s.clearInUse .compat = false ∧ s.clearInUse .faultPolicy = false)

/-- R177, R197: an entry that a TABLE_WRITE may store comes back from its own bytes; a VEHICLE entry written with tag 0 is
the empty one (log 13, DEDUCED), whose compartment count lies outside the range of a write. -/
def Obligations.EntryRoundTrip : Prop :=
  (∀ p e, decodePermit p = some e → decodePermit (encodePermit e) = some e) ∧
  (∀ p e, decodeVehicle p = some e → (e.tag ≠ 0 → decodeVehicle (encodeVehicle e) = some e) ∧
    (e.tag = 0 → e = emptyVehicle)) ∧
  (∀ m, decodeCompat (encodeCompat m) = m) ∧
  (∀ p e, decodeProduct p = some e → decodeProduct (encodeProduct e) = some e) ∧
  (∀ p e, decodeRecipe p = some e → decodeRecipe (encodeRecipe e) = some e) ∧
  (∀ p e, decodeInjector p = some e → decodeInjector (encodeInjector e) = some e) ∧
  (∀ p e, decodeArm p = some e → decodeArm (encodeArm e) = some e) ∧
  (∀ p e, decodeDevice p = some e → decodeDevice (encodeDevice e) = some e) ∧
  (∀ c p e, decodePolicy c p = some e → decodePolicy c (encodePolicy e) = some e) ∧
  (∀ p e, decodeBay p = some e → decodeBay (encodeBay e) = some e)

/-- R181: STATUS_READ changes no state and answers the group's figures at their length (Table 10-12). -/
def Obligations.StatusRead : Prop :=
  ∀ (s : State) (tag g a : Byte), s.hearing = true →
    (8 ≤ g.toNat ∨ (g.toNat = 3 ∨ g.toNat = 4) ∧ 4 ≤ a.toNat →
      exec (.statusRead tag [g, a]) s = .next (s.linkFrame.reply 0x13 tag (deny .badValue))) ∧
    (g.toNat < 8 → (g.toNat = 3 ∨ g.toNat = 4 → a.toNat < 4) →
      ∃ d, s.linkFrame.statusGroup g.toNat a.toNat = some d ∧ d.length = statusLength g.toNat ∧
        exec (.statusRead tag [g, a]) s = .next (s.linkFrame.reply 0x13 tag (accept 0 d)))

/-- R46, R59, R80, R131, R156, R183, R187: COUNTER_READ and what its clear flag sets to 0, all else standing. That a
flag byte of neither 0 nor 1 is refused with BAD_VALUE is the model's choice (log 48). -/
def Obligations.CounterRead : Prop :=
  ∀ (s : State) (tag g f : Byte), s.hearing = true →
    (7 ≤ g.toNat ∨ 2 ≤ f.toNat →
      exec (.counterRead tag [g, f]) s = .next (s.linkFrame.reply 0x14 tag (deny .badValue))) ∧
    (g.toNat < 7 → f.toNat < 2 → ∃ (d : List Byte) (u : State), s.linkFrame.counterGroup g.toNat = some d ∧
      d.length = counterLength g.toNat ∧ exec (.counterRead tag [g, f]) s = .next (u.reply 0x14 tag (accept 0 d)) ∧
      (f = 0 → u = s.linkFrame) ∧
      (f = 1 →
        (g = 0 → u = { s.linkFrame with safety := { s.safety with
            inputs := u.safety.inputs, deadman := { s.safety.deadman with presses := 0 } } } ∧
          ∀ i, u.input i = { s.input i with chatter := 0 }) ∧
        (g = 1 → u = { s.linkFrame with meters := u.meters, session := { s.session with chattered := 0 } } ∧
          ∀ k, u.meter k = { s.meter k with discrepancies := 0, reverses := 0 }) ∧
        (g = 2 → u = { s.linkFrame with volumes := u.volumes } ∧
          ∀ k, u.vol k = { s.vol k with badSamples := 0, clamps := 0, overruns := 0 }) ∧
        (g = 3 → u = { s.linkFrame with additive := { s.additive with injectors := u.additive.injectors } } ∧
          ∀ j, u.inj j = { s.inj j with stray := 0 }) ∧
        (g = 4 → u = s.linkFrame) ∧
        (g = 5 → u = { s.linkFrame with
          uport := { s.linkFrame.uport with framing := 0, check := 0, incomplete := 0, overlapping := 0 }
          dport := { s.dport with
            framing := 0, check := 0, incomplete := 0, unexpected := 0, verdictDrop := 0, relayDrop := 0 } }) ∧
        (g = 6 → u = { s.linkFrame with retention := { s.retention with correctable := 0, overflow := false } })))

/-- R9, R155, R157, R185: BAY_COMMAND, and the broadcasts that reach an owner without a reply; the U receiver takes
nothing while UDE is asserted. -/
def Obligations.ServiceFlag : Prop :=
  (∀ (s : State) (tag b : Byte), s.hearing = true →
    (2 ≤ b.toNat → exec (.bayCommand tag [b]) s = .next (s.linkFrame.reply 0x16 tag (deny .badValue))) ∧
    (b = 1 → exec (.bayCommand tag [b]) s =
      .next (({ s.linkFrame with session := { s.session with inService := true } } : State).reply 0x16 tag taken)) ∧
    (b = 0 → s.session.record.isSome = true →
      exec (.bayCommand tag [b]) s = .next (s.linkFrame.reply 0x16 tag (deny .wrongState))) ∧
    (b = 0 → s.session.record = none → s.session.presentation = none → exec (.bayCommand tag [b]) s =
      .next (({ s.linkFrame with session := { s.session with inService := false } } : State).reply 0x16 tag taken)) ∧
    (∀ x, b = 0 → s.session.record = none → s.session.presentation = some x →
      ∃ u : State, exec (.bayCommand tag [b]) s = .next (u.reply 0x16 tag taken) ∧
        u.session = { s.session with inService := false, presentation := none } ∧ u.tables = s.tables ∧
        u.dport = (s.tellReader (.refuse .bayNotReady)).dport)) ∧
  (∀ (s : State) (kind : Byte) (p : List Byte), s.live = true →
    (s.ude = true → exec (.broadcastRequest kind p) s = .next s) ∧
    (s.ude = false → s.uport.inHand.isSome = true → exec (.broadcastRequest kind p) s =
      .next { s with uport := { s.uport with overlapping := min 65535 (s.uport.overlapping + 1) } }) ∧
    (s.uport.inHand = none → kind = 0x15 → p.length = 5 →
      exec (.broadcastRequest kind p) s = .next (s.linkFrame.clockSet p).1) ∧
    (s.uport.inHand = none → kind = 0x16 → p = [0] →
      exec (.broadcastRequest kind p) s = .next (s.linkFrame.bayCommand [0]).1) ∧
    (s.uport.inHand = none → ¬(kind = 0x15 ∧ p.length = 5) → ¬(kind = 0x16 ∧ p = [0]) →
      exec (.broadcastRequest kind p) s = .next s.linkFrame))

/-! ### The rack lines (chapter 8) -/

/-- R172: RELAY. -/
def Obligations.RelayTaken : Prop :=
  ∀ (s : State) (tag a t : Byte) (p : List Byte), s.hearing = true → p.length ≤ 48 →
    (s.findDevice a = none →
      exec (.relay tag (a :: t :: p)) s = .next (s.linkFrame.reply 0x0F tag (deny .noSuchStation))) ∧
    (∀ i, s.findDevice a = some i →
      (∀ k, (s.device i).role = some .tempXmtr → (s.device i).arm = some k → (s.arm k).state ≠ .idle →
        exec (.relay tag (a :: t :: p)) s = .next (s.linkFrame.reply 0x0F tag (deny .locked))) ∧
      ((s.device i).role ≠ some .tempXmtr ∨ (∀ k, (s.device i).arm = some k → (s.arm k).state = .idle) →
        (4 ≤ s.dport.relayDown.length →
          exec (.relay tag (a :: t :: p)) s = .next (s.linkFrame.reply 0x0F tag (deny .queueFull))) ∧
        (s.dport.relayDown.length < 4 → exec (.relay tag (a :: t :: p)) s =
          .next (({ s.linkFrame with dport := { s.dport with
            relayDown := s.dport.relayDown ++ [⟨a, t, p⟩] } } : State).reply 0x0F tag
              (accept 0 [BitVec.ofNat 8 (s.dport.relayDown.length + 1)])))))

/-- R155, R157, R158, R164, R176: the checks the U port makes before a request reaches its owner; while UDE is asserted
its receiver takes nothing. The frame of every request that is heard restarts the link silence timer and makes a STANDALONE
link ONLINE with its event, and does nothing else: this is `linkFrame`, spelled here for every statement on a request. -/
def Obligations.RequestChecks : Prop :=
  (∀ (s : State) (c : Instr) (kind tag : Byte) (ok : Bool), asRequest c = some (kind, tag, ok) → s.live = true →
    (s.ude = true → exec c s = .next s) ∧
    (s.ude = false → s.uport.inHand.isSome = true → exec c s =
      .next { s with uport := { s.uport with overlapping := min 65535 (s.uport.overlapping + 1) } }) ∧
    (s.uport.inHand = none → (s.uport.address = 0 ∨ s.uport.address = 31) → exec c s = .next s) ∧
    (s.hearing = true → ok = false → exec c s = .next (s.linkFrame.reply kind tag (deny .badLength)))) ∧
  (∀ (s : State) (kind tag : Byte) (p : List Byte), s.hearing = true → p.length ≤ 240 →
    exec (.unknownRequest kind tag p) s = .next (s.linkFrame.reply kind tag (deny .unknownRequest))) ∧
  (∀ s : State, let heard : UPort := { s.uport with
      silence := some (s.now + s.bay.linkSilence * 1000), assembling := false }
    (s.uport.link = .online → s.linkFrame = { s with uport := heard }) ∧
    (s.uport.link = .standalone → s.linkFrame =
      ({ s with uport := { heard with link := .online } } : State).raise (.linkState .online)))

/-- R158, R159, with R161 to R163's filling: how many slots a reply offers and carries, which class fills each and with
which record, what leaves the two queues and what joins them, its header with the flags left after filling, its data, the
slots' bytes in order, and its length. R160, R161: an event joins the tail with the bay clock, and with 32 held it is
discarded and counted as lost: this is `raise`, spelled here for every statement on an event. -/
def Obligations.ReplySlots : Prop :=
  (∀ (s : State) (e : Event),
    (s.uport.events.length < 32 → s.raise e =
      { s with uport := { s.uport with events := s.uport.events ++ [⟨e, s.custody.clock⟩] } }) ∧
    (32 ≤ s.uport.events.length → s.raise e =
      { s with uport := { s.uport with lost := min 255 (s.uport.lost + 1) } })) ∧
  ∀ (s : State) (kind tag : Byte) (a : Answer), a.data.length ≤ 232 →
    ∃ r, (s.reply kind tag a).uport.inHand = some r ∧ r.kind = kind ∧ r.tag = tag ∧ r.source = s.uport.address ∧
      r.answer = a ∧ s.reply kind tag a = { s with uport := (s.reply kind tag a).uport } ∧
      (∃ cs, s.uport.fills (s.reply kind tag a).uport s.custody.clock r.slots cs) ∧
      r.slots.length ≤ min 3 ((236 - a.data.length) / 56) ∧
      (replyPayload r).length = 4 + a.data.length + 56 * r.slots.length ∧ (replyPayload r).length ≤ 240 ∧
      (replyPayload r).take 3 = [BitVec.ofNat 8 (answerCode a.code), BitVec.ofNat 8 a.detail,
        BitVec.ofNat 8 r.slots.length] ∧
      ((replyPayload r).drop 3).take 1 = [BitVec.ofNat 8 ((if r.moreEvents then 1 else 0)
        + (if r.moreRelay then 2 else 0) + (if r.eventsLost then 4 else 0))] ∧
      (∀ i x, r.slots[i]? = some x → (slotBytes x).length = 56 ∧
        ((replyPayload r).drop (4 + a.data.length + 56 * i)).take 56 = slotBytes x) ∧
      (s.reply kind tag a).uport.phase = .built s.now ∧ ((replyPayload r).drop 4).take a.data.length = a.data ∧
      (r.slots.length < min 3 ((236 - a.data.length) / 56) →
        (s.reply kind tag a).uport.events = [] ∧ firstFilled (s.reply kind tag a).uport.relayUp = none) ∧
      r.moreEvents = !(s.reply kind tag a).uport.events.isEmpty ∧
      r.moreRelay = (firstFilled (s.reply kind tag a).uport.relayUp).isSome ∧
      r.eventsLost = decide (0 < (s.reply kind tag a).uport.lost)

/-- R13, R14, R155, R157, R158, R164, R186: RESET is answered first, the end of a reply frees the U port, releases UDE
and lets a RESET fall due, and the link silence timer's expiry, which decides a pending presentation; its refusal reports
the tag record's tag as it stands (log 34, DEDUCED), its opening takes the vehicle's index that the presentation keeps
(log 5, DEDUCED) and queues NOTE_QUEUE_HIGH first (log 7). An end commanded without a reply, and an expiry commanded while
the timer is stopped, have no effect (the model's choices, logs 30 and 20). -/
def Obligations.ReplyEndAndLinkLoss : Prop :=
  ∀ s : State, s.live = true →
    (∀ tag : Byte, s.hearing = true → exec (.resetRequest tag []) s =
      .next (({ s.linkFrame with uport := { s.linkFrame.uport with resetAsked := true } } : State).reply 0x17 tag
        taken)) ∧
    (s.uport.inHand.isSome = true → exec .replyComplete s = .next { s with uport := { s.uport with
      inHand := none, phase := .none, resetDue := s.uport.resetDue || s.uport.resetAsked, resetAsked := false } }) ∧
    (s.uport.inHand = none → exec .replyComplete s = .next s) ∧
    (s.uport.silence = none → exec .linkSilenceExpiry s = .next s) ∧
    (s.uport.silence.isSome = true → s.uport.link = .standalone → exec .linkSilenceExpiry s =
      .next { s with uport := { s.uport with silence := none } }) ∧
    (s.uport.silence.isSome = true → s.uport.link = .online →
      let v := ({ s with uport := { s.uport with silence := none, link := .standalone } } : State).raise
        (.linkState .standalone)
      (s.session.presentation = none → exec .linkSilenceExpiry s = .next v) ∧
      (∀ x e, s.session.presentation = some x → s.permitCheck x.card x.tag = .error e →
        exec .linkSilenceExpiry s = .next (({ v with session := { s.session with presentation := none } } : State).refuse
          x.card ((s.session.tagRecord.map TagRec.tag).getD 0) e 0)) ∧
      (∀ x p, s.session.presentation = some x → s.permitCheck x.card x.tag = .ok p → s.canonical = true →
        ∃ (u : State) (r : Session), exec .linkSilenceExpiry s = .next u ∧
          u = { v with
            session := { s.session with
              presentation := none, record := some r, idleTimer := u.session.idleTimer }
            custody := { s.custody with
              places := s.custody.places ++ [⟨s.custody.counter.value, .reserved, none, [], false, false⟩] }
            tables := { s.tables with permits := u.tables.permits }, uport := u.uport, dport := u.dport } ∧
          r.card = x.card ∧ r.tag = x.tag ∧ r.permit = some p ∧ r.vehicle = x.vehicle ∧ r.source = .local_ ∧
          r.number = s.custody.counter.value ∧ r.openTime = s.custody.clock ∧ r.lines = [] ∧ r.closing = none ∧
          u.permit p = { s.permit p with refusals := 0 } ∧ (∀ y, y ≠ p → u.permit y = s.permit y) ∧
          u.dport = (s.tellReader .accept).dport ∧
          u.uport = ((if s.custody.places.length < 13 then v
            else v.raise (.noteQueueHigh (s.custody.places.length + 1) s.filledPlaces)).raise
              (.sessionOpened r.number x.card x.tag .local_ (s.permit p).dailyQuota)).uport))

/-- R153, R154, R155, R157: what the receivers of the two lines count. A receiver takes nothing while its line's driver
enable is asserted. That OVERLAPPING_REQUEST with no request in hand starts a frame is the model's choice (log 31), and so
is that an error of the U line counts with a request in hand and UDE released, when no frame can have begun (log 75). A D
turn that has outlived its timeout is `TurnOutcomes`. -/
def Obligations.ReceiverErrors : Prop :=
  ∀ s : State, s.live = true →
    (s.ude = true → ∀ c, c = .framingError .u true ∨ c = .framingError .u false ∨ c = .frameSilenceTimeout .u ∨
      c = .frameCheckError .u ∨ c = .payloadLengthOverMaximum .u ∨ c = .overlappingRequest ∨
      (∃ a, c = .frameEndedByAddressCharacter .u a) → exec c s = .next s) ∧
    (s.ude = false →
      (∀ f : Bool, exec (.framingError .u f) s = .next { s with uport := { s.uport with
        framing := min 65535 (s.uport.framing + 1)
        incomplete := if f || s.uport.assembling then min 65535 (s.uport.incomplete + 1) else s.uport.incomplete
        assembling := false } }) ∧
      (∀ c, c = .frameSilenceTimeout .u ∨ c = .payloadLengthOverMaximum .u → exec c s =
        .next { s with uport := { s.uport with
          incomplete := min 65535 (s.uport.incomplete + 1), assembling := false } }) ∧
      (exec (.frameCheckError .u) s = .next { s with uport := { s.uport with
        check := min 65535 (s.uport.check + 1), assembling := false } }) ∧
      (s.uport.inHand.isSome = true → exec .overlappingRequest s = .next { s with uport := { s.uport with
        overlapping := min 65535 (s.uport.overlapping + 1) } }) ∧
      (s.uport.inHand = none → exec .overlappingRequest s =
        .next { s with uport := { s.uport with assembling := true } }) ∧
      (∀ a : Byte, s.uport.inHand = none → exec (.frameEndedByAddressCharacter .u a) s =
        .next { s with uport := { s.uport with
          incomplete := min 65535 (s.uport.incomplete + 1)
          assembling := a == 31 || (s.addressed && a == s.uport.address.zeroExtend 8) } }) ∧
      (∀ a : Byte, s.uport.inHand.isSome = true → exec (.frameEndedByAddressCharacter .u a) s =
        .next { s with uport := { s.uport with
          incomplete := min 65535 (s.uport.incomplete + 1), assembling := false
          overlapping := if a == 31 || (s.addressed && a == s.uport.address.zeroExtend 8)
            then min 65535 (s.uport.overlapping + 1) else s.uport.overlapping } })) ∧
    (s.dde = true → ∀ c, c = .framingError .d true ∨ c = .framingError .d false ∨ c = .frameSilenceTimeout .d ∨
      c = .frameCheckError .d ∨ c = .payloadLengthOverMaximum .d ∨ c = .unexpectedFrame ∨
      (∃ a, c = .frameEndedByAddressCharacter .d a) ∨ (∃ a k p, c = .stationResponse a k p) ∨
      (∃ a p, c = .relayResponse a p) → exec c s = .next s) ∧
    (s.dde = false → (∀ t, s.dport.turn = some t → t.phase ≠ .overdue) →
      (∀ f : Bool, exec (.framingError .d f) s = .next { s with dport := { s.dport with
        framing := min 65535 (s.dport.framing + 1)
        incomplete := if f || s.dport.assembling then min 65535 (s.dport.incomplete + 1) else s.dport.incomplete
        assembling := false } }) ∧
      (∀ c, c = .frameSilenceTimeout .d ∨ c = .payloadLengthOverMaximum .d → exec c s =
        .next { s with dport := { s.dport with
          incomplete := min 65535 (s.dport.incomplete + 1), assembling := false } }) ∧
      (exec (.frameCheckError .d) s = .next { s with dport := { s.dport with
        check := min 65535 (s.dport.check + 1), assembling := false } }) ∧
      (∀ a : Byte, exec (.frameEndedByAddressCharacter .d a) s = .next { s with dport := { s.dport with
        incomplete := min 65535 (s.dport.incomplete + 1), assembling := a == 0 || a == 31 } }) ∧
      exec .unexpectedFrame s = .next { s with dport := { s.dport with
        unexpected := min 65535 (s.dport.unexpected + 1), assembling := false } })

/-- R155, R168, R169, R170, R173: what the next turn of the D line is, and the start of its wait. No turn begins while one
is in progress or a frame is being received. A turn is chosen from the cursor of `v`, where an emptied entry is skipped;
while no entry is a station of the round, relay turns alone are made. That the round counter and the cursor stay then is
the model's choice (log 44), and so is that a relay disposed of without a frame leaves the turn passed then too (log
45). -/
def Obligations.TurnsBegin : Prop :=
  ∀ s : State, s.live = true →
    (s.dport.turn.isSome = true ∨ s.dport.assembling = true →
      exec .poll s = .next s ∧ exec .verdictFrame s = .next s ∧ exec .relayTurn s = .next s) ∧
    (s.dport.turn = none → s.dport.assembling = false → ∃ v : State, s.settles v ∧
      (∀ i, v.dport.cursor = some i → v.inRound v.dport.round i = true → (v.station i).verdicts ≠ [] →
        exec .poll s = .next s ∧ exec .relayTurn s = .next s ∧
        ∃ (t : Turn) (u : State), exec .verdictFrame s = .next u ∧ t.kind = .verdict ∧
          t.address = (v.device i).address ∧ t.payload = verdictPayload (v.station i).verdicts ∧ t.phase = .sending ∧
          u.dde = true ∧ u = { v with
            dport := { v.dport with turn := some t, passed := false, stations := u.dport.stations }
            freeUsed := u.freeUsed } ∧
          u.station i = { v.station i with carried := (v.station i).verdicts.length } ∧
          ∀ j, j ≠ i → u.station j = v.station j) ∧
      (∀ i, v.dport.cursor = some i → v.inRound v.dport.round i = true → (v.station i).verdicts = [] →
        (v.relayReady = false ∨ v.dport.passed = true) →
        exec .verdictFrame s = .next s ∧ exec .relayTurn s = .next s ∧
        ∃ (t : Turn) (u : State), exec .poll s = .next u ∧ t.kind = .poll ∧ t.address = (v.device i).address ∧
          t.payload = [] ∧ t.phase = .sending ∧ u.dde = true ∧
          u = { v with dport := { v.dport with turn := some t, passed := false }, freeUsed := u.freeUsed }) ∧
      ((∀ i, v.dport.cursor = some i → v.inRound v.dport.round i = false) →
        exec .poll s = .next s ∧ exec .verdictFrame s = .next s ∧
        (v.relayReady = false → exec .relayTurn s = .next s)) ∧
      (∀ x l, v.dport.relayDown = x :: l → v.uport.relayUp.length < 8 →
        ((∀ i, v.dport.cursor = some i → v.inRound v.dport.round i = false) ∨
          ∃ i, v.dport.cursor = some i ∧ v.inRound v.dport.round i = true ∧ (v.station i).verdicts = [] ∧
            v.dport.passed = false) →
        exec .poll s = .next s ∧ exec .verdictFrame s = .next s ∧
        (v.findDevice x.address = none → exec .relayTurn s = .next { v with
          dport := { v.dport with relayDown := l, passed := true }
          uport := { v.uport with
            relayUp := v.uport.relayUp ++ [.filled (.outcome x.tag x.address .noSuchStation [])] } }) ∧
        (∀ j, v.findDevice x.address = some j → v.lockedEntry (v.device j) = true → exec .relayTurn s = .next { v with
          dport := { v.dport with relayDown := l, passed := true }
          uport := { v.uport with
            relayUp := v.uport.relayUp ++ [.filled (.outcome x.tag x.address .locked [])] } }) ∧
        (∀ j, v.findDevice x.address = some j → v.lockedEntry (v.device j) = false →
          ∃ (t : Turn) (u : State), exec .relayTurn s = .next u ∧ t.kind = .relay ∧ t.address = x.address ∧
            t.payload = x.payload ∧ t.phase = .sending ∧ u = { v with
              dport := { v.dport with relayDown := l, turn := some t, passed := false }
              uport := { v.uport with relayUp := v.uport.relayUp ++ [.reserved x.tag x.address] }
              freeUsed := u.freeUsed }))) ∧
    (∀ t, s.dport.turn = some t → t.phase = .sending → exec .turnLastCharacterSent s =
      .next { s with dport := { s.dport with
        turn := some { t with phase := .waiting, timer := some (s.now + s.bay.dResponseMs) } } }) ∧
    (s.dde = false → exec .turnLastCharacterSent s = .next s)

/-- R167 to R170, R173: how a turn of the D line ends, and where the poll cursor goes: after a poll or a verdict frame, by
a response, a miss or an overdue end, to the next station of the round, an OFFLINE one being a station of round 0 alone, or
into the next round; after a relay it stays. A next round without a station leaves none at the cursor (the model's choice,
log 44). The third miss in a row empties the station's verdict list even where the response STOP_BAY to DEVICE_LOST adds a
REFUSE for the card reader (the model's choice, log 54). A timeout commanded while no turn waits has no effect (the model's
choice, log 20), and one commanded while the port is assembling a frame finds that frame still being received, whatever the
command says (the model's choice, log 62). A turn whose address no entry holds any more misses no station, and its poll or
verdict frame moves the cursor on like another, from an entry rewritten meanwhile too (the model's choice, log 76). -/
def Obligations.TurnOutcomes : Prop :=
  (∀ (s : State) (r : Nat) (i : Fin 12), s.inRound r i = true ↔
    (s.device i).address ≠ 0 ∧ ((s.station i).state ≠ .offline ∨ r = 0)) ∧
  (∀ (s : State) (t : Turn), s.live = true → s.dport.turn = some t → s.findDevice t.address = none →
    t.phase = .waiting → s.dport.assembling = false → ∃ u : State, exec (.dResponseTimeout false) s = .next u ∧
      s.passesOn u t ∧ u = { s with
        dport := { s.dport with turn := none, cursor := u.dport.cursor, round := u.dport.round }, uport := u.uport } ∧
      (t.kind ≠ .relay → u.uport = s.uport) ∧
      (t.kind = .relay → u.uport = { s.uport with relayUp := s.uport.relayUp.map fun x => match x with
        | .reserved g a => .filled (.outcome g a .noResponse [])
        | .filled r => .filled r })) ∧
  ∀ (s : State) (i : Fin 12) (t : Turn), s.live = true → s.dport.turn = some t →
    s.findDevice t.address = some i →
    (t.phase ≠ .sending → t.kind ≠ .relay → ∃ u : State, exec (.stationResponse t.address 0x48 [0]) s = .next u ∧
      s.passesOn u t ∧
      u.station i = { s.station i with
        state := .online, misses := 0
        verdicts := if t.kind = .verdict then (s.station i).verdicts.drop (s.station i).carried
          else (s.station i).verdicts
        carried := if t.kind = .verdict then 0 else (s.station i).carried } ∧
      (∀ j, j ≠ i → u.station j = s.station j) ∧
      u = { s with
        dport := { s.dport with
          turn := none, assembling := false, stations := u.dport.stations, cursor := u.dport.cursor
          round := u.dport.round }
        uport := u.uport } ∧
      ((s.station i).state ≠ .offline → u.uport = s.uport) ∧
      ((s.station i).state = .offline → u.uport = (s.raise (.deviceState (s.device i).address (s.device i).role
        (s.device i).arm .online)).uport)) ∧
    (t.phase ≠ .sending → t.kind = .relay → (s.station i).state ≠ .offline → ∀ p : List Byte,
      ∃ u : State, exec (.relayResponse t.address p) s = .next u ∧ s.passesOn u t ∧
      u.dport.turn = none ∧ (u.station i).state = .online ∧ (u.station i).misses = 0 ∧
      u.uport = { s.uport with relayUp := s.uport.relayUp.map fun x => match x with
        | .reserved g a => .filled (.outcome g a .replied p)
        | .filled r => .filled r } ∧ u.dport.relayDown = s.dport.relayDown) ∧
    (∀ r, t.phase = .waiting → (r = true ∨ s.dport.assembling = true) → exec (.dResponseTimeout r) s =
      .next { s with dport := { s.dport with turn := some { t with phase := .overdue, timer := none } } }) ∧
    (t.phase ≠ .waiting → ∀ r, exec (.dResponseTimeout r) s = .next s) ∧
    (t.phase = .waiting → s.dport.assembling = false → (s.station i).state ≠ .offline → (s.station i).misses < 2 →
      ∃ u : State, exec (.dResponseTimeout false) s = .next u ∧ s.passesOn u t ∧
        u = { s with
          dport := { s.dport with
            turn := none, stations := u.dport.stations, cursor := u.dport.cursor, round := u.dport.round }
          uport := u.uport } ∧
        u.station i = { s.station i with state := .silent, misses := (s.station i).misses + 1, carried := 0 } ∧
        (∀ j, j ≠ i → u.station j = s.station j) ∧
        (t.kind ≠ .relay → u.uport = s.uport) ∧
        (t.kind = .relay → u.uport = { s.uport with relayUp := s.uport.relayUp.map fun x => match x with
          | .reserved g a => .filled (.outcome g a .noResponse [])
          | .filled r => .filled r })) ∧
    (t.phase = .waiting → s.dport.assembling = false → (s.station i).state = .offline →
      ∃ u : State, exec (.dResponseTimeout false) s = .next u ∧ s.passesOn u t ∧ u.dport.turn = none ∧
        u.station i = { s.station i with carried := 0 } ∧ (∀ j, j ≠ i → u.station j = s.station j) ∧
        u.safety = s.safety ∧ (t.kind ≠ .relay → u.uport = s.uport)) ∧
    (t.phase = .waiting → s.dport.assembling = false → (s.station i).state ≠ .offline → 2 ≤ (s.station i).misses →
      ∃ u : State, exec (.dResponseTimeout false) s = .next u ∧ s.passesOn u t ∧ u.dport.turn = none ∧
        u.station i = ⟨.offline, 3, [], 0⟩ ∧
        ((s.device i).role = some .tagReader → u.session.candidate = none) ∧
        ((s.device i).role ≠ some .keypad → (s.device i).role ≠ none →
          (u.fault .deviceLost).count = min 255 ((s.fault .deviceLost).count + 1)) ∧
        ((s.device i).role = some .keypad → u.safety = s.safety)) ∧
    (t.phase = .overdue → (s.station i).state ≠ .offline → (s.station i).misses < 2 → ∃ u : State,
      exec .unexpectedFrame s = .next u ∧ s.passesOn u t ∧ u.dport.turn = none ∧
      u.dport.unexpected = min 65535 (s.dport.unexpected + 1) ∧
      u.station i = { s.station i with state := .silent, misses := (s.station i).misses + 1, carried := 0 })

/-- R166, R169, R171, R195: a record from an address whose entry does not have the record's role, or outside its layout, is
an unexpected frame: it is counted and changes nothing else. A response to a poll or a verdict frame ends its turn as the
empty record does, and the record it carries then reaches its block as the record's own command does, which order is the
model's choice (log 80); one of another kind or layout, a relay response among them (log 27, DEDUCED), is counted; that an empty payload is one of these is the
model's choice (log 79). A frame from an address that no entry holds
any more leaves the turn waiting. The forwarded copy joins the relay-up queue, or is dropped and counted. -/
def Obligations.WrongRoleCounted : Prop :=
  (∀ (s : State) (a : Byte) (c : Instr) (role : Role), s.live = true →
    ((∃ n, c = .card a n ∧ role = .cardReader) ∨ (∃ n, c = .tag a n ∧ role = .tagReader) ∨
      (∃ t q, c = .temp a t q ∧ role = .tempXmtr) ∨ (∃ k x y v r, c = .keySetup a k x y v r ∧ role = .keypad) ∨
      (∃ k, (c = .keyStart a k ∨ c = .keyStop a k ∨ c = .keySuspend a k ∨ c = .keyResume a k) ∧ role = .keypad)) →
    ((∀ i, s.findDevice a = some i → (s.device i).role ≠ some role) ∨
      (∃ t q, c = .temp a t q ∧ 2 ≤ q.toNat) ∨ (∃ k x y v r, c = .keySetup a k x y v r ∧ 999999 < v.toNat)) →
    exec c s = .next { s with dport := { s.dport with unexpected := min 65535 (s.dport.unexpected + 1) } }) ∧
  (∀ (s : State) (t : Turn), s.live = true → s.dport.turn = some t → t.phase ≠ .sending → t.kind ≠ .relay →
    (s.findDevice t.address).isSome = true →
    ∃ w : State, exec (.stationResponse t.address 0x48 [0]) s = .next w ∧ w.live = true ∧ w.dport.turn = none ∧
      (∀ n, exec (.stationResponse t.address 0x48 (cardRecord n)) s = exec (.card t.address n) w) ∧
      (∀ n, exec (.stationResponse t.address 0x48 (tagRecord n)) s = exec (.tag t.address n) w) ∧
      (∀ x q, exec (.stationResponse t.address 0x48 (tempRecord x q)) s = exec (.temp t.address x q) w) ∧
      (∀ k c g v r, exec (.stationResponse t.address 0x48 (keyRecord .setup k c g v r)) s =
        exec (.keySetup t.address k c g v r) w) ∧
      (∀ k, exec (.stationResponse t.address 0x48 (keyRecord .start k 0 0 0 0)) s =
          exec (.keyStart t.address k) w ∧
        exec (.stationResponse t.address 0x48 (keyRecord .stop k 0 0 0 0)) s = exec (.keyStop t.address k) w ∧
        exec (.stationResponse t.address 0x48 (keyRecord .suspend k 0 0 0 0)) s =
          exec (.keySuspend t.address k) w ∧
        exec (.stationResponse t.address 0x48 (keyRecord .resume k 0 0 0 0)) s =
          exec (.keyResume t.address k) w) ∧
      (∀ kind p, (kind ≠ 0x48 ∨ p.length ∉ [1, 4, 5, 6, 9] ∨ 5 ≤ field p 0 1) →
        exec (.stationResponse t.address kind p) s =
          .next { w with dport := { w.dport with unexpected := min 65535 (w.dport.unexpected + 1) } }) ∧
      (∀ p, exec (.relayResponse t.address p) s =
        .next { w with dport := { w.dport with unexpected := min 65535 (w.dport.unexpected + 1) } })) ∧
  (∀ (s : State) (t : Turn) (a kind : Byte) (p : List Byte), s.live = true → s.dport.turn = some t →
    t.phase = .waiting → (a ≠ t.address ∨ s.findDevice t.address = none) →
    exec (.stationResponse a kind p) s = .next { s with dport := { s.dport with
      unexpected := min 65535 (s.dport.unexpected + 1), assembling := false } } ∧
    exec (.relayResponse a p) s = .next { s with dport := { s.dport with
      unexpected := min 65535 (s.dport.unexpected + 1), assembling := false } }) ∧
  (∀ (s : State) (a : Byte) (role : Role) (x : List Byte),
    (s.uport.relayUp.length < 8 → s.forwardCopy a role x =
      { s with uport := { s.uport with relayUp := s.uport.relayUp ++ [.filled (.copy a role x)] } }) ∧
    (8 ≤ s.uport.relayUp.length → s.forwardCopy a role x =
      { s with dport := { s.dport with relayDrop := min 65535 (s.dport.relayDrop + 1) } }))

/-! ### Resets, supplies and retention (chapter 9) -/

/-- R19, R25, R30, R45, R50, R62, R80, R127, R135, R150, R156, R168, R174, R186, R187: the bay reset, and the pin's release.
Every line error counter of both ports stands. Every timer is stopped but two: a safety pin that stands high begins its
debounce (R30), and an enabled channel opens its first window (R50). With a session open, the batches of its running arms end with RESET, their dose records finalised, and the session closes with RESET: the lines,
the charge, the last products, the note and the events. That the arm's state decides where R188 rewrote the batch's
phase is the model's choice (log 50), and so is that BATCH_ENDED carries the line's flags (log 58); byte 31 of the note
takes the bay parameters as they stand at the write (log 16), and the counter passes the number of the record even
where R188 rewrote it (logs 43 and 78). That a permit index read is charged whatever entry stands there is the model's choice
(log 64), and so is that a batch's doses are those of the injectors its records name (log 68). -/
def Obligations.BayReset : Prop :=
  ∀ s : State, s.live = true →
    (s.pins.brst = true → exec (.bayReset .pin) s = .next s) ∧
    (s.uport.resetDue = false → exec (.bayReset .request) s = .next s) ∧
    (exec .brstRelease s = .next { s with pins := { s.pins with brst := false } }) ∧
    (∀ src, (src = .pin ∧ s.pins.brst = false ∨ src = .request ∧ s.uport.resetDue = true) →
      ∃ u : State, exec (.bayReset src) s = .next u ∧ (src = .pin → u.pins = { s.pins with brst := true }) ∧
        u.session.record = none ∧ u.session.presentation = none ∧ u.session.tagRecord = none ∧
        u.session.candidate = none ∧ u.session.idleTimer = none ∧ u.session.inService = s.session.inService ∧
        u.session.quotaDay = s.session.quotaDay ∧ u.safety.faults = s.safety.faults ∧
        (∀ k, u.arm k = ⟨.idle, none, [], 0, none, 0⟩) ∧ (∀ k, u.valve k = .closed) ∧
        (∀ j, u.inj j = Injector.powerOn) ∧ u.additive.waiting = [] ∧
        (∀ i, u.input i = ⟨(s.input i).pin, false,
          if (s.input i).pin then some (s.now + s.debounceTime i) else none, 0⟩) ∧
        u.safety.deadman = ⟨none, false, false, false, 0⟩ ∧
        u.uport.link = .standalone ∧ u.uport.silence = none ∧ u.uport.relayUp = [] ∧ u.uport.inHand = none ∧
        u.uport.phase = .none ∧ u.lineErrors = s.lineErrors ∧ u.dport.round = 0 ∧
        u.dport.cursor = (deviceIxs.find? fun i => (s.device i).address != 0) ∧
        (∀ i, u.station i = ⟨if (s.device i).address = 0 then .absent else .silent, 0, [], 0⟩) ∧
        u.dport.turn = none ∧ u.dport.relayDown = [] ∧
        u.retention = { s.retention with correctable := 0, overflow := false, cursor := 0, passes := 0 } ∧
        u.custody.clock = s.custody.clock ∧ u.custody.gross = s.custody.gross ∧
        (∀ k, (u.meter k).running = (s.armEntry k).enabled ∧
          (u.meter k).window = (if (s.armEntry k).enabled then some (s.now + 250) else none) ∧
          ((s.armEntry k).enabled = true → (u.meter k).n = (s.meter k).n ∧
            (u.meter k).aCount = (s.meter k).aCount ∧ (u.meter k).bCount = (s.meter k).bCount)) ∧
        (∀ k, (u.vol k).unauthRem = (s.vol k).unauthRem ∧ (u.vol k).temp = TempRec.absent ∧
          (u.vol k).staleTimer = none ∧ (u.vol k).lostTimer = none) ∧
        (s.session.record = none → (∀ k, (s.arm k).state = .idle) →
          u.tables = s.tables ∧ u.custody = s.custody ∧ u.uport.events = [] ∧ u.uport.lost = 0) ∧
        (∀ r, s.session.record = some r → s.canonical = true →
          (∀ k b, (s.arm k).batch = some b → (b.doses.map DoseRec.injector).Nodup) →
          s.closesAll u r s.runningBatches .reset .reset ∧ s.charges u r s.runningBatches ∧ u.uport.lost = 0 ∧
          u.uport.events = (s.closingEvents r s.runningBatches .reset .reset).map fun e => ⟨e, s.custody.clock⟩))

/-- R20, R26, R45, R61, R77, R80, R107, R112, R134, R150, R168, R174, R187, R188, R190, R191: loss of the main supply, the
volatile state that goes with it named block by block (that it stands at its power-on values while the supply is away is the
model's choice, log 15), and start-up with retention invalid or valid. A rollover still owed for a midnight passed is made before (log 47, DEDUCED). That POWER_ON starts a
part that has its supply as it starts one without is the model's choice (log 15). With retention valid the words found
in error are met one by one, RETENTION being recorded and latched alone (log 29), also for the session record's words
where no record exists (log 70, DEDUCED); then a session found open closes with POWER_LOSS, each batch that had begun
to flow ending with POWER_LOSS, one found marked closed goes without a note, and the day is checked. Byte 31 of the
note takes the bay parameters as they stand at the write (log 16), the counter passes the number of the record even
where R188 rewrote it (logs 43 and 78), and BATCH_ENDED carries the line's flags (the model's choice, log 58). That a permit
index read is charged whatever entry stands there is the model's choice (log 64). -/
def Obligations.SupplyLossAndStart : Prop :=
  (∀ s : State, s.live = true → s.canonical = true → ∃ u : State, exec .powerFail s = .next u ∧ u.powered = false ∧
    u.tables = { s.tables with permits := u.tables.permits } ∧
    (∀ i, u.permit i = { s.permit i with
      usedToday := if s.custody.midnight then 0 else (s.permit i).usedToday }) ∧
    (s.custody.midnight = false → u.tables = s.tables) ∧
    u.session.record = s.session.record ∧ u.session.inService = s.session.inService ∧
    u.session.quotaDay = (if s.custody.midnight then s.custody.clock / 86400 else s.session.quotaDay) ∧
    u.safety.faults = s.safety.faults ∧
    u.custody = { s.custody with midnight := false } ∧ u.retention.marker = s.retention.marker ∧
    (∀ k, (u.arm k).state = .idle ∧ u.vlo k = false ∧
      (u.arm k).batch.map Batch.gross = (s.arm k).batch.map Batch.gross) ∧
    (∀ k, ∃ b, u.arm k = ⟨.idle, b, [], 0, none, 0⟩) ∧
    u.session.presentation = none ∧ u.session.candidate = none ∧ u.session.tagRecord = none ∧
    u.session.idleTimer = none ∧ u.session.chattered = 0 ∧ u.safety.deadman = ⟨none, false, false, false, 0⟩ ∧
    (∀ i, u.input i = ⟨(s.input i).pin, false, none, 0⟩) ∧
    (∀ k, u.meter k = Meter.powerOn (s.meter k).seenA (s.meter k).seenB) ∧ (∀ k, u.vol k = VolArm.powerOn) ∧
    u.additive = AdditiveBlk.powerOn ∧ u.uport = UPort.powerOn s.pins.straps ∧
    (∀ i, u.station i = ⟨if (s.device i).address = 0 then .absent else .silent, 0, [], 0⟩) ∧
    u.dport = { DPort.powerOn s.pins.straps with stations := u.dport.stations, cursor := u.dport.cursor } ∧
    u.dport.cursor = (deviceIxs.find? fun i => (s.device i).address != 0) ∧
    u.retention = { s.retention with correctable := 0, overflow := false, cursor := 0, passes := 0 }) ∧
  (∀ (s : State) (p : PinLevels) (kept : Bool) (l : List Finding), kept = false ∨ s.retention.marker = false →
    ∃ u : State, exec (.powerOn p kept l) s = .next u ∧ u.powered = true ∧ u.tables = clearedTables ∧
      u.custody = CustodyBlk.cleared ∧ u.session.record = none ∧ u.session.inService = false ∧
      u.session.quotaDay = 0 ∧ (∀ c, u.fault c = FaultRec.empty) ∧ u.retention.marker = true ∧
      u.retention.lastValid = false ∧ u.uport.events = [⟨.retentionLost, 0⟩] ∧ u.bayState = .outOfService ∧
      (∀ k, (u.arm k).state = .idle ∧ (u.meter k).running = false) ∧ u.uport.address = p.straps.sa ∧
      u.dport.cursor = none) ∧
  (∀ (s : State) (p : PinLevels), s.retention.marker = true →
    ∃ u : State, exec (.powerOn p true []) s = .next u ∧ u.powered = true ∧ u.session.record = none ∧
      (∀ k, (u.arm k).state = .idle ∧ (u.arm k).batch = none) ∧ u.safety.faults = s.safety.faults ∧
      u.custody.clock = s.custody.clock ∧ u.custody.gross = s.custody.gross ∧ u.retention.lastValid = true ∧
      u.session.inService = (s.session.inService && s.bay.resumeInService) ∧
      u.session.quotaDay = s.custody.clock / 86400 ∧ u.dport.round = 0 ∧
      u.dport.cursor = (deviceIxs.find? fun i => (s.device i).address != 0) ∧
      (s.session.record = none → s.custody.clock / 86400 = s.session.quotaDay → s.custody.midnight = false →
        u.tables = s.tables ∧ u.custody = { s.custody with midnight := false } ∧ u.uport.events = [])) ∧
  (∀ (s : State) (p : PinLevels), s.retention.marker = true → s.canonical = true → s.custody.midnight = false →
    ∃ v : State, v.tables = s.tables ∧ v.session = { s.session with
        candidate := none, tagRecord := none, chattered := 0, presentation := none, idleTimer := none } ∧
      v.safety.faults = s.safety.faults ∧ v.custody = s.custody ∧ v.uport = UPort.powerOn p.straps ∧
      (∀ k, (v.arm k).state = .idle ∧ ((s.arm k).batch = none → (v.arm k).batch = none) ∧
        ∀ b, (s.arm k).batch = some b → ∃ y, (v.arm k).batch = some y ∧ y.overrun = none ∧
          { y with source := b.source, cause := b.cause, overrun := b.overrun, doses := b.doses } = b ∧
          y.doses.map retainedDose = b.doses.map retainedDose) ∧
      (∀ j, v.inj j = Injector.powerOn) ∧
      ∀ l : List Finding, ∃ u : State, exec (.powerOn p true l) s = .next u ∧
        let w := l.foldl (State.readWord true) v
        let late := w.custody.clock / 86400 ≠ w.session.quotaDay
        u.session.record = none ∧ u.safety.faults = w.safety.faults ∧
        u.session.inService = (w.session.inService && w.bay.resumeInService) ∧
        u.session.quotaDay = w.custody.clock / 86400 ∧
        (late → ∀ i, u.permit i = { w.permit i with usedToday := 0 }) ∧
        ((∀ r, w.session.record = some r → r.closed = true) → u.custody = w.custody ∧
          u.tables.vehicles = w.tables.vehicles ∧ (¬late → u.tables = w.tables) ∧
          u.uport = (if late then w.raise (.dayRollover (w.custody.clock / 86400)) else w).uport) ∧
        (∀ r, w.session.record = some r → r.closed = false →
          (∀ k b, (w.arm k).batch = some b → (b.doses.map DoseRec.injector).Nodup) →
          let c := (w.closingEvents r w.startedBatches .powerLoss .powerLoss).foldl State.raise w
          w.closesAll u r w.startedBatches .powerLoss .powerLoss ∧ (¬late → w.charges u r w.startedBatches) ∧
          u.uport = (if late then c.raise (.dayRollover (w.custody.clock / 86400)) else c).uport)) ∧
  (∀ (s : State) (item : RetItem), s.canonical = true →
    (∀ e, s.live = true → exec (.scrubVisit ⟨item, e⟩) s = .next (s.readWord false ⟨item, e⟩).scrubNext) ∧
    s.readWord true ⟨item, .clean⟩ = s ∧ s.readWord true ⟨item, .single⟩ = s.readWord false ⟨item, .single⟩ ∧
    (s.strikes item = false → s.readWord true ⟨item, .multi⟩ = s.readWord false ⟨item, .multi⟩) ∧
    (s.strikes item = true → ∃ v : State, s.rewords v item ∧
      v.recordsRetention (s.readWord true ⟨item, .multi⟩) item))

/-- R144, R145, R147, R187, R188, R189, Table 9-7: one visit of the scrub, by what the ECC finds: a clean word, a
correctable one, and an uncorrectable error in a word of each item: a table entry and a note word, and every item that
raises RETENTION, which is spelled under its response STOP_BAY with no session open. A presentation pending is then
refused; its refusal reports the tag record's tag as it stands (log 34, DEDUCED). The session record as read, and the
rebuilt place list beside an open session, are stated for the operations; that a rewritten session's number may differ
is log 43, what of the session record and of its batches a rewriting leaves as it stands is the model's choice (log
60), that an error in the session record's words raises RETENTION where no session record exists is log 70 (DEDUCED),
that a note made DAMAGED at its write stands READY again is log 42, the RESERVED place at the tail is log 32, that a
DEVICE entry's station keeps its state and verdicts is the model's choice (log 53). -/
def Obligations.ScrubVisit : Prop :=
  (∀ s : State, s.live = true →
    (∀ item, exec (.scrubVisit ⟨item, .clean⟩) s = .next s.scrubNext) ∧
    (∀ item, ∃ u : State, exec (.scrubVisit ⟨item, .single⟩) s = .next u ∧ u = { s with retention := u.retention } ∧
      u.retention.correctable = min 255 (s.retention.correctable + 1) ∧
      u.retention.overflow = (s.retention.overflow || s.retention.correctable == 255)) ∧
    (∃ u : State, u = s.scrubNext ∧ u = { s with retention := u.retention } ∧
      (u.retention.cursor = s.retention.cursor + 1 ∧ u.retention.passes = s.retention.passes ∨
        u.retention.cursor = 0 ∧ u.retention.passes = min 65535 (s.retention.passes + 1)))) ∧
  (∀ s : State, s.live = true → s.canonical = true →
    (∀ id i, s.tables.damaged id i = true → exec (.scrubVisit ⟨.tableEntry id i, .multi⟩) s = .next s.scrubNext) ∧
    (∀ id i, i < tableSize id → s.tables.damaged id i = false → id ≠ .bay →
      ∃ u : State, exec (.scrubVisit ⟨.tableEntry id i, .multi⟩) s = .next u.scrubNext ∧
        u = { s with tables := u.tables } ∧
        match id with
        | .permit => u.tables = { s.tables with permits := u.tables.permits } ∧
            marked emptyPermit s.tables.permits u.tables.permits i ∧ u.permit i = emptyPermit
        | .vehicle => u.tables = { s.tables with vehicles := u.tables.vehicles } ∧
            marked emptyVehicle s.tables.vehicles u.tables.vehicles i ∧ u.vehicle i = emptyVehicle
        | .compat => u.tables = { s.tables with compat := ⟨s.tables.compat.entry, true⟩ }
        | .product => u.tables = { s.tables with products := u.tables.products } ∧
            marked emptyProduct s.tables.products u.tables.products i
        | .recipe => u.tables = { s.tables with recipes := u.tables.recipes } ∧
            marked emptyRecipe s.tables.recipes u.tables.recipes i
        | .injector => u.tables = { s.tables with injectors := u.tables.injectors } ∧
            marked emptyInjector s.tables.injectors u.tables.injectors i
        | .arm => u.tables = { s.tables with arms := u.tables.arms } ∧
            marked emptyArm s.tables.arms u.tables.arms i
        | .device => u.tables = { s.tables with devices := u.tables.devices } ∧
            marked emptyDevice s.tables.devices u.tables.devices i
        | .faultPolicy => u.tables = { s.tables with policies := u.tables.policies } ∧
            ∀ c, u.policy c = if (faultCode c).val = i then defaultPolicy c else s.policy c
        | .bay => True) ∧
    (∀ n offset word, ∃ u : State, exec (.scrubVisit ⟨.noteWord n offset word, .multi⟩) s = .next u.scrubNext ∧
      u = { s with custody := { s.custody with places := u.custody.places } } ∧
      (∀ m, m ≠ n → u.custody.places[m]? = s.custody.places[m]?) ∧
      (∀ p, s.custody.places[n]? = some p → p.state = .reserved → u = s) ∧
      (∀ p, s.custody.places[n]? = some p → p.state ≠ .reserved → u.custody.places[n]? = some { p with
        state := .damaged, headerBad := p.headerBad || offset < 32
        bodyBad := p.bodyBad || 32 ≤ offset || 32 < offset + word.length
        form := if offset + word.length ≤ p.form.length
          then p.form.take offset ++ word ++ p.form.drop (offset + word.length) else p.form })) ∧
    (∀ item, s.strikes item = true → ∃ v : State, s.rewords v item ∧
      exec (.scrubVisit ⟨item, .multi⟩) s =
        .next (v.raiseFault .retention none (.retention (itemCode item)) false none).scrubNext ∧
      (s.session.record = none → (s.policy .retention).mode = .stopBay → ∃ u : State, v.raisesRetention u item ∧
        exec (.scrubVisit ⟨item, .multi⟩) s = .next u.scrubNext))) ∧
  (∀ s : State, ∃ l : List Place,
    s.rebuildPlaces = { s with custody := { s.custody with places := l ++ (match s.session.record with
      | some r => if r.closed then [] else [⟨r.number, .reserved, none, [], false, false⟩]
      | none => []) } } ∧
    (l.map Place.number).Pairwise (· ≤ ·) ∧
    l.Perm ((s.custody.places.filter fun p => p.state != .reserved && !p.headerBad).map fun p =>
      { p with state := if p.bodyBad then .damaged else .ready })) ∧
  (∀ (s : State) (img : SessionImage) (r : Session), s.session.record = some r →
    ∃ u : State, u = s.rewriteSession img ∧
      u = { s with session := { s.session with record := some { img.session with
        closing := r.closing, closed := r.closed, damaged := true } }, arms := u.arms } ∧
      ∀ k, (∀ x b, Vec.get img.batches k = some x → (s.arm k).batch = some b →
          ∃ y, u.arm k = { s.arm k with batch := some y } ∧ y.source = b.source ∧ y.cause = b.cause ∧
            y.overrun = b.overrun ∧
            { y with source := x.source, cause := x.cause, overrun := x.overrun, doses := x.doses } = x) ∧
        (Vec.get img.batches k = none ∨ (s.arm k).batch = none → u.arm k = s.arm k))
end

