-- ==== Sys2Proof/Laws/State.lean ====
section
/-! SUPPORT. One lemma per field per update of State, and the reads of a fixed collection after a write. -/

namespace Sys2Proof

@[simp] theorem Vec.get_set_same {α : Type} {n : Nat} (v : Vector α n) (k : Fin n) (x : α) :
    Vec.get (Vec.set v k x) k = x := by simp [Vec.get, Vec.set]

@[simp] theorem Vec.get_set_ne {α : Type} {n : Nat} (v : Vector α n) (k j : Fin n) (x : α) (h : j ≠ k) :
    Vec.get (Vec.set v k x) j = Vec.get v j := by
  have h' : k.val ≠ j.val := fun e => h (Fin.ext e.symm)
  simp [Vec.get, Vec.set, h']

theorem Vec.get_set {α : Type} {n : Nat} (v : Vector α n) (k j : Fin n) (x : α) :
    Vec.get (Vec.set v k x) j = if j = k then x else Vec.get v j := by
  by_cases h : j = k
  · subst h; simp
  · simp [h]

@[simp] theorem Vec.set_get_self {α : Type} {n : Nat} (v : Vector α n) (k : Fin n) :
    Vec.set v k (Vec.get v k) = v := by simp [Vec.get, Vec.set]

namespace Machine

@[simp] theorem State.withPowered_powered (s : State) (x : Bool) : (s.withPowered x).powered = x := rfl
@[simp] theorem State.withPowered_now (s : State) (x : Bool) : (s.withPowered x).now = s.now := rfl
@[simp] theorem State.withPowered_pins (s : State) (x : Bool) : (s.withPowered x).pins = s.pins := rfl
@[simp] theorem State.withPowered_tables (s : State) (x : Bool) : (s.withPowered x).tables = s.tables := rfl
@[simp] theorem State.withPowered_session (s : State) (x : Bool) : (s.withPowered x).session = s.session := rfl
@[simp] theorem State.withPowered_safety (s : State) (x : Bool) : (s.withPowered x).safety = s.safety := rfl
@[simp] theorem State.withPowered_meters (s : State) (x : Bool) : (s.withPowered x).meters = s.meters := rfl
@[simp] theorem State.withPowered_volumes (s : State) (x : Bool) : (s.withPowered x).volumes = s.volumes := rfl
@[simp] theorem State.withPowered_arms (s : State) (x : Bool) : (s.withPowered x).arms = s.arms := rfl
@[simp] theorem State.withPowered_additive (s : State) (x : Bool) : (s.withPowered x).additive = s.additive := rfl
@[simp] theorem State.withPowered_custody (s : State) (x : Bool) : (s.withPowered x).custody = s.custody := rfl
@[simp] theorem State.withPowered_uport (s : State) (x : Bool) : (s.withPowered x).uport = s.uport := rfl
@[simp] theorem State.withPowered_dport (s : State) (x : Bool) : (s.withPowered x).dport = s.dport := rfl
@[simp] theorem State.withPowered_retention (s : State) (x : Bool) : (s.withPowered x).retention = s.retention := rfl
@[simp] theorem State.withPowered_freeUsed (s : State) (x : Bool) : (s.withPowered x).freeUsed = s.freeUsed := rfl
@[simp] theorem State.withPowered_pending (s : State) (x : Bool) : (s.withPowered x).pending = s.pending := rfl

@[simp] theorem State.withNow_powered (s : State) (x : Nat) : (s.withNow x).powered = s.powered := rfl
@[simp] theorem State.withNow_now (s : State) (x : Nat) : (s.withNow x).now = x := rfl
@[simp] theorem State.withNow_pins (s : State) (x : Nat) : (s.withNow x).pins = s.pins := rfl
@[simp] theorem State.withNow_tables (s : State) (x : Nat) : (s.withNow x).tables = s.tables := rfl
@[simp] theorem State.withNow_session (s : State) (x : Nat) : (s.withNow x).session = s.session := rfl
@[simp] theorem State.withNow_safety (s : State) (x : Nat) : (s.withNow x).safety = s.safety := rfl
@[simp] theorem State.withNow_meters (s : State) (x : Nat) : (s.withNow x).meters = s.meters := rfl
@[simp] theorem State.withNow_volumes (s : State) (x : Nat) : (s.withNow x).volumes = s.volumes := rfl
@[simp] theorem State.withNow_arms (s : State) (x : Nat) : (s.withNow x).arms = s.arms := rfl
@[simp] theorem State.withNow_additive (s : State) (x : Nat) : (s.withNow x).additive = s.additive := rfl
@[simp] theorem State.withNow_custody (s : State) (x : Nat) : (s.withNow x).custody = s.custody := rfl
@[simp] theorem State.withNow_uport (s : State) (x : Nat) : (s.withNow x).uport = s.uport := rfl
@[simp] theorem State.withNow_dport (s : State) (x : Nat) : (s.withNow x).dport = s.dport := rfl
@[simp] theorem State.withNow_retention (s : State) (x : Nat) : (s.withNow x).retention = s.retention := rfl
@[simp] theorem State.withNow_freeUsed (s : State) (x : Nat) : (s.withNow x).freeUsed = s.freeUsed := rfl
@[simp] theorem State.withNow_pending (s : State) (x : Nat) : (s.withNow x).pending = s.pending := rfl

@[simp] theorem State.withPins_powered (s : State) (x : Pins) : (s.withPins x).powered = s.powered := rfl
@[simp] theorem State.withPins_now (s : State) (x : Pins) : (s.withPins x).now = s.now := rfl
@[simp] theorem State.withPins_pins (s : State) (x : Pins) : (s.withPins x).pins = x := rfl
@[simp] theorem State.withPins_tables (s : State) (x : Pins) : (s.withPins x).tables = s.tables := rfl
@[simp] theorem State.withPins_session (s : State) (x : Pins) : (s.withPins x).session = s.session := rfl
@[simp] theorem State.withPins_safety (s : State) (x : Pins) : (s.withPins x).safety = s.safety := rfl
@[simp] theorem State.withPins_meters (s : State) (x : Pins) : (s.withPins x).meters = s.meters := rfl
@[simp] theorem State.withPins_volumes (s : State) (x : Pins) : (s.withPins x).volumes = s.volumes := rfl
@[simp] theorem State.withPins_arms (s : State) (x : Pins) : (s.withPins x).arms = s.arms := rfl
@[simp] theorem State.withPins_additive (s : State) (x : Pins) : (s.withPins x).additive = s.additive := rfl
@[simp] theorem State.withPins_custody (s : State) (x : Pins) : (s.withPins x).custody = s.custody := rfl
@[simp] theorem State.withPins_uport (s : State) (x : Pins) : (s.withPins x).uport = s.uport := rfl
@[simp] theorem State.withPins_dport (s : State) (x : Pins) : (s.withPins x).dport = s.dport := rfl
@[simp] theorem State.withPins_retention (s : State) (x : Pins) : (s.withPins x).retention = s.retention := rfl
@[simp] theorem State.withPins_freeUsed (s : State) (x : Pins) : (s.withPins x).freeUsed = s.freeUsed := rfl
@[simp] theorem State.withPins_pending (s : State) (x : Pins) : (s.withPins x).pending = s.pending := rfl

@[simp] theorem State.withTables_powered (s : State) (x : Tables) : (s.withTables x).powered = s.powered := rfl
@[simp] theorem State.withTables_now (s : State) (x : Tables) : (s.withTables x).now = s.now := rfl
@[simp] theorem State.withTables_pins (s : State) (x : Tables) : (s.withTables x).pins = s.pins := rfl
@[simp] theorem State.withTables_tables (s : State) (x : Tables) : (s.withTables x).tables = x := rfl
@[simp] theorem State.withTables_session (s : State) (x : Tables) : (s.withTables x).session = s.session := rfl
@[simp] theorem State.withTables_safety (s : State) (x : Tables) : (s.withTables x).safety = s.safety := rfl
@[simp] theorem State.withTables_meters (s : State) (x : Tables) : (s.withTables x).meters = s.meters := rfl
@[simp] theorem State.withTables_volumes (s : State) (x : Tables) : (s.withTables x).volumes = s.volumes := rfl
@[simp] theorem State.withTables_arms (s : State) (x : Tables) : (s.withTables x).arms = s.arms := rfl
@[simp] theorem State.withTables_additive (s : State) (x : Tables) : (s.withTables x).additive = s.additive := rfl
@[simp] theorem State.withTables_custody (s : State) (x : Tables) : (s.withTables x).custody = s.custody := rfl
@[simp] theorem State.withTables_uport (s : State) (x : Tables) : (s.withTables x).uport = s.uport := rfl
@[simp] theorem State.withTables_dport (s : State) (x : Tables) : (s.withTables x).dport = s.dport := rfl
@[simp] theorem State.withTables_retention (s : State) (x : Tables) : (s.withTables x).retention = s.retention := rfl
@[simp] theorem State.withTables_freeUsed (s : State) (x : Tables) : (s.withTables x).freeUsed = s.freeUsed := rfl
@[simp] theorem State.withTables_pending (s : State) (x : Tables) : (s.withTables x).pending = s.pending := rfl

@[simp] theorem State.withSession_powered (s : State) (x : SessionBlk) : (s.withSession x).powered = s.powered := rfl
@[simp] theorem State.withSession_now (s : State) (x : SessionBlk) : (s.withSession x).now = s.now := rfl
@[simp] theorem State.withSession_pins (s : State) (x : SessionBlk) : (s.withSession x).pins = s.pins := rfl
@[simp] theorem State.withSession_tables (s : State) (x : SessionBlk) : (s.withSession x).tables = s.tables := rfl
@[simp] theorem State.withSession_session (s : State) (x : SessionBlk) : (s.withSession x).session = x := rfl
@[simp] theorem State.withSession_safety (s : State) (x : SessionBlk) : (s.withSession x).safety = s.safety := rfl
@[simp] theorem State.withSession_meters (s : State) (x : SessionBlk) : (s.withSession x).meters = s.meters := rfl
@[simp] theorem State.withSession_volumes (s : State) (x : SessionBlk) : (s.withSession x).volumes = s.volumes := rfl
@[simp] theorem State.withSession_arms (s : State) (x : SessionBlk) : (s.withSession x).arms = s.arms := rfl
@[simp] theorem State.withSession_additive (s : State) (x : SessionBlk) : (s.withSession x).additive = s.additive := rfl
@[simp] theorem State.withSession_custody (s : State) (x : SessionBlk) : (s.withSession x).custody = s.custody := rfl
@[simp] theorem State.withSession_uport (s : State) (x : SessionBlk) : (s.withSession x).uport = s.uport := rfl
@[simp] theorem State.withSession_dport (s : State) (x : SessionBlk) : (s.withSession x).dport = s.dport := rfl
@[simp] theorem State.withSession_retention (s : State) (x : SessionBlk) : (s.withSession x).retention = s.retention := rfl
@[simp] theorem State.withSession_freeUsed (s : State) (x : SessionBlk) : (s.withSession x).freeUsed = s.freeUsed := rfl
@[simp] theorem State.withSession_pending (s : State) (x : SessionBlk) : (s.withSession x).pending = s.pending := rfl

@[simp] theorem State.withSafety_powered (s : State) (x : SafetyBlk) : (s.withSafety x).powered = s.powered := rfl
@[simp] theorem State.withSafety_now (s : State) (x : SafetyBlk) : (s.withSafety x).now = s.now := rfl
@[simp] theorem State.withSafety_pins (s : State) (x : SafetyBlk) : (s.withSafety x).pins = s.pins := rfl
@[simp] theorem State.withSafety_tables (s : State) (x : SafetyBlk) : (s.withSafety x).tables = s.tables := rfl
@[simp] theorem State.withSafety_session (s : State) (x : SafetyBlk) : (s.withSafety x).session = s.session := rfl
@[simp] theorem State.withSafety_safety (s : State) (x : SafetyBlk) : (s.withSafety x).safety = x := rfl
@[simp] theorem State.withSafety_meters (s : State) (x : SafetyBlk) : (s.withSafety x).meters = s.meters := rfl
@[simp] theorem State.withSafety_volumes (s : State) (x : SafetyBlk) : (s.withSafety x).volumes = s.volumes := rfl
@[simp] theorem State.withSafety_arms (s : State) (x : SafetyBlk) : (s.withSafety x).arms = s.arms := rfl
@[simp] theorem State.withSafety_additive (s : State) (x : SafetyBlk) : (s.withSafety x).additive = s.additive := rfl
@[simp] theorem State.withSafety_custody (s : State) (x : SafetyBlk) : (s.withSafety x).custody = s.custody := rfl
@[simp] theorem State.withSafety_uport (s : State) (x : SafetyBlk) : (s.withSafety x).uport = s.uport := rfl
@[simp] theorem State.withSafety_dport (s : State) (x : SafetyBlk) : (s.withSafety x).dport = s.dport := rfl
@[simp] theorem State.withSafety_retention (s : State) (x : SafetyBlk) : (s.withSafety x).retention = s.retention := rfl
@[simp] theorem State.withSafety_freeUsed (s : State) (x : SafetyBlk) : (s.withSafety x).freeUsed = s.freeUsed := rfl
@[simp] theorem State.withSafety_pending (s : State) (x : SafetyBlk) : (s.withSafety x).pending = s.pending := rfl

@[simp] theorem State.withMeters_powered (s : State) (x : Vector Meter 4) : (s.withMeters x).powered = s.powered := rfl
@[simp] theorem State.withMeters_now (s : State) (x : Vector Meter 4) : (s.withMeters x).now = s.now := rfl
@[simp] theorem State.withMeters_pins (s : State) (x : Vector Meter 4) : (s.withMeters x).pins = s.pins := rfl
@[simp] theorem State.withMeters_tables (s : State) (x : Vector Meter 4) : (s.withMeters x).tables = s.tables := rfl
@[simp] theorem State.withMeters_session (s : State) (x : Vector Meter 4) : (s.withMeters x).session = s.session := rfl
@[simp] theorem State.withMeters_safety (s : State) (x : Vector Meter 4) : (s.withMeters x).safety = s.safety := rfl
@[simp] theorem State.withMeters_meters (s : State) (x : Vector Meter 4) : (s.withMeters x).meters = x := rfl
@[simp] theorem State.withMeters_volumes (s : State) (x : Vector Meter 4) : (s.withMeters x).volumes = s.volumes := rfl
@[simp] theorem State.withMeters_arms (s : State) (x : Vector Meter 4) : (s.withMeters x).arms = s.arms := rfl
@[simp] theorem State.withMeters_additive (s : State) (x : Vector Meter 4) : (s.withMeters x).additive = s.additive := rfl
@[simp] theorem State.withMeters_custody (s : State) (x : Vector Meter 4) : (s.withMeters x).custody = s.custody := rfl
@[simp] theorem State.withMeters_uport (s : State) (x : Vector Meter 4) : (s.withMeters x).uport = s.uport := rfl
@[simp] theorem State.withMeters_dport (s : State) (x : Vector Meter 4) : (s.withMeters x).dport = s.dport := rfl
@[simp] theorem State.withMeters_retention (s : State) (x : Vector Meter 4) : (s.withMeters x).retention = s.retention := rfl
@[simp] theorem State.withMeters_freeUsed (s : State) (x : Vector Meter 4) : (s.withMeters x).freeUsed = s.freeUsed := rfl
@[simp] theorem State.withMeters_pending (s : State) (x : Vector Meter 4) : (s.withMeters x).pending = s.pending := rfl

@[simp] theorem State.withVolumes_powered (s : State) (x : Vector VolArm 4) : (s.withVolumes x).powered = s.powered := rfl
@[simp] theorem State.withVolumes_now (s : State) (x : Vector VolArm 4) : (s.withVolumes x).now = s.now := rfl
@[simp] theorem State.withVolumes_pins (s : State) (x : Vector VolArm 4) : (s.withVolumes x).pins = s.pins := rfl
@[simp] theorem State.withVolumes_tables (s : State) (x : Vector VolArm 4) : (s.withVolumes x).tables = s.tables := rfl
@[simp] theorem State.withVolumes_session (s : State) (x : Vector VolArm 4) : (s.withVolumes x).session = s.session := rfl
@[simp] theorem State.withVolumes_safety (s : State) (x : Vector VolArm 4) : (s.withVolumes x).safety = s.safety := rfl
@[simp] theorem State.withVolumes_meters (s : State) (x : Vector VolArm 4) : (s.withVolumes x).meters = s.meters := rfl
@[simp] theorem State.withVolumes_volumes (s : State) (x : Vector VolArm 4) : (s.withVolumes x).volumes = x := rfl
@[simp] theorem State.withVolumes_arms (s : State) (x : Vector VolArm 4) : (s.withVolumes x).arms = s.arms := rfl
@[simp] theorem State.withVolumes_additive (s : State) (x : Vector VolArm 4) : (s.withVolumes x).additive = s.additive := rfl
@[simp] theorem State.withVolumes_custody (s : State) (x : Vector VolArm 4) : (s.withVolumes x).custody = s.custody := rfl
@[simp] theorem State.withVolumes_uport (s : State) (x : Vector VolArm 4) : (s.withVolumes x).uport = s.uport := rfl
@[simp] theorem State.withVolumes_dport (s : State) (x : Vector VolArm 4) : (s.withVolumes x).dport = s.dport := rfl
@[simp] theorem State.withVolumes_retention (s : State) (x : Vector VolArm 4) : (s.withVolumes x).retention = s.retention := rfl
@[simp] theorem State.withVolumes_freeUsed (s : State) (x : Vector VolArm 4) : (s.withVolumes x).freeUsed = s.freeUsed := rfl
@[simp] theorem State.withVolumes_pending (s : State) (x : Vector VolArm 4) : (s.withVolumes x).pending = s.pending := rfl

@[simp] theorem State.withArms_powered (s : State) (x : Vector Arm 4) : (s.withArms x).powered = s.powered := rfl
@[simp] theorem State.withArms_now (s : State) (x : Vector Arm 4) : (s.withArms x).now = s.now := rfl
@[simp] theorem State.withArms_pins (s : State) (x : Vector Arm 4) : (s.withArms x).pins = s.pins := rfl
@[simp] theorem State.withArms_tables (s : State) (x : Vector Arm 4) : (s.withArms x).tables = s.tables := rfl
@[simp] theorem State.withArms_session (s : State) (x : Vector Arm 4) : (s.withArms x).session = s.session := rfl
@[simp] theorem State.withArms_safety (s : State) (x : Vector Arm 4) : (s.withArms x).safety = s.safety := rfl
@[simp] theorem State.withArms_meters (s : State) (x : Vector Arm 4) : (s.withArms x).meters = s.meters := rfl
@[simp] theorem State.withArms_volumes (s : State) (x : Vector Arm 4) : (s.withArms x).volumes = s.volumes := rfl
@[simp] theorem State.withArms_arms (s : State) (x : Vector Arm 4) : (s.withArms x).arms = x := rfl
@[simp] theorem State.withArms_additive (s : State) (x : Vector Arm 4) : (s.withArms x).additive = s.additive := rfl
@[simp] theorem State.withArms_custody (s : State) (x : Vector Arm 4) : (s.withArms x).custody = s.custody := rfl
@[simp] theorem State.withArms_uport (s : State) (x : Vector Arm 4) : (s.withArms x).uport = s.uport := rfl
@[simp] theorem State.withArms_dport (s : State) (x : Vector Arm 4) : (s.withArms x).dport = s.dport := rfl
@[simp] theorem State.withArms_retention (s : State) (x : Vector Arm 4) : (s.withArms x).retention = s.retention := rfl
@[simp] theorem State.withArms_freeUsed (s : State) (x : Vector Arm 4) : (s.withArms x).freeUsed = s.freeUsed := rfl
@[simp] theorem State.withArms_pending (s : State) (x : Vector Arm 4) : (s.withArms x).pending = s.pending := rfl

@[simp] theorem State.withAdditive_powered (s : State) (x : AdditiveBlk) : (s.withAdditive x).powered = s.powered := rfl
@[simp] theorem State.withAdditive_now (s : State) (x : AdditiveBlk) : (s.withAdditive x).now = s.now := rfl
@[simp] theorem State.withAdditive_pins (s : State) (x : AdditiveBlk) : (s.withAdditive x).pins = s.pins := rfl
@[simp] theorem State.withAdditive_tables (s : State) (x : AdditiveBlk) : (s.withAdditive x).tables = s.tables := rfl
@[simp] theorem State.withAdditive_session (s : State) (x : AdditiveBlk) : (s.withAdditive x).session = s.session := rfl
@[simp] theorem State.withAdditive_safety (s : State) (x : AdditiveBlk) : (s.withAdditive x).safety = s.safety := rfl
@[simp] theorem State.withAdditive_meters (s : State) (x : AdditiveBlk) : (s.withAdditive x).meters = s.meters := rfl
@[simp] theorem State.withAdditive_volumes (s : State) (x : AdditiveBlk) : (s.withAdditive x).volumes = s.volumes := rfl
@[simp] theorem State.withAdditive_arms (s : State) (x : AdditiveBlk) : (s.withAdditive x).arms = s.arms := rfl
@[simp] theorem State.withAdditive_additive (s : State) (x : AdditiveBlk) : (s.withAdditive x).additive = x := rfl
@[simp] theorem State.withAdditive_custody (s : State) (x : AdditiveBlk) : (s.withAdditive x).custody = s.custody := rfl
@[simp] theorem State.withAdditive_uport (s : State) (x : AdditiveBlk) : (s.withAdditive x).uport = s.uport := rfl
@[simp] theorem State.withAdditive_dport (s : State) (x : AdditiveBlk) : (s.withAdditive x).dport = s.dport := rfl
@[simp] theorem State.withAdditive_retention (s : State) (x : AdditiveBlk) : (s.withAdditive x).retention = s.retention := rfl
@[simp] theorem State.withAdditive_freeUsed (s : State) (x : AdditiveBlk) : (s.withAdditive x).freeUsed = s.freeUsed := rfl
@[simp] theorem State.withAdditive_pending (s : State) (x : AdditiveBlk) : (s.withAdditive x).pending = s.pending := rfl

@[simp] theorem State.withCustody_powered (s : State) (x : CustodyBlk) : (s.withCustody x).powered = s.powered := rfl
@[simp] theorem State.withCustody_now (s : State) (x : CustodyBlk) : (s.withCustody x).now = s.now := rfl
@[simp] theorem State.withCustody_pins (s : State) (x : CustodyBlk) : (s.withCustody x).pins = s.pins := rfl
@[simp] theorem State.withCustody_tables (s : State) (x : CustodyBlk) : (s.withCustody x).tables = s.tables := rfl
@[simp] theorem State.withCustody_session (s : State) (x : CustodyBlk) : (s.withCustody x).session = s.session := rfl
@[simp] theorem State.withCustody_safety (s : State) (x : CustodyBlk) : (s.withCustody x).safety = s.safety := rfl
@[simp] theorem State.withCustody_meters (s : State) (x : CustodyBlk) : (s.withCustody x).meters = s.meters := rfl
@[simp] theorem State.withCustody_volumes (s : State) (x : CustodyBlk) : (s.withCustody x).volumes = s.volumes := rfl
@[simp] theorem State.withCustody_arms (s : State) (x : CustodyBlk) : (s.withCustody x).arms = s.arms := rfl
@[simp] theorem State.withCustody_additive (s : State) (x : CustodyBlk) : (s.withCustody x).additive = s.additive := rfl
@[simp] theorem State.withCustody_custody (s : State) (x : CustodyBlk) : (s.withCustody x).custody = x := rfl
@[simp] theorem State.withCustody_uport (s : State) (x : CustodyBlk) : (s.withCustody x).uport = s.uport := rfl
@[simp] theorem State.withCustody_dport (s : State) (x : CustodyBlk) : (s.withCustody x).dport = s.dport := rfl
@[simp] theorem State.withCustody_retention (s : State) (x : CustodyBlk) : (s.withCustody x).retention = s.retention := rfl
@[simp] theorem State.withCustody_freeUsed (s : State) (x : CustodyBlk) : (s.withCustody x).freeUsed = s.freeUsed := rfl
@[simp] theorem State.withCustody_pending (s : State) (x : CustodyBlk) : (s.withCustody x).pending = s.pending := rfl

@[simp] theorem State.withUport_powered (s : State) (x : UPort) : (s.withUport x).powered = s.powered := rfl
@[simp] theorem State.withUport_now (s : State) (x : UPort) : (s.withUport x).now = s.now := rfl
@[simp] theorem State.withUport_pins (s : State) (x : UPort) : (s.withUport x).pins = s.pins := rfl
@[simp] theorem State.withUport_tables (s : State) (x : UPort) : (s.withUport x).tables = s.tables := rfl
@[simp] theorem State.withUport_session (s : State) (x : UPort) : (s.withUport x).session = s.session := rfl
@[simp] theorem State.withUport_safety (s : State) (x : UPort) : (s.withUport x).safety = s.safety := rfl
@[simp] theorem State.withUport_meters (s : State) (x : UPort) : (s.withUport x).meters = s.meters := rfl
@[simp] theorem State.withUport_volumes (s : State) (x : UPort) : (s.withUport x).volumes = s.volumes := rfl
@[simp] theorem State.withUport_arms (s : State) (x : UPort) : (s.withUport x).arms = s.arms := rfl
@[simp] theorem State.withUport_additive (s : State) (x : UPort) : (s.withUport x).additive = s.additive := rfl
@[simp] theorem State.withUport_custody (s : State) (x : UPort) : (s.withUport x).custody = s.custody := rfl
@[simp] theorem State.withUport_uport (s : State) (x : UPort) : (s.withUport x).uport = x := rfl
@[simp] theorem State.withUport_dport (s : State) (x : UPort) : (s.withUport x).dport = s.dport := rfl
@[simp] theorem State.withUport_retention (s : State) (x : UPort) : (s.withUport x).retention = s.retention := rfl
@[simp] theorem State.withUport_freeUsed (s : State) (x : UPort) : (s.withUport x).freeUsed = s.freeUsed := rfl
@[simp] theorem State.withUport_pending (s : State) (x : UPort) : (s.withUport x).pending = s.pending := rfl

@[simp] theorem State.withDport_powered (s : State) (x : DPort) : (s.withDport x).powered = s.powered := rfl
@[simp] theorem State.withDport_now (s : State) (x : DPort) : (s.withDport x).now = s.now := rfl
@[simp] theorem State.withDport_pins (s : State) (x : DPort) : (s.withDport x).pins = s.pins := rfl
@[simp] theorem State.withDport_tables (s : State) (x : DPort) : (s.withDport x).tables = s.tables := rfl
@[simp] theorem State.withDport_session (s : State) (x : DPort) : (s.withDport x).session = s.session := rfl
@[simp] theorem State.withDport_safety (s : State) (x : DPort) : (s.withDport x).safety = s.safety := rfl
@[simp] theorem State.withDport_meters (s : State) (x : DPort) : (s.withDport x).meters = s.meters := rfl
@[simp] theorem State.withDport_volumes (s : State) (x : DPort) : (s.withDport x).volumes = s.volumes := rfl
@[simp] theorem State.withDport_arms (s : State) (x : DPort) : (s.withDport x).arms = s.arms := rfl
@[simp] theorem State.withDport_additive (s : State) (x : DPort) : (s.withDport x).additive = s.additive := rfl
@[simp] theorem State.withDport_custody (s : State) (x : DPort) : (s.withDport x).custody = s.custody := rfl
@[simp] theorem State.withDport_uport (s : State) (x : DPort) : (s.withDport x).uport = s.uport := rfl
@[simp] theorem State.withDport_dport (s : State) (x : DPort) : (s.withDport x).dport = x := rfl
@[simp] theorem State.withDport_retention (s : State) (x : DPort) : (s.withDport x).retention = s.retention := rfl
@[simp] theorem State.withDport_freeUsed (s : State) (x : DPort) : (s.withDport x).freeUsed = s.freeUsed := rfl
@[simp] theorem State.withDport_pending (s : State) (x : DPort) : (s.withDport x).pending = s.pending := rfl

@[simp] theorem State.withRetention_powered (s : State) (x : RetCtl) : (s.withRetention x).powered = s.powered := rfl
@[simp] theorem State.withRetention_now (s : State) (x : RetCtl) : (s.withRetention x).now = s.now := rfl
@[simp] theorem State.withRetention_pins (s : State) (x : RetCtl) : (s.withRetention x).pins = s.pins := rfl
@[simp] theorem State.withRetention_tables (s : State) (x : RetCtl) : (s.withRetention x).tables = s.tables := rfl
@[simp] theorem State.withRetention_session (s : State) (x : RetCtl) : (s.withRetention x).session = s.session := rfl
@[simp] theorem State.withRetention_safety (s : State) (x : RetCtl) : (s.withRetention x).safety = s.safety := rfl
@[simp] theorem State.withRetention_meters (s : State) (x : RetCtl) : (s.withRetention x).meters = s.meters := rfl
@[simp] theorem State.withRetention_volumes (s : State) (x : RetCtl) : (s.withRetention x).volumes = s.volumes := rfl
@[simp] theorem State.withRetention_arms (s : State) (x : RetCtl) : (s.withRetention x).arms = s.arms := rfl
@[simp] theorem State.withRetention_additive (s : State) (x : RetCtl) : (s.withRetention x).additive = s.additive := rfl
@[simp] theorem State.withRetention_custody (s : State) (x : RetCtl) : (s.withRetention x).custody = s.custody := rfl
@[simp] theorem State.withRetention_uport (s : State) (x : RetCtl) : (s.withRetention x).uport = s.uport := rfl
@[simp] theorem State.withRetention_dport (s : State) (x : RetCtl) : (s.withRetention x).dport = s.dport := rfl
@[simp] theorem State.withRetention_retention (s : State) (x : RetCtl) : (s.withRetention x).retention = x := rfl
@[simp] theorem State.withRetention_freeUsed (s : State) (x : RetCtl) : (s.withRetention x).freeUsed = s.freeUsed := rfl
@[simp] theorem State.withRetention_pending (s : State) (x : RetCtl) : (s.withRetention x).pending = s.pending := rfl

@[simp] theorem State.withFreeUsed_powered (s : State) (x : Nat) : (s.withFreeUsed x).powered = s.powered := rfl
@[simp] theorem State.withFreeUsed_now (s : State) (x : Nat) : (s.withFreeUsed x).now = s.now := rfl
@[simp] theorem State.withFreeUsed_pins (s : State) (x : Nat) : (s.withFreeUsed x).pins = s.pins := rfl
@[simp] theorem State.withFreeUsed_tables (s : State) (x : Nat) : (s.withFreeUsed x).tables = s.tables := rfl
@[simp] theorem State.withFreeUsed_session (s : State) (x : Nat) : (s.withFreeUsed x).session = s.session := rfl
@[simp] theorem State.withFreeUsed_safety (s : State) (x : Nat) : (s.withFreeUsed x).safety = s.safety := rfl
@[simp] theorem State.withFreeUsed_meters (s : State) (x : Nat) : (s.withFreeUsed x).meters = s.meters := rfl
@[simp] theorem State.withFreeUsed_volumes (s : State) (x : Nat) : (s.withFreeUsed x).volumes = s.volumes := rfl
@[simp] theorem State.withFreeUsed_arms (s : State) (x : Nat) : (s.withFreeUsed x).arms = s.arms := rfl
@[simp] theorem State.withFreeUsed_additive (s : State) (x : Nat) : (s.withFreeUsed x).additive = s.additive := rfl
@[simp] theorem State.withFreeUsed_custody (s : State) (x : Nat) : (s.withFreeUsed x).custody = s.custody := rfl
@[simp] theorem State.withFreeUsed_uport (s : State) (x : Nat) : (s.withFreeUsed x).uport = s.uport := rfl
@[simp] theorem State.withFreeUsed_dport (s : State) (x : Nat) : (s.withFreeUsed x).dport = s.dport := rfl
@[simp] theorem State.withFreeUsed_retention (s : State) (x : Nat) : (s.withFreeUsed x).retention = s.retention := rfl
@[simp] theorem State.withFreeUsed_freeUsed (s : State) (x : Nat) : (s.withFreeUsed x).freeUsed = x := rfl
@[simp] theorem State.withFreeUsed_pending (s : State) (x : Nat) : (s.withFreeUsed x).pending = s.pending := rfl

@[simp] theorem State.withPending_powered (s : State) (x : List Instr) : (s.withPending x).powered = s.powered := rfl
@[simp] theorem State.withPending_now (s : State) (x : List Instr) : (s.withPending x).now = s.now := rfl
@[simp] theorem State.withPending_pins (s : State) (x : List Instr) : (s.withPending x).pins = s.pins := rfl
@[simp] theorem State.withPending_tables (s : State) (x : List Instr) : (s.withPending x).tables = s.tables := rfl
@[simp] theorem State.withPending_session (s : State) (x : List Instr) : (s.withPending x).session = s.session := rfl
@[simp] theorem State.withPending_safety (s : State) (x : List Instr) : (s.withPending x).safety = s.safety := rfl
@[simp] theorem State.withPending_meters (s : State) (x : List Instr) : (s.withPending x).meters = s.meters := rfl
@[simp] theorem State.withPending_volumes (s : State) (x : List Instr) : (s.withPending x).volumes = s.volumes := rfl
@[simp] theorem State.withPending_arms (s : State) (x : List Instr) : (s.withPending x).arms = s.arms := rfl
@[simp] theorem State.withPending_additive (s : State) (x : List Instr) : (s.withPending x).additive = s.additive := rfl
@[simp] theorem State.withPending_custody (s : State) (x : List Instr) : (s.withPending x).custody = s.custody := rfl
@[simp] theorem State.withPending_uport (s : State) (x : List Instr) : (s.withPending x).uport = s.uport := rfl
@[simp] theorem State.withPending_dport (s : State) (x : List Instr) : (s.withPending x).dport = s.dport := rfl
@[simp] theorem State.withPending_retention (s : State) (x : List Instr) : (s.withPending x).retention = s.retention := rfl
@[simp] theorem State.withPending_freeUsed (s : State) (x : List Instr) : (s.withPending x).freeUsed = s.freeUsed := rfl
@[simp] theorem State.withPending_pending (s : State) (x : List Instr) : (s.withPending x).pending = x := rfl

end Machine
end Sys2Proof
end

