-- ==== Sys2Proof/Laws/Frames.lean ====
section
/-! SUPPORT. One lemma per shared operation: the parts of the state it leaves as they are. -/

namespace Sys2Proof.Machine

/-- A fold whose step keeps a part of the state keeps it. -/
theorem foldl_frame {α β : Type} {p : State → β} {f : State → α → State} (h : ∀ s a, p (f s a) = p s) (l : List α)
    (s : State) : p (l.foldl f s) = p s := by
  induction l generalizing s with
  | nil => rfl
  | cons a l ih => simp [List.foldl, ih, h]

@[simp] theorem State.setPermit_frame (s : State) (a : ℕ) (b : (PermitEntry → PermitEntry)) :
    (s.setPermit a b).powered = s.powered ∧ (s.setPermit a b).now = s.now ∧ (s.setPermit a b).pins = s.pins ∧
    (s.setPermit a b).session = s.session ∧ (s.setPermit a b).safety = s.safety ∧
    (s.setPermit a b).meters = s.meters ∧ (s.setPermit a b).volumes = s.volumes ∧ (s.setPermit a b).arms = s.arms ∧
    (s.setPermit a b).additive = s.additive ∧ (s.setPermit a b).custody = s.custody ∧
    (s.setPermit a b).uport = s.uport ∧ (s.setPermit a b).dport = s.dport ∧
    (s.setPermit a b).retention = s.retention ∧ (s.setPermit a b).freeUsed = s.freeUsed ∧
    (s.setPermit a b).pending = s.pending := by
  unfold State.setPermit; simp only []; (repeat' split) <;> simp

@[simp] theorem State.setLastProduct_frame (s : State) (a : ℕ) (b : Fin 8) (c : Fin 16) :
    (s.setLastProduct a b c).powered = s.powered ∧ (s.setLastProduct a b c).now = s.now ∧
    (s.setLastProduct a b c).pins = s.pins ∧ (s.setLastProduct a b c).session = s.session ∧
    (s.setLastProduct a b c).safety = s.safety ∧ (s.setLastProduct a b c).meters = s.meters ∧
    (s.setLastProduct a b c).volumes = s.volumes ∧ (s.setLastProduct a b c).arms = s.arms ∧
    (s.setLastProduct a b c).additive = s.additive ∧ (s.setLastProduct a b c).custody = s.custody ∧
    (s.setLastProduct a b c).uport = s.uport ∧ (s.setLastProduct a b c).dport = s.dport ∧
    (s.setLastProduct a b c).retention = s.retention ∧ (s.setLastProduct a b c).freeUsed = s.freeUsed ∧
    (s.setLastProduct a b c).pending = s.pending := by
  unfold State.setLastProduct; simp only []; (repeat' split) <;> simp

@[simp] theorem State.outOfService_frame (s : State) (a : Fin 6) :
    (s.outOfService a).powered = s.powered ∧ (s.outOfService a).now = s.now ∧ (s.outOfService a).pins = s.pins ∧
    (s.outOfService a).session = s.session ∧ (s.outOfService a).safety = s.safety ∧
    (s.outOfService a).meters = s.meters ∧ (s.outOfService a).volumes = s.volumes ∧ (s.outOfService a).arms = s.arms ∧
    (s.outOfService a).additive = s.additive ∧ (s.outOfService a).custody = s.custody ∧
    (s.outOfService a).uport = s.uport ∧ (s.outOfService a).dport = s.dport ∧
    (s.outOfService a).retention = s.retention ∧ (s.outOfService a).freeUsed = s.freeUsed ∧
    (s.outOfService a).pending = s.pending := by
  unfold State.outOfService; simp only []; (repeat' split) <;> simp

@[simp] theorem State.setArm_frame (s : State) (a : Fin 4) (b : Arm) :
    (s.setArm a b).powered = s.powered ∧ (s.setArm a b).now = s.now ∧ (s.setArm a b).pins = s.pins ∧
    (s.setArm a b).tables = s.tables ∧ (s.setArm a b).session = s.session ∧ (s.setArm a b).safety = s.safety ∧
    (s.setArm a b).meters = s.meters ∧ (s.setArm a b).volumes = s.volumes ∧ (s.setArm a b).additive = s.additive ∧
    (s.setArm a b).custody = s.custody ∧ (s.setArm a b).uport = s.uport ∧ (s.setArm a b).dport = s.dport ∧
    (s.setArm a b).retention = s.retention ∧ (s.setArm a b).freeUsed = s.freeUsed ∧
    (s.setArm a b).pending = s.pending := by
  unfold State.setArm; simp

@[simp] theorem State.setMeter_frame (s : State) (a : Fin 4) (b : Meter) :
    (s.setMeter a b).powered = s.powered ∧ (s.setMeter a b).now = s.now ∧ (s.setMeter a b).pins = s.pins ∧
    (s.setMeter a b).tables = s.tables ∧ (s.setMeter a b).session = s.session ∧ (s.setMeter a b).safety = s.safety ∧
    (s.setMeter a b).volumes = s.volumes ∧ (s.setMeter a b).arms = s.arms ∧ (s.setMeter a b).additive = s.additive ∧
    (s.setMeter a b).custody = s.custody ∧ (s.setMeter a b).uport = s.uport ∧ (s.setMeter a b).dport = s.dport ∧
    (s.setMeter a b).retention = s.retention ∧ (s.setMeter a b).freeUsed = s.freeUsed ∧
    (s.setMeter a b).pending = s.pending := by
  unfold State.setMeter; simp

@[simp] theorem State.setVol_frame (s : State) (a : Fin 4) (b : VolArm) :
    (s.setVol a b).powered = s.powered ∧ (s.setVol a b).now = s.now ∧ (s.setVol a b).pins = s.pins ∧
    (s.setVol a b).tables = s.tables ∧ (s.setVol a b).session = s.session ∧ (s.setVol a b).safety = s.safety ∧
    (s.setVol a b).meters = s.meters ∧ (s.setVol a b).arms = s.arms ∧ (s.setVol a b).additive = s.additive ∧
    (s.setVol a b).custody = s.custody ∧ (s.setVol a b).uport = s.uport ∧ (s.setVol a b).dport = s.dport ∧
    (s.setVol a b).retention = s.retention ∧ (s.setVol a b).freeUsed = s.freeUsed ∧
    (s.setVol a b).pending = s.pending := by
  unfold State.setVol; simp

@[simp] theorem State.setInj_frame (s : State) (a : Fin 6) (b : Injector) :
    (s.setInj a b).powered = s.powered ∧ (s.setInj a b).now = s.now ∧ (s.setInj a b).pins = s.pins ∧
    (s.setInj a b).tables = s.tables ∧ (s.setInj a b).session = s.session ∧ (s.setInj a b).safety = s.safety ∧
    (s.setInj a b).meters = s.meters ∧ (s.setInj a b).volumes = s.volumes ∧ (s.setInj a b).arms = s.arms ∧
    (s.setInj a b).custody = s.custody ∧ (s.setInj a b).uport = s.uport ∧ (s.setInj a b).dport = s.dport ∧
    (s.setInj a b).retention = s.retention ∧ (s.setInj a b).freeUsed = s.freeUsed ∧
    (s.setInj a b).pending = s.pending := by
  unfold State.setInj; simp

@[simp] theorem State.setInput_frame (s : State) (a : SafetyInput) (b : Input) :
    (s.setInput a b).powered = s.powered ∧ (s.setInput a b).now = s.now ∧ (s.setInput a b).pins = s.pins ∧
    (s.setInput a b).tables = s.tables ∧ (s.setInput a b).session = s.session ∧
    (s.setInput a b).safety.faults = s.safety.faults ∧ (s.setInput a b).meters = s.meters ∧
    (s.setInput a b).volumes = s.volumes ∧ (s.setInput a b).arms = s.arms ∧ (s.setInput a b).additive = s.additive ∧
    (s.setInput a b).custody = s.custody ∧ (s.setInput a b).uport = s.uport ∧ (s.setInput a b).dport = s.dport ∧
    (s.setInput a b).retention = s.retention ∧ (s.setInput a b).freeUsed = s.freeUsed ∧
    (s.setInput a b).pending = s.pending := by
  unfold State.setInput; simp

@[simp] theorem State.setDeadman_frame (s : State) (a : Deadman) :
    (s.setDeadman a).powered = s.powered ∧ (s.setDeadman a).now = s.now ∧ (s.setDeadman a).pins = s.pins ∧
    (s.setDeadman a).tables = s.tables ∧ (s.setDeadman a).session = s.session ∧
    (s.setDeadman a).safety.inputs = s.safety.inputs ∧ (s.setDeadman a).safety.faults = s.safety.faults ∧
    (s.setDeadman a).meters = s.meters ∧ (s.setDeadman a).volumes = s.volumes ∧ (s.setDeadman a).arms = s.arms ∧
    (s.setDeadman a).additive = s.additive ∧ (s.setDeadman a).custody = s.custody ∧ (s.setDeadman a).uport = s.uport ∧
    (s.setDeadman a).dport = s.dport ∧ (s.setDeadman a).retention = s.retention ∧
    (s.setDeadman a).freeUsed = s.freeUsed ∧ (s.setDeadman a).pending = s.pending := by
  unfold State.setDeadman; simp

@[simp] theorem State.setFault_frame (s : State) (a : FaultClass) (b : FaultRec) :
    (s.setFault a b).powered = s.powered ∧ (s.setFault a b).now = s.now ∧ (s.setFault a b).pins = s.pins ∧
    (s.setFault a b).tables = s.tables ∧ (s.setFault a b).session = s.session ∧
    (s.setFault a b).safety.inputs = s.safety.inputs ∧ (s.setFault a b).meters = s.meters ∧
    (s.setFault a b).volumes = s.volumes ∧ (s.setFault a b).arms = s.arms ∧ (s.setFault a b).additive = s.additive ∧
    (s.setFault a b).custody = s.custody ∧ (s.setFault a b).uport = s.uport ∧ (s.setFault a b).dport = s.dport ∧
    (s.setFault a b).retention = s.retention ∧ (s.setFault a b).freeUsed = s.freeUsed ∧
    (s.setFault a b).pending = s.pending := by
  unfold State.setFault; simp

@[simp] theorem State.setStation_frame (s : State) (a : Fin 12) (b : Station) :
    (s.setStation a b).powered = s.powered ∧ (s.setStation a b).now = s.now ∧ (s.setStation a b).pins = s.pins ∧
    (s.setStation a b).tables = s.tables ∧ (s.setStation a b).session = s.session ∧
    (s.setStation a b).safety = s.safety ∧ (s.setStation a b).meters = s.meters ∧
    (s.setStation a b).volumes = s.volumes ∧ (s.setStation a b).arms = s.arms ∧
    (s.setStation a b).additive = s.additive ∧ (s.setStation a b).custody = s.custody ∧
    (s.setStation a b).uport = s.uport ∧ (s.setStation a b).retention = s.retention ∧
    (s.setStation a b).freeUsed = s.freeUsed ∧ (s.setStation a b).pending = s.pending := by
  unfold State.setStation; simp

@[simp] theorem State.setRecord_frame (s : State) (a : Option Session) :
    (s.setRecord a).powered = s.powered ∧ (s.setRecord a).now = s.now ∧ (s.setRecord a).pins = s.pins ∧
    (s.setRecord a).tables = s.tables ∧ (s.setRecord a).session.quotaDay = s.session.quotaDay ∧
    (s.setRecord a).safety = s.safety ∧ (s.setRecord a).meters = s.meters ∧ (s.setRecord a).volumes = s.volumes ∧
    (s.setRecord a).arms = s.arms ∧ (s.setRecord a).additive = s.additive ∧ (s.setRecord a).custody = s.custody ∧
    (s.setRecord a).uport = s.uport ∧ (s.setRecord a).dport = s.dport ∧ (s.setRecord a).retention = s.retention ∧
    (s.setRecord a).freeUsed = s.freeUsed ∧ (s.setRecord a).pending = s.pending := by
  unfold State.setRecord; simp

@[simp] theorem State.updBatch_frame (s : State) (a : Fin 4) (b : (Batch → Batch)) :
    (s.updBatch a b).powered = s.powered ∧ (s.updBatch a b).now = s.now ∧ (s.updBatch a b).pins = s.pins ∧
    (s.updBatch a b).tables = s.tables ∧ (s.updBatch a b).session = s.session ∧ (s.updBatch a b).safety = s.safety ∧
    (s.updBatch a b).meters = s.meters ∧ (s.updBatch a b).volumes = s.volumes ∧
    (s.updBatch a b).additive = s.additive ∧ (s.updBatch a b).custody = s.custody ∧ (s.updBatch a b).uport = s.uport ∧
    (s.updBatch a b).dport = s.dport ∧ (s.updBatch a b).retention = s.retention ∧
    (s.updBatch a b).freeUsed = s.freeUsed ∧ (s.updBatch a b).pending = s.pending := by
  unfold State.updBatch; simp

@[simp] theorem State.updSession_frame (s : State) (a : (Session → Session)) :
    (s.updSession a).powered = s.powered ∧ (s.updSession a).now = s.now ∧ (s.updSession a).pins = s.pins ∧
    (s.updSession a).tables = s.tables ∧ (s.updSession a).session.quotaDay = s.session.quotaDay ∧
    (s.updSession a).safety = s.safety ∧ (s.updSession a).meters = s.meters ∧ (s.updSession a).volumes = s.volumes ∧
    (s.updSession a).arms = s.arms ∧ (s.updSession a).additive = s.additive ∧ (s.updSession a).custody = s.custody ∧
    (s.updSession a).uport = s.uport ∧ (s.updSession a).dport = s.dport ∧ (s.updSession a).retention = s.retention ∧
    (s.updSession a).freeUsed = s.freeUsed ∧ (s.updSession a).pending = s.pending := by
  unfold State.updSession; simp

@[simp] theorem State.raise_frame (s : State) (a : Event) :
    (s.raise a).powered = s.powered ∧ (s.raise a).now = s.now ∧ (s.raise a).pins = s.pins ∧
    (s.raise a).tables = s.tables ∧ (s.raise a).session = s.session ∧ (s.raise a).safety = s.safety ∧
    (s.raise a).meters = s.meters ∧ (s.raise a).volumes = s.volumes ∧ (s.raise a).arms = s.arms ∧
    (s.raise a).additive = s.additive ∧ (s.raise a).custody = s.custody ∧
    (s.raise a).uport.address = s.uport.address ∧ (s.raise a).dport = s.dport ∧ (s.raise a).retention = s.retention ∧
    (s.raise a).freeUsed = s.freeUsed ∧ (s.raise a).pending = s.pending := by
  unfold State.raise; simp only []; (repeat' split) <;> simp

@[simp] theorem State.countVerdictDrop_frame (s : State) :
    s.countVerdictDrop.powered = s.powered ∧ s.countVerdictDrop.now = s.now ∧ s.countVerdictDrop.pins = s.pins ∧
    s.countVerdictDrop.tables = s.tables ∧ s.countVerdictDrop.session = s.session ∧
    s.countVerdictDrop.safety = s.safety ∧ s.countVerdictDrop.meters = s.meters ∧
    s.countVerdictDrop.volumes = s.volumes ∧ s.countVerdictDrop.arms = s.arms ∧
    s.countVerdictDrop.additive = s.additive ∧ s.countVerdictDrop.custody = s.custody ∧
    s.countVerdictDrop.uport = s.uport ∧ s.countVerdictDrop.retention = s.retention ∧
    s.countVerdictDrop.freeUsed = s.freeUsed ∧ s.countVerdictDrop.pending = s.pending := by
  unfold State.countVerdictDrop; simp

@[simp] theorem State.pushVerdict_frame (s : State) (a : Option (Fin 12)) (b : Verdict) :
    (s.pushVerdict a b).powered = s.powered ∧ (s.pushVerdict a b).now = s.now ∧ (s.pushVerdict a b).pins = s.pins ∧
    (s.pushVerdict a b).tables = s.tables ∧ (s.pushVerdict a b).session = s.session ∧
    (s.pushVerdict a b).safety = s.safety ∧ (s.pushVerdict a b).meters = s.meters ∧
    (s.pushVerdict a b).volumes = s.volumes ∧ (s.pushVerdict a b).arms = s.arms ∧
    (s.pushVerdict a b).additive = s.additive ∧ (s.pushVerdict a b).custody = s.custody ∧
    (s.pushVerdict a b).uport = s.uport ∧ (s.pushVerdict a b).retention = s.retention ∧
    (s.pushVerdict a b).freeUsed = s.freeUsed ∧ (s.pushVerdict a b).pending = s.pending := by
  unfold State.pushVerdict; simp only []; (repeat' split) <;> simp

@[simp] theorem State.tellReader_frame (s : State) (a : Verdict) :
    (s.tellReader a).powered = s.powered ∧ (s.tellReader a).now = s.now ∧ (s.tellReader a).pins = s.pins ∧
    (s.tellReader a).tables = s.tables ∧ (s.tellReader a).session = s.session ∧ (s.tellReader a).safety = s.safety ∧
    (s.tellReader a).meters = s.meters ∧ (s.tellReader a).volumes = s.volumes ∧ (s.tellReader a).arms = s.arms ∧
    (s.tellReader a).additive = s.additive ∧ (s.tellReader a).custody = s.custody ∧ (s.tellReader a).uport = s.uport ∧
    (s.tellReader a).retention = s.retention ∧ (s.tellReader a).freeUsed = s.freeUsed ∧
    (s.tellReader a).pending = s.pending := by
  unfold State.tellReader; simp

@[simp] theorem State.tellKeypad_frame (s : State) (a : Byte) (b : Verdict) :
    (s.tellKeypad a b).powered = s.powered ∧ (s.tellKeypad a b).now = s.now ∧ (s.tellKeypad a b).pins = s.pins ∧
    (s.tellKeypad a b).tables = s.tables ∧ (s.tellKeypad a b).session = s.session ∧
    (s.tellKeypad a b).safety = s.safety ∧ (s.tellKeypad a b).meters = s.meters ∧
    (s.tellKeypad a b).volumes = s.volumes ∧ (s.tellKeypad a b).arms = s.arms ∧
    (s.tellKeypad a b).additive = s.additive ∧ (s.tellKeypad a b).custody = s.custody ∧
    (s.tellKeypad a b).uport = s.uport ∧ (s.tellKeypad a b).retention = s.retention ∧
    (s.tellKeypad a b).freeUsed = s.freeUsed ∧ (s.tellKeypad a b).pending = s.pending := by
  unfold State.tellKeypad; simp

@[simp] theorem State.settleDeadman_frame (s : State) (a : Bool) :
    (s.settleDeadman a).powered = s.powered ∧ (s.settleDeadman a).now = s.now ∧ (s.settleDeadman a).pins = s.pins ∧
    (s.settleDeadman a).tables = s.tables ∧ (s.settleDeadman a).session = s.session ∧
    (s.settleDeadman a).safety.inputs = s.safety.inputs ∧ (s.settleDeadman a).safety.faults = s.safety.faults ∧
    (s.settleDeadman a).meters = s.meters ∧ (s.settleDeadman a).volumes = s.volumes ∧
    (s.settleDeadman a).arms = s.arms ∧ (s.settleDeadman a).additive = s.additive ∧
    (s.settleDeadman a).custody = s.custody ∧ (s.settleDeadman a).uport = s.uport ∧
    (s.settleDeadman a).dport = s.dport ∧ (s.settleDeadman a).retention = s.retention ∧
    (s.settleDeadman a).freeUsed = s.freeUsed ∧ (s.settleDeadman a).pending = s.pending := by
  unfold State.settleDeadman; simp only []; (repeat' split) <;> simp

@[simp] theorem State.settleIdle_frame (s : State) :
    s.settleIdle.powered = s.powered ∧ s.settleIdle.now = s.now ∧ s.settleIdle.pins = s.pins ∧
    s.settleIdle.tables = s.tables ∧ s.settleIdle.session.quotaDay = s.session.quotaDay ∧
    s.settleIdle.session.record = s.session.record ∧ s.settleIdle.safety = s.safety ∧ s.settleIdle.meters = s.meters ∧
    s.settleIdle.volumes = s.volumes ∧ s.settleIdle.arms = s.arms ∧ s.settleIdle.additive = s.additive ∧
    s.settleIdle.custody = s.custody ∧ s.settleIdle.uport = s.uport ∧ s.settleIdle.dport = s.dport ∧
    s.settleIdle.retention = s.retention ∧ s.settleIdle.freeUsed = s.freeUsed ∧ s.settleIdle.pending = s.pending := by
  unfold State.settleIdle; simp only []; (repeat' split) <;> simp

@[simp] theorem State.moveArm_frame (s : State) (a : Fin 4) (b : ArmState) :
    (s.moveArm a b).powered = s.powered ∧ (s.moveArm a b).now = s.now ∧ (s.moveArm a b).pins = s.pins ∧
    (s.moveArm a b).tables = s.tables ∧ (s.moveArm a b).session.quotaDay = s.session.quotaDay ∧
    (s.moveArm a b).session.record = s.session.record ∧ (s.moveArm a b).safety.inputs = s.safety.inputs ∧
    (s.moveArm a b).safety.faults = s.safety.faults ∧ (s.moveArm a b).meters = s.meters ∧
    (s.moveArm a b).volumes = s.volumes ∧ (s.moveArm a b).additive = s.additive ∧
    (s.moveArm a b).custody = s.custody ∧ (s.moveArm a b).uport = s.uport ∧ (s.moveArm a b).dport = s.dport ∧
    (s.moveArm a b).retention = s.retention ∧ (s.moveArm a b).freeUsed = s.freeUsed ∧
    (s.moveArm a b).pending = s.pending := by
  unfold State.moveArm; simp

@[simp] theorem State.creditGross_frame (s : State) (a : Fin 4) (b : ℕ) :
    (s.creditGross a b).powered = s.powered ∧ (s.creditGross a b).now = s.now ∧ (s.creditGross a b).pins = s.pins ∧
    (s.creditGross a b).tables = s.tables ∧ (s.creditGross a b).session = s.session ∧
    (s.creditGross a b).safety = s.safety ∧ (s.creditGross a b).meters = s.meters ∧
    (s.creditGross a b).volumes = s.volumes ∧ (s.creditGross a b).arms = s.arms ∧
    (s.creditGross a b).additive = s.additive ∧ (s.creditGross a b).custody.places = s.custody.places ∧
    (s.creditGross a b).custody.counter = s.custody.counter ∧ (s.creditGross a b).uport = s.uport ∧
    (s.creditGross a b).dport = s.dport ∧ (s.creditGross a b).retention = s.retention ∧
    (s.creditGross a b).freeUsed = s.freeUsed ∧ (s.creditGross a b).pending = s.pending := by
  unfold State.creditGross; simp

@[simp] theorem State.creditStandard_frame (s : State) (a : Fin 4) (b : ℕ) :
    (s.creditStandard a b).powered = s.powered ∧ (s.creditStandard a b).now = s.now ∧
    (s.creditStandard a b).pins = s.pins ∧ (s.creditStandard a b).tables = s.tables ∧
    (s.creditStandard a b).session = s.session ∧ (s.creditStandard a b).safety = s.safety ∧
    (s.creditStandard a b).meters = s.meters ∧ (s.creditStandard a b).volumes = s.volumes ∧
    (s.creditStandard a b).arms = s.arms ∧ (s.creditStandard a b).additive = s.additive ∧
    (s.creditStandard a b).custody.places = s.custody.places ∧
    (s.creditStandard a b).custody.counter = s.custody.counter ∧
    (s.creditStandard a b).custody.gross = s.custody.gross ∧ (s.creditStandard a b).uport = s.uport ∧
    (s.creditStandard a b).dport = s.dport ∧ (s.creditStandard a b).retention = s.retention ∧
    (s.creditStandard a b).freeUsed = s.freeUsed ∧ (s.creditStandard a b).pending = s.pending := by
  unfold State.creditStandard; simp

@[simp] theorem State.creditAdditive_frame (s : State) (a : Fin 6) (b : ℕ) :
    (s.creditAdditive a b).powered = s.powered ∧ (s.creditAdditive a b).now = s.now ∧
    (s.creditAdditive a b).pins = s.pins ∧ (s.creditAdditive a b).tables = s.tables ∧
    (s.creditAdditive a b).session = s.session ∧ (s.creditAdditive a b).safety = s.safety ∧
    (s.creditAdditive a b).meters = s.meters ∧ (s.creditAdditive a b).volumes = s.volumes ∧
    (s.creditAdditive a b).arms = s.arms ∧ (s.creditAdditive a b).additive = s.additive ∧
    (s.creditAdditive a b).custody.places = s.custody.places ∧
    (s.creditAdditive a b).custody.counter = s.custody.counter ∧
    (s.creditAdditive a b).custody.gross = s.custody.gross ∧ (s.creditAdditive a b).uport = s.uport ∧
    (s.creditAdditive a b).dport = s.dport ∧ (s.creditAdditive a b).retention = s.retention ∧
    (s.creditAdditive a b).freeUsed = s.freeUsed ∧ (s.creditAdditive a b).pending = s.pending := by
  unfold State.creditAdditive; simp

@[simp] theorem State.reservePlace_frame (s : State) (a : ℕ) :
    (s.reservePlace a).powered = s.powered ∧ (s.reservePlace a).now = s.now ∧ (s.reservePlace a).pins = s.pins ∧
    (s.reservePlace a).tables = s.tables ∧ (s.reservePlace a).session = s.session ∧
    (s.reservePlace a).safety = s.safety ∧ (s.reservePlace a).meters = s.meters ∧
    (s.reservePlace a).volumes = s.volumes ∧ (s.reservePlace a).arms = s.arms ∧
    (s.reservePlace a).additive = s.additive ∧ (s.reservePlace a).custody.counter = s.custody.counter ∧
    (s.reservePlace a).custody.gross = s.custody.gross ∧ (s.reservePlace a).uport.address = s.uport.address ∧
    (s.reservePlace a).dport = s.dport ∧ (s.reservePlace a).retention = s.retention ∧
    (s.reservePlace a).freeUsed = s.freeUsed ∧ (s.reservePlace a).pending = s.pending := by
  unfold State.reservePlace; simp only []; (repeat' split) <;> simp

@[simp] theorem State.freePlace_frame (s : State) :
    s.freePlace.powered = s.powered ∧ s.freePlace.now = s.now ∧ s.freePlace.pins = s.pins ∧
    s.freePlace.tables = s.tables ∧ s.freePlace.session = s.session ∧ s.freePlace.safety = s.safety ∧
    s.freePlace.meters = s.meters ∧ s.freePlace.volumes = s.volumes ∧ s.freePlace.arms = s.arms ∧
    s.freePlace.additive = s.additive ∧ s.freePlace.custody.counter = s.custody.counter ∧
    s.freePlace.custody.gross = s.custody.gross ∧ s.freePlace.uport = s.uport ∧ s.freePlace.dport = s.dport ∧
    s.freePlace.retention = s.retention ∧ s.freePlace.freeUsed = s.freeUsed ∧ s.freePlace.pending = s.pending := by
  unfold State.freePlace; simp

@[simp] theorem State.writeNote_frame (s : State) (a : Session) (b : CloseReason) :
    (s.writeNote a b).powered = s.powered ∧ (s.writeNote a b).now = s.now ∧ (s.writeNote a b).pins = s.pins ∧
    (s.writeNote a b).tables = s.tables ∧ (s.writeNote a b).session.quotaDay = s.session.quotaDay ∧
    (s.writeNote a b).safety = s.safety ∧ (s.writeNote a b).meters = s.meters ∧
    (s.writeNote a b).volumes = s.volumes ∧ (s.writeNote a b).arms = s.arms ∧
    (s.writeNote a b).additive = s.additive ∧ (s.writeNote a b).custody.gross = s.custody.gross ∧
    (s.writeNote a b).uport.address = s.uport.address ∧ (s.writeNote a b).dport = s.dport ∧
    (s.writeNote a b).retention = s.retention ∧ (s.writeNote a b).freeUsed = s.freeUsed ∧
    (s.writeNote a b).pending = s.pending := by
  unfold State.writeNote; simp

@[simp] theorem State.countRefusal_frame (s : State) (a : ℕ) (b : SessionReason) :
    (s.countRefusal a b).powered = s.powered ∧ (s.countRefusal a b).now = s.now ∧ (s.countRefusal a b).pins = s.pins ∧
    (s.countRefusal a b).session = s.session ∧ (s.countRefusal a b).safety = s.safety ∧
    (s.countRefusal a b).meters = s.meters ∧ (s.countRefusal a b).volumes = s.volumes ∧
    (s.countRefusal a b).arms = s.arms ∧ (s.countRefusal a b).additive = s.additive ∧
    (s.countRefusal a b).custody = s.custody ∧ (s.countRefusal a b).uport = s.uport ∧
    (s.countRefusal a b).dport = s.dport ∧ (s.countRefusal a b).retention = s.retention ∧
    (s.countRefusal a b).freeUsed = s.freeUsed ∧ (s.countRefusal a b).pending = s.pending := by
  unfold State.countRefusal; try dsimp only
  refine ⟨?_, ?_, ?_, ?_, ?_, ?_, ?_, ?_, ?_, ?_, ?_, ?_, ?_, ?_, ?_⟩ <;> (repeat' split) <;>
    first | rfl | simp

@[simp] theorem State.refuse_frame (s : State) (a b : ℕ) (c : SessionReason) (d : ℕ) :
    (s.refuse a b c d).powered = s.powered ∧ (s.refuse a b c d).now = s.now ∧ (s.refuse a b c d).pins = s.pins ∧
    (s.refuse a b c d).session = s.session ∧ (s.refuse a b c d).safety = s.safety ∧
    (s.refuse a b c d).meters = s.meters ∧ (s.refuse a b c d).volumes = s.volumes ∧
    (s.refuse a b c d).arms = s.arms ∧ (s.refuse a b c d).additive = s.additive ∧
    (s.refuse a b c d).custody = s.custody ∧ (s.refuse a b c d).uport.address = s.uport.address ∧
    (s.refuse a b c d).retention = s.retention ∧ (s.refuse a b c d).freeUsed = s.freeUsed ∧
    (s.refuse a b c d).pending = s.pending := by
  unfold State.refuse; simp

@[simp] theorem State.settlePresentation_frame (s : State) :
    s.settlePresentation.powered = s.powered ∧ s.settlePresentation.now = s.now ∧ s.settlePresentation.pins = s.pins ∧
    s.settlePresentation.session.quotaDay = s.session.quotaDay ∧
    s.settlePresentation.session.record = s.session.record ∧ s.settlePresentation.safety = s.safety ∧
    s.settlePresentation.meters = s.meters ∧ s.settlePresentation.volumes = s.volumes ∧
    s.settlePresentation.arms = s.arms ∧ s.settlePresentation.additive = s.additive ∧
    s.settlePresentation.custody = s.custody ∧ s.settlePresentation.uport.address = s.uport.address ∧
    s.settlePresentation.retention = s.retention ∧ s.settlePresentation.freeUsed = s.freeUsed ∧
    s.settlePresentation.pending = s.pending := by
  unfold State.settlePresentation; simp only []; (repeat' split) <;> simp

@[simp] theorem State.openSession_frame (s : State) (a : Opening) :
    (s.openSession a).powered = s.powered ∧ (s.openSession a).now = s.now ∧ (s.openSession a).pins = s.pins ∧
    (s.openSession a).session.quotaDay = s.session.quotaDay ∧ (s.openSession a).safety = s.safety ∧
    (s.openSession a).meters = s.meters ∧ (s.openSession a).volumes = s.volumes ∧ (s.openSession a).arms = s.arms ∧
    (s.openSession a).additive = s.additive ∧ (s.openSession a).custody.counter = s.custody.counter ∧
    (s.openSession a).custody.gross = s.custody.gross ∧ (s.openSession a).uport.address = s.uport.address ∧
    (s.openSession a).retention = s.retention ∧ (s.openSession a).freeUsed = s.freeUsed ∧
    (s.openSession a).pending = s.pending := by
  unfold State.openSession; simp only []; (repeat' split) <;> simp

@[simp] theorem State.closeSession_frame (s : State) (a : CloseReason) :
    (s.closeSession a).powered = s.powered ∧ (s.closeSession a).now = s.now ∧ (s.closeSession a).pins = s.pins ∧
    (s.closeSession a).tables = s.tables ∧ (s.closeSession a).session.quotaDay = s.session.quotaDay ∧
    (s.closeSession a).safety = s.safety ∧ (s.closeSession a).meters = s.meters ∧
    (s.closeSession a).volumes = s.volumes ∧ (s.closeSession a).arms = s.arms ∧
    (s.closeSession a).additive = s.additive ∧ (s.closeSession a).custody.gross = s.custody.gross ∧
    (s.closeSession a).uport.address = s.uport.address ∧ (s.closeSession a).dport = s.dport ∧
    (s.closeSession a).retention = s.retention ∧ (s.closeSession a).freeUsed = s.freeUsed ∧
    (s.closeSession a).pending = s.pending := by
  unfold State.closeSession; simp only []; (repeat' split) <;> simp

@[simp] theorem State.closeIfDone_frame (s : State) :
    s.closeIfDone.powered = s.powered ∧ s.closeIfDone.now = s.now ∧ s.closeIfDone.pins = s.pins ∧
    s.closeIfDone.tables = s.tables ∧ s.closeIfDone.session.quotaDay = s.session.quotaDay ∧
    s.closeIfDone.safety = s.safety ∧ s.closeIfDone.meters = s.meters ∧ s.closeIfDone.volumes = s.volumes ∧
    s.closeIfDone.arms = s.arms ∧ s.closeIfDone.additive = s.additive ∧
    s.closeIfDone.custody.gross = s.custody.gross ∧ s.closeIfDone.uport.address = s.uport.address ∧
    s.closeIfDone.dport = s.dport ∧ s.closeIfDone.retention = s.retention ∧ s.closeIfDone.freeUsed = s.freeUsed ∧
    s.closeIfDone.pending = s.pending := by
  unfold State.closeIfDone; try dsimp only
  refine ⟨?_, ?_, ?_, ?_, ?_, ?_, ?_, ?_, ?_, ?_, ?_, ?_, ?_, ?_, ?_, ?_⟩ <;> (repeat' split) <;>
    first | rfl | simp

@[simp] theorem State.reserve_frame (s : State) (a : ℕ) :
    (s.reserve a).powered = s.powered ∧ (s.reserve a).now = s.now ∧ (s.reserve a).pins = s.pins ∧
    (s.reserve a).tables = s.tables ∧ (s.reserve a).session.quotaDay = s.session.quotaDay ∧
    (s.reserve a).safety = s.safety ∧ (s.reserve a).meters = s.meters ∧ (s.reserve a).volumes = s.volumes ∧
    (s.reserve a).arms = s.arms ∧ (s.reserve a).additive = s.additive ∧ (s.reserve a).custody = s.custody ∧
    (s.reserve a).uport = s.uport ∧ (s.reserve a).dport = s.dport ∧ (s.reserve a).retention = s.retention ∧
    (s.reserve a).freeUsed = s.freeUsed ∧ (s.reserve a).pending = s.pending := by
  unfold State.reserve; simp

@[simp] theorem State.unreserve_frame (s : State) (a : ℕ) :
    (s.unreserve a).powered = s.powered ∧ (s.unreserve a).now = s.now ∧ (s.unreserve a).pins = s.pins ∧
    (s.unreserve a).tables = s.tables ∧ (s.unreserve a).session.quotaDay = s.session.quotaDay ∧
    (s.unreserve a).safety = s.safety ∧ (s.unreserve a).meters = s.meters ∧ (s.unreserve a).volumes = s.volumes ∧
    (s.unreserve a).arms = s.arms ∧ (s.unreserve a).additive = s.additive ∧ (s.unreserve a).custody = s.custody ∧
    (s.unreserve a).uport = s.uport ∧ (s.unreserve a).dport = s.dport ∧ (s.unreserve a).retention = s.retention ∧
    (s.unreserve a).freeUsed = s.freeUsed ∧ (s.unreserve a).pending = s.pending := by
  unfold State.unreserve; simp

@[simp] theorem State.charge_frame (s : State) (a : ℕ) :
    (s.charge a).powered = s.powered ∧ (s.charge a).now = s.now ∧ (s.charge a).pins = s.pins ∧
    (s.charge a).session.quotaDay = s.session.quotaDay ∧ (s.charge a).safety = s.safety ∧
    (s.charge a).meters = s.meters ∧ (s.charge a).volumes = s.volumes ∧ (s.charge a).arms = s.arms ∧
    (s.charge a).additive = s.additive ∧ (s.charge a).custody = s.custody ∧ (s.charge a).uport = s.uport ∧
    (s.charge a).dport = s.dport ∧ (s.charge a).retention = s.retention ∧ (s.charge a).freeUsed = s.freeUsed ∧
    (s.charge a).pending = s.pending := by
  unfold State.charge; try dsimp only
  refine ⟨?_, ?_, ?_, ?_, ?_, ?_, ?_, ?_, ?_, ?_, ?_, ?_, ?_, ?_, ?_⟩ <;> (repeat' split) <;>
    first | rfl | simp

@[simp] theorem State.claim_frame (s : State) (a : Fin 8) (b : Fin 4) :
    (s.claim a b).powered = s.powered ∧ (s.claim a b).now = s.now ∧ (s.claim a b).pins = s.pins ∧
    (s.claim a b).tables = s.tables ∧ (s.claim a b).session.quotaDay = s.session.quotaDay ∧
    (s.claim a b).safety = s.safety ∧ (s.claim a b).meters = s.meters ∧ (s.claim a b).volumes = s.volumes ∧
    (s.claim a b).arms = s.arms ∧ (s.claim a b).additive = s.additive ∧ (s.claim a b).custody = s.custody ∧
    (s.claim a b).uport = s.uport ∧ (s.claim a b).dport = s.dport ∧ (s.claim a b).retention = s.retention ∧
    (s.claim a b).freeUsed = s.freeUsed ∧ (s.claim a b).pending = s.pending := by
  unfold State.claim; simp

@[simp] theorem State.unclaim_frame (s : State) (a : Fin 8) :
    (s.unclaim a).powered = s.powered ∧ (s.unclaim a).now = s.now ∧ (s.unclaim a).pins = s.pins ∧
    (s.unclaim a).tables = s.tables ∧ (s.unclaim a).session.quotaDay = s.session.quotaDay ∧
    (s.unclaim a).safety = s.safety ∧ (s.unclaim a).meters = s.meters ∧ (s.unclaim a).volumes = s.volumes ∧
    (s.unclaim a).arms = s.arms ∧ (s.unclaim a).additive = s.additive ∧ (s.unclaim a).custody = s.custody ∧
    (s.unclaim a).uport = s.uport ∧ (s.unclaim a).dport = s.dport ∧ (s.unclaim a).retention = s.retention ∧
    (s.unclaim a).freeUsed = s.freeUsed ∧ (s.unclaim a).pending = s.pending := by
  unfold State.unclaim; simp

@[simp] theorem State.unwait_frame (s : State) (a : Fin 4) :
    (s.unwait a).powered = s.powered ∧ (s.unwait a).now = s.now ∧ (s.unwait a).pins = s.pins ∧
    (s.unwait a).tables = s.tables ∧ (s.unwait a).session = s.session ∧ (s.unwait a).safety = s.safety ∧
    (s.unwait a).meters = s.meters ∧ (s.unwait a).volumes = s.volumes ∧ (s.unwait a).arms = s.arms ∧
    (s.unwait a).custody = s.custody ∧ (s.unwait a).uport = s.uport ∧ (s.unwait a).dport = s.dport ∧
    (s.unwait a).retention = s.retention ∧ (s.unwait a).freeUsed = s.freeUsed ∧ (s.unwait a).pending = s.pending := by
  unfold State.unwait; simp

@[simp] theorem State.cancel_frame (s : State) (a : Fin 4) :
    (s.cancel a).powered = s.powered ∧ (s.cancel a).now = s.now ∧ (s.cancel a).pins = s.pins ∧
    (s.cancel a).tables = s.tables ∧ (s.cancel a).session.quotaDay = s.session.quotaDay ∧
    (s.cancel a).safety.inputs = s.safety.inputs ∧ (s.cancel a).safety.faults = s.safety.faults ∧
    (s.cancel a).meters = s.meters ∧ (s.cancel a).volumes = s.volumes ∧ (s.cancel a).custody = s.custody ∧
    (s.cancel a).uport = s.uport ∧ (s.cancel a).dport = s.dport ∧ (s.cancel a).retention = s.retention ∧
    (s.cancel a).freeUsed = s.freeUsed ∧ (s.cancel a).pending = s.pending := by
  unfold State.cancel; simp only []; (repeat' split) <;> simp

@[simp] theorem State.enterStopping_frame (s : State) (a : Fin 4) (b : EndReason) :
    (s.enterStopping a b).powered = s.powered ∧ (s.enterStopping a b).now = s.now ∧
    (s.enterStopping a b).pins = s.pins ∧ (s.enterStopping a b).tables = s.tables ∧
    (s.enterStopping a b).session.quotaDay = s.session.quotaDay ∧
    (s.enterStopping a b).session.record = s.session.record ∧ (s.enterStopping a b).safety.inputs = s.safety.inputs ∧
    (s.enterStopping a b).safety.faults = s.safety.faults ∧ (s.enterStopping a b).meters = s.meters ∧
    (s.enterStopping a b).volumes = s.volumes ∧ (s.enterStopping a b).additive = s.additive ∧
    (s.enterStopping a b).custody = s.custody ∧ (s.enterStopping a b).uport = s.uport ∧
    (s.enterStopping a b).dport = s.dport ∧ (s.enterStopping a b).retention = s.retention ∧
    (s.enterStopping a b).freeUsed = s.freeUsed ∧ (s.enterStopping a b).pending = s.pending := by
  unfold State.enterStopping; simp

@[simp] theorem State.suspend_frame (s : State) (a : Fin 4) (b : SuspendCause) :
    (s.suspend a b).powered = s.powered ∧ (s.suspend a b).now = s.now ∧ (s.suspend a b).pins = s.pins ∧
    (s.suspend a b).tables = s.tables ∧ (s.suspend a b).session.quotaDay = s.session.quotaDay ∧
    (s.suspend a b).session.record = s.session.record ∧ (s.suspend a b).safety.inputs = s.safety.inputs ∧
    (s.suspend a b).safety.faults = s.safety.faults ∧ (s.suspend a b).meters = s.meters ∧
    (s.suspend a b).volumes = s.volumes ∧ (s.suspend a b).additive = s.additive ∧
    (s.suspend a b).custody = s.custody ∧ (s.suspend a b).uport.address = s.uport.address ∧
    (s.suspend a b).dport = s.dport ∧ (s.suspend a b).retention = s.retention ∧
    (s.suspend a b).freeUsed = s.freeUsed ∧ (s.suspend a b).pending = s.pending := by
  unfold State.suspend; simp only []; (repeat' split) <;> simp

@[simp] theorem State.abortArm_frame (a : EndReason) (s : State) (b : Fin 4) :
    (s.abortArm a b).powered = s.powered ∧ (s.abortArm a b).now = s.now ∧ (s.abortArm a b).pins = s.pins ∧
    (s.abortArm a b).tables = s.tables ∧ (s.abortArm a b).session.quotaDay = s.session.quotaDay ∧
    (s.abortArm a b).safety.inputs = s.safety.inputs ∧ (s.abortArm a b).safety.faults = s.safety.faults ∧
    (s.abortArm a b).meters = s.meters ∧ (s.abortArm a b).volumes = s.volumes ∧ (s.abortArm a b).custody = s.custody ∧
    (s.abortArm a b).uport = s.uport ∧ (s.abortArm a b).dport = s.dport ∧ (s.abortArm a b).retention = s.retention ∧
    (s.abortArm a b).freeUsed = s.freeUsed ∧ (s.abortArm a b).pending = s.pending := by
  unfold State.abortArm; try dsimp only
  refine ⟨?_, ?_, ?_, ?_, ?_, ?_, ?_, ?_, ?_, ?_, ?_, ?_, ?_, ?_, ?_⟩ <;> (repeat' split) <;>
    first | rfl | simp

@[simp] theorem State.abort_frame (s : State) (a : CloseReason) (b : EndReason) :
    (s.abort a b).powered = s.powered ∧ (s.abort a b).now = s.now ∧ (s.abort a b).pins = s.pins ∧
    (s.abort a b).tables = s.tables ∧ (s.abort a b).session.quotaDay = s.session.quotaDay ∧
    (s.abort a b).safety.inputs = s.safety.inputs ∧ (s.abort a b).safety.faults = s.safety.faults ∧
    (s.abort a b).meters = s.meters ∧ (s.abort a b).volumes = s.volumes ∧
    (s.abort a b).custody.gross = s.custody.gross ∧ (s.abort a b).uport.address = s.uport.address ∧
    (s.abort a b).dport = s.dport ∧ (s.abort a b).retention = s.retention ∧ (s.abort a b).freeUsed = s.freeUsed ∧
    (s.abort a b).pending = s.pending := by
  simp [State.abort, armIxs]

@[simp] theorem State.cancelReady_frame (s : State) (a : Fin 4) :
    (s.cancelReady a).powered = s.powered ∧ (s.cancelReady a).now = s.now ∧ (s.cancelReady a).pins = s.pins ∧
    (s.cancelReady a).tables = s.tables ∧ (s.cancelReady a).session.quotaDay = s.session.quotaDay ∧
    (s.cancelReady a).safety.inputs = s.safety.inputs ∧ (s.cancelReady a).safety.faults = s.safety.faults ∧
    (s.cancelReady a).meters = s.meters ∧ (s.cancelReady a).volumes = s.volumes ∧
    (s.cancelReady a).custody = s.custody ∧ (s.cancelReady a).uport = s.uport ∧ (s.cancelReady a).dport = s.dport ∧
    (s.cancelReady a).retention = s.retention ∧ (s.cancelReady a).freeUsed = s.freeUsed ∧
    (s.cancelReady a).pending = s.pending := by
  unfold State.cancelReady; try dsimp only
  refine ⟨?_, ?_, ?_, ?_, ?_, ?_, ?_, ?_, ?_, ?_, ?_, ?_, ?_, ?_, ?_⟩ <;> (repeat' split) <;>
    first | rfl | simp

@[simp] theorem State.orderlyClose_frame (s : State) (a : CloseReason) :
    (s.orderlyClose a).powered = s.powered ∧ (s.orderlyClose a).now = s.now ∧ (s.orderlyClose a).pins = s.pins ∧
    (s.orderlyClose a).tables = s.tables ∧ (s.orderlyClose a).session.quotaDay = s.session.quotaDay ∧
    (s.orderlyClose a).safety.inputs = s.safety.inputs ∧ (s.orderlyClose a).safety.faults = s.safety.faults ∧
    (s.orderlyClose a).meters = s.meters ∧ (s.orderlyClose a).volumes = s.volumes ∧
    (s.orderlyClose a).custody.gross = s.custody.gross ∧ (s.orderlyClose a).uport.address = s.uport.address ∧
    (s.orderlyClose a).dport = s.dport ∧ (s.orderlyClose a).retention = s.retention ∧
    (s.orderlyClose a).freeUsed = s.freeUsed ∧ (s.orderlyClose a).pending = s.pending := by
  simp [State.orderlyClose, armIxs]

@[simp] theorem State.faultArm_frame (s : State) (a : Fin 4) :
    (s.faultArm a).powered = s.powered ∧ (s.faultArm a).now = s.now ∧ (s.faultArm a).pins = s.pins ∧
    (s.faultArm a).tables = s.tables ∧ (s.faultArm a).session.quotaDay = s.session.quotaDay ∧
    (s.faultArm a).session.record = s.session.record ∧ (s.faultArm a).safety.inputs = s.safety.inputs ∧
    (s.faultArm a).safety.faults = s.safety.faults ∧ (s.faultArm a).meters = s.meters ∧
    (s.faultArm a).volumes = s.volumes ∧ (s.faultArm a).additive = s.additive ∧ (s.faultArm a).custody = s.custody ∧
    (s.faultArm a).uport = s.uport ∧ (s.faultArm a).dport = s.dport ∧ (s.faultArm a).retention = s.retention ∧
    (s.faultArm a).freeUsed = s.freeUsed ∧ (s.faultArm a).pending = s.pending := by
  unfold State.faultArm; try dsimp only
  refine ⟨?_, ?_, ?_, ?_, ?_, ?_, ?_, ?_, ?_, ?_, ?_, ?_, ?_, ?_, ?_, ?_, ?_⟩ <;> (repeat' split) <;>
    first | rfl | simp

@[simp] theorem State.stopArmResponse_frame (s : State) (a : FaultClass) (b : Option (Fin 4)) :
    (s.stopArmResponse a b).powered = s.powered ∧ (s.stopArmResponse a b).now = s.now ∧
    (s.stopArmResponse a b).pins = s.pins ∧ (s.stopArmResponse a b).tables = s.tables ∧
    (s.stopArmResponse a b).session.quotaDay = s.session.quotaDay ∧
    (s.stopArmResponse a b).session.record = s.session.record ∧
    (s.stopArmResponse a b).safety.inputs = s.safety.inputs ∧ (s.stopArmResponse a b).meters = s.meters ∧
    (s.stopArmResponse a b).volumes = s.volumes ∧ (s.stopArmResponse a b).additive = s.additive ∧
    (s.stopArmResponse a b).custody = s.custody ∧ (s.stopArmResponse a b).uport = s.uport ∧
    (s.stopArmResponse a b).dport = s.dport ∧ (s.stopArmResponse a b).retention = s.retention ∧
    (s.stopArmResponse a b).freeUsed = s.freeUsed ∧ (s.stopArmResponse a b).pending = s.pending := by
  unfold State.stopArmResponse; simp only []; (repeat' split) <;> simp

@[simp] theorem State.stopBayResponse_frame (s : State) (a : FaultClass) :
    (s.stopBayResponse a).powered = s.powered ∧ (s.stopBayResponse a).now = s.now ∧
    (s.stopBayResponse a).pins = s.pins ∧ (s.stopBayResponse a).session.quotaDay = s.session.quotaDay ∧
    (s.stopBayResponse a).safety.inputs = s.safety.inputs ∧ (s.stopBayResponse a).meters = s.meters ∧
    (s.stopBayResponse a).volumes = s.volumes ∧ (s.stopBayResponse a).custody.gross = s.custody.gross ∧
    (s.stopBayResponse a).uport.address = s.uport.address ∧ (s.stopBayResponse a).retention = s.retention ∧
    (s.stopBayResponse a).freeUsed = s.freeUsed ∧ (s.stopBayResponse a).pending = s.pending := by
  unfold State.stopBayResponse; simp only []; (repeat' split) <;> simp

@[simp] theorem State.respond_frame (s : State) (a : FaultClass) (b : Option (Fin 4)) (c : ResponseMode) :
    (s.respond a b c).powered = s.powered ∧ (s.respond a b c).now = s.now ∧ (s.respond a b c).pins = s.pins ∧
    (s.respond a b c).session.quotaDay = s.session.quotaDay ∧ (s.respond a b c).safety.inputs = s.safety.inputs ∧
    (s.respond a b c).meters = s.meters ∧ (s.respond a b c).volumes = s.volumes ∧
    (s.respond a b c).custody.gross = s.custody.gross ∧ (s.respond a b c).uport.address = s.uport.address ∧
    (s.respond a b c).retention = s.retention ∧ (s.respond a b c).freeUsed = s.freeUsed ∧
    (s.respond a b c).pending = s.pending := by
  unfold State.respond; try dsimp only
  refine ⟨?_, ?_, ?_, ?_, ?_, ?_, ?_, ?_, ?_, ?_, ?_, ?_⟩ <;> (repeat' split) <;>
    first | rfl | simp

@[simp] theorem State.flagMeter_frame (s : State) (a : FaultClass) (b : Option (Fin 4)) :
    (s.flagMeter a b).powered = s.powered ∧ (s.flagMeter a b).now = s.now ∧ (s.flagMeter a b).pins = s.pins ∧
    (s.flagMeter a b).tables = s.tables ∧ (s.flagMeter a b).session = s.session ∧
    (s.flagMeter a b).safety = s.safety ∧ (s.flagMeter a b).meters = s.meters ∧
    (s.flagMeter a b).volumes = s.volumes ∧ (s.flagMeter a b).additive = s.additive ∧
    (s.flagMeter a b).custody = s.custody ∧ (s.flagMeter a b).uport = s.uport ∧ (s.flagMeter a b).dport = s.dport ∧
    (s.flagMeter a b).retention = s.retention ∧ (s.flagMeter a b).freeUsed = s.freeUsed ∧
    (s.flagMeter a b).pending = s.pending := by
  unfold State.flagMeter; simp only []; (repeat' split) <;> simp

@[simp] theorem State.reportFault_frame (s : State) (a : FaultClass) (b : Option (Fin 4)) (c : Subject) (d : Bool) (e : ResponseMode) :
    (s.reportFault a b c d e).powered = s.powered ∧ (s.reportFault a b c d e).now = s.now ∧
    (s.reportFault a b c d e).pins = s.pins ∧ (s.reportFault a b c d e).tables = s.tables ∧
    (s.reportFault a b c d e).session = s.session ∧ (s.reportFault a b c d e).safety.inputs = s.safety.inputs ∧
    (s.reportFault a b c d e).meters = s.meters ∧ (s.reportFault a b c d e).volumes = s.volumes ∧
    (s.reportFault a b c d e).arms = s.arms ∧ (s.reportFault a b c d e).additive = s.additive ∧
    (s.reportFault a b c d e).custody = s.custody ∧ (s.reportFault a b c d e).uport.address = s.uport.address ∧
    (s.reportFault a b c d e).dport = s.dport ∧ (s.reportFault a b c d e).retention = s.retention ∧
    (s.reportFault a b c d e).freeUsed = s.freeUsed ∧ (s.reportFault a b c d e).pending = s.pending := by
  unfold State.reportFault; simp only []; (repeat' split) <;> simp

@[simp] theorem State.raiseFault_frame (s : State) (a : FaultClass) (b : Option (Fin 4)) (c : Subject) (d : Bool) (e : Option FailureAction) :
    (s.raiseFault a b c d e).powered = s.powered ∧ (s.raiseFault a b c d e).now = s.now ∧
    (s.raiseFault a b c d e).pins = s.pins ∧ (s.raiseFault a b c d e).session.quotaDay = s.session.quotaDay ∧
    (s.raiseFault a b c d e).safety.inputs = s.safety.inputs ∧ (s.raiseFault a b c d e).meters = s.meters ∧
    (s.raiseFault a b c d e).volumes = s.volumes ∧ (s.raiseFault a b c d e).custody.gross = s.custody.gross ∧
    (s.raiseFault a b c d e).uport.address = s.uport.address ∧ (s.raiseFault a b c d e).retention = s.retention ∧
    (s.raiseFault a b c d e).freeUsed = s.freeUsed ∧ (s.raiseFault a b c d e).pending = s.pending := by
  unfold State.raiseFault; simp

@[simp] theorem State.armFault_frame (s : State) (a : FaultClass) (b : Fin 4) :
    (s.armFault a b).powered = s.powered ∧ (s.armFault a b).now = s.now ∧ (s.armFault a b).pins = s.pins ∧
    (s.armFault a b).session.quotaDay = s.session.quotaDay ∧ (s.armFault a b).safety.inputs = s.safety.inputs ∧
    (s.armFault a b).meters = s.meters ∧ (s.armFault a b).volumes = s.volumes ∧
    (s.armFault a b).custody.gross = s.custody.gross ∧ (s.armFault a b).uport.address = s.uport.address ∧
    (s.armFault a b).retention = s.retention ∧ (s.armFault a b).freeUsed = s.freeUsed ∧
    (s.armFault a b).pending = s.pending := by
  unfold State.armFault; simp

@[simp] theorem State.raiseDose_frame (s : State) (a : Fin 4) (b : DoseRec) :
    (s.raiseDose a b).powered = s.powered ∧ (s.raiseDose a b).now = s.now ∧ (s.raiseDose a b).pins = s.pins ∧
    (s.raiseDose a b).session.quotaDay = s.session.quotaDay ∧ (s.raiseDose a b).safety.inputs = s.safety.inputs ∧
    (s.raiseDose a b).meters = s.meters ∧ (s.raiseDose a b).volumes = s.volumes ∧
    (s.raiseDose a b).custody.gross = s.custody.gross ∧ (s.raiseDose a b).uport.address = s.uport.address ∧
    (s.raiseDose a b).retention = s.retention ∧ (s.raiseDose a b).freeUsed = s.freeUsed ∧
    (s.raiseDose a b).pending = s.pending := by
  unfold State.raiseDose; simp

@[simp] theorem State.clearFault_frame (s : State) (a : FaultClass) :
    (s.clearFault a).powered = s.powered ∧ (s.clearFault a).now = s.now ∧ (s.clearFault a).pins = s.pins ∧
    (s.clearFault a).tables = s.tables ∧ (s.clearFault a).session = s.session ∧
    (s.clearFault a).safety.inputs = s.safety.inputs ∧ (s.clearFault a).volumes = s.volumes ∧
    (s.clearFault a).arms = s.arms ∧ (s.clearFault a).additive = s.additive ∧ (s.clearFault a).custody = s.custody ∧
    (s.clearFault a).uport.address = s.uport.address ∧ (s.clearFault a).dport = s.dport ∧
    (s.clearFault a).retention = s.retention ∧ (s.clearFault a).freeUsed = s.freeUsed ∧
    (s.clearFault a).pending = s.pending := by
  unfold State.clearFault; simp only []; (repeat' split) <;> simp

@[simp] theorem State.grantDose_frame (a : Fin 4) (b : RecipeEntry) (s : State) (c : Dose) :
    (s.grantDose a b c).powered = s.powered ∧ (s.grantDose a b c).now = s.now ∧ (s.grantDose a b c).pins = s.pins ∧
    (s.grantDose a b c).tables = s.tables ∧ (s.grantDose a b c).session = s.session ∧
    (s.grantDose a b c).safety = s.safety ∧ (s.grantDose a b c).meters = s.meters ∧
    (s.grantDose a b c).volumes = s.volumes ∧ (s.grantDose a b c).custody = s.custody ∧
    (s.grantDose a b c).uport = s.uport ∧ (s.grantDose a b c).dport = s.dport ∧
    (s.grantDose a b c).retention = s.retention ∧ (s.grantDose a b c).freeUsed = s.freeUsed ∧
    (s.grantDose a b c).pending = s.pending := by
  unfold State.grantDose; simp only []; (repeat' split) <;> simp

@[simp] theorem State.grant_frame (s : State) (a : Fin 4) (b : Option (Fin 16)) :
    (s.grant a b).powered = s.powered ∧ (s.grant a b).now = s.now ∧ (s.grant a b).pins = s.pins ∧
    (s.grant a b).tables = s.tables ∧ (s.grant a b).session = s.session ∧ (s.grant a b).safety = s.safety ∧
    (s.grant a b).meters = s.meters ∧ (s.grant a b).volumes = s.volumes ∧ (s.grant a b).custody = s.custody ∧
    (s.grant a b).uport = s.uport ∧ (s.grant a b).dport = s.dport ∧ (s.grant a b).retention = s.retention ∧
    (s.grant a b).freeUsed = s.freeUsed ∧ (s.grant a b).pending = s.pending := by
  unfold State.grant; try dsimp only
  refine ⟨?_, ?_, ?_, ?_, ?_, ?_, ?_, ?_, ?_, ?_, ?_, ?_, ?_, ?_⟩ <;> (repeat' split) <;>
    first | rfl | (simp; done) | (simp [armIxs, inputIxs]; done) | (apply foldl_frame; intros; simp; done)

@[simp] theorem State.freeInj_frame (s : State) (a : Fin 6) :
    (s.freeInj a).powered = s.powered ∧ (s.freeInj a).now = s.now ∧ (s.freeInj a).pins = s.pins ∧
    (s.freeInj a).tables = s.tables ∧ (s.freeInj a).session = s.session ∧ (s.freeInj a).safety = s.safety ∧
    (s.freeInj a).meters = s.meters ∧ (s.freeInj a).volumes = s.volumes ∧ (s.freeInj a).arms = s.arms ∧
    (s.freeInj a).custody = s.custody ∧ (s.freeInj a).uport = s.uport ∧ (s.freeInj a).dport = s.dport ∧
    (s.freeInj a).retention = s.retention ∧ (s.freeInj a).freeUsed = s.freeUsed ∧
    (s.freeInj a).pending = s.pending := by
  unfold State.freeInj; simp

@[simp] theorem State.revoke_frame (s : State) (a : Fin 4) :
    (s.revoke a).powered = s.powered ∧ (s.revoke a).now = s.now ∧ (s.revoke a).pins = s.pins ∧
    (s.revoke a).tables = s.tables ∧ (s.revoke a).session = s.session ∧ (s.revoke a).safety = s.safety ∧
    (s.revoke a).meters = s.meters ∧ (s.revoke a).volumes = s.volumes ∧ (s.revoke a).custody = s.custody ∧
    (s.revoke a).uport = s.uport ∧ (s.revoke a).dport = s.dport ∧ (s.revoke a).retention = s.retention ∧
    (s.revoke a).freeUsed = s.freeUsed ∧ (s.revoke a).pending = s.pending := by
  unfold State.revoke; try dsimp only
  refine ⟨?_, ?_, ?_, ?_, ?_, ?_, ?_, ?_, ?_, ?_, ?_, ?_, ?_, ?_⟩ <;> (repeat' split) <;>
    first
      | rfl | (simp; done) | (simp [armIxs, inputIxs]; done) | (apply foldl_frame; intros; simp; done)
      | (simp; apply foldl_frame; intros; simp; done)

@[simp] theorem State.enterFlow_frame (s : State) (a : Fin 4) :
    (s.enterFlow a).powered = s.powered ∧ (s.enterFlow a).now = s.now ∧ (s.enterFlow a).pins = s.pins ∧
    (s.enterFlow a).tables = s.tables ∧ (s.enterFlow a).session.quotaDay = s.session.quotaDay ∧
    (s.enterFlow a).session.record = s.session.record ∧ (s.enterFlow a).safety.inputs = s.safety.inputs ∧
    (s.enterFlow a).safety.faults = s.safety.faults ∧ (s.enterFlow a).meters = s.meters ∧
    (s.enterFlow a).volumes = s.volumes ∧ (s.enterFlow a).additive = s.additive ∧
    (s.enterFlow a).custody = s.custody ∧ (s.enterFlow a).uport.address = s.uport.address ∧
    (s.enterFlow a).dport = s.dport ∧ (s.enterFlow a).retention = s.retention ∧
    (s.enterFlow a).freeUsed = s.freeUsed ∧ (s.enterFlow a).pending = s.pending := by
  unfold State.enterFlow; simp only []; (repeat' split) <;> simp

@[simp] theorem State.refuseGrant_frame (s : State) (a : Fin 4) (b : StartSource) (c : BatchReason) :
    (s.refuseGrant a b c).powered = s.powered ∧ (s.refuseGrant a b c).now = s.now ∧
    (s.refuseGrant a b c).pins = s.pins ∧ (s.refuseGrant a b c).tables = s.tables ∧
    (s.refuseGrant a b c).session = s.session ∧ (s.refuseGrant a b c).safety = s.safety ∧
    (s.refuseGrant a b c).meters = s.meters ∧ (s.refuseGrant a b c).volumes = s.volumes ∧
    (s.refuseGrant a b c).arms = s.arms ∧ (s.refuseGrant a b c).additive = s.additive ∧
    (s.refuseGrant a b c).custody = s.custody ∧ (s.refuseGrant a b c).uport.address = s.uport.address ∧
    (s.refuseGrant a b c).retention = s.retention ∧ (s.refuseGrant a b c).freeUsed = s.freeUsed ∧
    (s.refuseGrant a b c).pending = s.pending := by
  unfold State.refuseGrant; simp only []; (repeat' split) <;> simp

@[simp] theorem State.tellStarted_frame (s : State) (a : Fin 4) (b : StartSource) :
    (s.tellStarted a b).powered = s.powered ∧ (s.tellStarted a b).now = s.now ∧ (s.tellStarted a b).pins = s.pins ∧
    (s.tellStarted a b).tables = s.tables ∧ (s.tellStarted a b).session = s.session ∧
    (s.tellStarted a b).safety = s.safety ∧ (s.tellStarted a b).meters = s.meters ∧
    (s.tellStarted a b).volumes = s.volumes ∧ (s.tellStarted a b).arms = s.arms ∧
    (s.tellStarted a b).additive = s.additive ∧ (s.tellStarted a b).custody = s.custody ∧
    (s.tellStarted a b).uport = s.uport ∧ (s.tellStarted a b).retention = s.retention ∧
    (s.tellStarted a b).freeUsed = s.freeUsed ∧ (s.tellStarted a b).pending = s.pending := by
  unfold State.tellStarted; try dsimp only
  refine ⟨?_, ?_, ?_, ?_, ?_, ?_, ?_, ?_, ?_, ?_, ?_, ?_, ?_, ?_, ?_⟩ <;> (repeat' split) <;>
    first | rfl | simp

@[simp] theorem State.backToReady_frame (s : State) (a : Fin 4) (b : ℕ) :
    (s.backToReady a b).powered = s.powered ∧ (s.backToReady a b).now = s.now ∧ (s.backToReady a b).pins = s.pins ∧
    (s.backToReady a b).tables = s.tables ∧ (s.backToReady a b).session.quotaDay = s.session.quotaDay ∧
    (s.backToReady a b).safety.inputs = s.safety.inputs ∧ (s.backToReady a b).safety.faults = s.safety.faults ∧
    (s.backToReady a b).meters = s.meters ∧ (s.backToReady a b).volumes = s.volumes ∧
    (s.backToReady a b).additive = s.additive ∧ (s.backToReady a b).custody = s.custody ∧
    (s.backToReady a b).uport = s.uport ∧ (s.backToReady a b).dport = s.dport ∧
    (s.backToReady a b).retention = s.retention ∧ (s.backToReady a b).freeUsed = s.freeUsed ∧
    (s.backToReady a b).pending = s.pending := by
  unfold State.backToReady; simp

@[simp] theorem State.scanArm_frame (s : State) (a : Fin 4) :
    (s.scanArm a).powered = s.powered ∧ (s.scanArm a).now = s.now ∧ (s.scanArm a).pins = s.pins ∧
    (s.scanArm a).tables = s.tables ∧ (s.scanArm a).session.quotaDay = s.session.quotaDay ∧
    (s.scanArm a).safety.inputs = s.safety.inputs ∧ (s.scanArm a).safety.faults = s.safety.faults ∧
    (s.scanArm a).meters = s.meters ∧ (s.scanArm a).volumes = s.volumes ∧ (s.scanArm a).custody = s.custody ∧
    (s.scanArm a).uport.address = s.uport.address ∧ (s.scanArm a).retention = s.retention ∧
    (s.scanArm a).freeUsed = s.freeUsed ∧ (s.scanArm a).pending = s.pending := by
  unfold State.scanArm; simp only []; (repeat' split) <;> simp

@[simp] theorem State.scan_frame (s : State) :
    s.scan.powered = s.powered ∧ s.scan.now = s.now ∧ s.scan.pins = s.pins ∧ s.scan.tables = s.tables ∧
    s.scan.session.quotaDay = s.session.quotaDay ∧ s.scan.safety.inputs = s.safety.inputs ∧
    s.scan.safety.faults = s.safety.faults ∧ s.scan.meters = s.meters ∧ s.scan.volumes = s.volumes ∧
    s.scan.custody = s.custody ∧ s.scan.uport.address = s.uport.address ∧ s.scan.retention = s.retention ∧
    s.scan.freeUsed = s.freeUsed ∧ s.scan.pending = s.pending := by
  unfold State.scan; try dsimp only
  refine ⟨?_, ?_, ?_, ?_, ?_, ?_, ?_, ?_, ?_, ?_, ?_, ?_, ?_, ?_⟩ <;> (repeat' split) <;>
    first
      | rfl | (simp; done) | (simp [armIxs, inputIxs]; done) | (apply foldl_frame; intros; simp; done)
      | (simp; apply foldl_frame; intros; simp; done)
      | (apply foldl_frame (p := fun y => y.safety.faults); intros; simp; done)
      | (simp; apply foldl_frame (p := fun y => y.safety.faults); intros; simp; done)
      | (apply foldl_frame (p := fun y => y.safety.inputs); intros; simp; done)
      | (simp; apply foldl_frame (p := fun y => y.safety.inputs); intros; simp; done)
      | (apply foldl_frame (p := fun y => y.session.quotaDay); intros; simp; done)
      | (simp; apply foldl_frame (p := fun y => y.session.quotaDay); intros; simp; done)
      | (apply foldl_frame (p := fun y => y.uport.address); intros; simp; done)

@[simp] theorem State.updDose_frame (s : State) (a : Fin 4) (b : ℕ) (c : (DoseRec → DoseRec)) :
    (s.updDose a b c).powered = s.powered ∧ (s.updDose a b c).now = s.now ∧ (s.updDose a b c).pins = s.pins ∧
    (s.updDose a b c).tables = s.tables ∧ (s.updDose a b c).session = s.session ∧
    (s.updDose a b c).safety = s.safety ∧ (s.updDose a b c).meters = s.meters ∧
    (s.updDose a b c).volumes = s.volumes ∧ (s.updDose a b c).additive = s.additive ∧
    (s.updDose a b c).custody = s.custody ∧ (s.updDose a b c).uport = s.uport ∧ (s.updDose a b c).dport = s.dport ∧
    (s.updDose a b c).retention = s.retention ∧ (s.updDose a b c).freeUsed = s.freeUsed ∧
    (s.updDose a b c).pending = s.pending := by
  unfold State.updDose; simp

@[simp] theorem State.openInjection_frame (s : State) (a : Fin 4) (b : ℕ) (c : DoseRec) :
    (s.openInjection a b c).powered = s.powered ∧ (s.openInjection a b c).now = s.now ∧
    (s.openInjection a b c).pins = s.pins ∧ (s.openInjection a b c).tables = s.tables ∧
    (s.openInjection a b c).session = s.session ∧ (s.openInjection a b c).safety = s.safety ∧
    (s.openInjection a b c).meters = s.meters ∧ (s.openInjection a b c).volumes = s.volumes ∧
    (s.openInjection a b c).arms = s.arms ∧ (s.openInjection a b c).custody = s.custody ∧
    (s.openInjection a b c).uport = s.uport ∧ (s.openInjection a b c).dport = s.dport ∧
    (s.openInjection a b c).retention = s.retention ∧ (s.openInjection a b c).freeUsed = s.freeUsed ∧
    (s.openInjection a b c).pending = s.pending := by
  unfold State.openInjection; simp

@[simp] theorem State.demand_frame (a : Fin 4) (b : ℕ) (s : State) :
    (s.demand a b).powered = s.powered ∧ (s.demand a b).now = s.now ∧ (s.demand a b).pins = s.pins ∧
    (s.demand a b).session.quotaDay = s.session.quotaDay ∧ (s.demand a b).safety.inputs = s.safety.inputs ∧
    (s.demand a b).meters = s.meters ∧ (s.demand a b).volumes = s.volumes ∧
    (s.demand a b).custody.gross = s.custody.gross ∧ (s.demand a b).uport.address = s.uport.address ∧
    (s.demand a b).retention = s.retention ∧ (s.demand a b).freeUsed = s.freeUsed ∧
    (s.demand a b).pending = s.pending := by
  unfold State.demand; simp only []; (repeat' split) <;> simp

@[simp] theorem State.doseDemands_frame (a : Fin 4) (b : ℕ) (s : State) (c : ℕ) :
    (s.doseDemands a b c).powered = s.powered ∧ (s.doseDemands a b c).now = s.now ∧
    (s.doseDemands a b c).pins = s.pins ∧ (s.doseDemands a b c).session.quotaDay = s.session.quotaDay ∧
    (s.doseDemands a b c).safety.inputs = s.safety.inputs ∧ (s.doseDemands a b c).meters = s.meters ∧
    (s.doseDemands a b c).volumes = s.volumes ∧ (s.doseDemands a b c).custody.gross = s.custody.gross ∧
    (s.doseDemands a b c).uport.address = s.uport.address ∧ (s.doseDemands a b c).retention = s.retention ∧
    (s.doseDemands a b c).freeUsed = s.freeUsed ∧ (s.doseDemands a b c).pending = s.pending := by
  unfold State.doseDemands; try dsimp only
  refine ⟨?_, ?_, ?_, ?_, ?_, ?_, ?_, ?_, ?_, ?_, ?_, ?_⟩ <;> (repeat' split) <;>
    first
      | rfl | (simp; done) | (simp [armIxs, inputIxs]; done) | (apply foldl_frame; intros; simp; done)
      | (simp; apply foldl_frame; intros; simp; done)
      | (apply foldl_frame (p := fun y => y.custody.gross); intros; simp; done)
      | (simp; apply foldl_frame (p := fun y => y.custody.gross); intros; simp; done)
      | (apply foldl_frame (p := fun y => y.safety.inputs); intros; simp; done)
      | (simp; apply foldl_frame (p := fun y => y.safety.inputs); intros; simp; done)
      | (apply foldl_frame (p := fun y => y.session.quotaDay); intros; simp; done)
      | (simp; apply foldl_frame (p := fun y => y.session.quotaDay); intros; simp; done)
      | (apply foldl_frame (p := fun y => y.uport.address); intros; simp; done)

@[simp] theorem State.demands_frame (s : State) (a : Fin 4) :
    (s.demands a).powered = s.powered ∧ (s.demands a).now = s.now ∧ (s.demands a).pins = s.pins ∧
    (s.demands a).session.quotaDay = s.session.quotaDay ∧ (s.demands a).safety.inputs = s.safety.inputs ∧
    (s.demands a).meters = s.meters ∧ (s.demands a).volumes = s.volumes ∧
    (s.demands a).custody.gross = s.custody.gross ∧ (s.demands a).uport.address = s.uport.address ∧
    (s.demands a).retention = s.retention ∧ (s.demands a).freeUsed = s.freeUsed ∧
    (s.demands a).pending = s.pending := by
  unfold State.demands; try dsimp only
  refine ⟨?_, ?_, ?_, ?_, ?_, ?_, ?_, ?_, ?_, ?_, ?_, ?_⟩ <;> (repeat' split) <;>
    first
      | rfl | (simp; done) | (simp [armIxs, inputIxs]; done) | (apply foldl_frame; intros; simp; done)
      | (simp; apply foldl_frame; intros; simp; done)
      | (apply foldl_frame (p := fun y => y.custody.gross); intros; simp; done)
      | (simp; apply foldl_frame (p := fun y => y.custody.gross); intros; simp; done)
      | (apply foldl_frame (p := fun y => y.safety.inputs); intros; simp; done)
      | (simp; apply foldl_frame (p := fun y => y.safety.inputs); intros; simp; done)
      | (apply foldl_frame (p := fun y => y.session.quotaDay); intros; simp; done)
      | (simp; apply foldl_frame (p := fun y => y.session.quotaDay); intros; simp; done)
      | (apply foldl_frame (p := fun y => y.uport.address); intros; simp; done)

@[simp] theorem State.injectorFailed_frame (s : State) (a : Fin 6) (b : Option (Fin 4 × ℕ)) :
    (s.injectorFailed a b).powered = s.powered ∧ (s.injectorFailed a b).now = s.now ∧
    (s.injectorFailed a b).pins = s.pins ∧ (s.injectorFailed a b).session.quotaDay = s.session.quotaDay ∧
    (s.injectorFailed a b).safety.inputs = s.safety.inputs ∧ (s.injectorFailed a b).meters = s.meters ∧
    (s.injectorFailed a b).volumes = s.volumes ∧ (s.injectorFailed a b).custody.gross = s.custody.gross ∧
    (s.injectorFailed a b).uport.address = s.uport.address ∧ (s.injectorFailed a b).retention = s.retention ∧
    (s.injectorFailed a b).freeUsed = s.freeUsed ∧ (s.injectorFailed a b).pending = s.pending := by
  unfold State.injectorFailed; simp only []; (repeat' split) <;> simp

@[simp] theorem State.doseCheck_frame (s : State) (a : Fin 4) (b : ℕ) :
    (s.doseCheck a b).powered = s.powered ∧ (s.doseCheck a b).now = s.now ∧ (s.doseCheck a b).pins = s.pins ∧
    (s.doseCheck a b).session.quotaDay = s.session.quotaDay ∧ (s.doseCheck a b).safety.inputs = s.safety.inputs ∧
    (s.doseCheck a b).meters = s.meters ∧ (s.doseCheck a b).volumes = s.volumes ∧
    (s.doseCheck a b).custody.gross = s.custody.gross ∧ (s.doseCheck a b).uport.address = s.uport.address ∧
    (s.doseCheck a b).retention = s.retention ∧ (s.doseCheck a b).freeUsed = s.freeUsed ∧
    (s.doseCheck a b).pending = s.pending := by
  unfold State.doseCheck; simp only []; (repeat' split) <;> simp

@[simp] theorem State.continueDose_frame (s : State) (a : Fin 6) (b : Fin 4) (c : ℕ) :
    (s.continueDose a b c).powered = s.powered ∧ (s.continueDose a b c).now = s.now ∧
    (s.continueDose a b c).pins = s.pins ∧ (s.continueDose a b c).session.quotaDay = s.session.quotaDay ∧
    (s.continueDose a b c).safety.inputs = s.safety.inputs ∧ (s.continueDose a b c).meters = s.meters ∧
    (s.continueDose a b c).volumes = s.volumes ∧ (s.continueDose a b c).custody.gross = s.custody.gross ∧
    (s.continueDose a b c).uport.address = s.uport.address ∧ (s.continueDose a b c).retention = s.retention ∧
    (s.continueDose a b c).freeUsed = s.freeUsed ∧ (s.continueDose a b c).pending = s.pending := by
  unfold State.continueDose; simp only []; (repeat' split) <;> simp

@[simp] theorem State.closeInjection_frame (s : State) (a : Fin 6) (b : Bool) :
    (s.closeInjection a b).powered = s.powered ∧ (s.closeInjection a b).now = s.now ∧
    (s.closeInjection a b).pins = s.pins ∧ (s.closeInjection a b).session.quotaDay = s.session.quotaDay ∧
    (s.closeInjection a b).safety.inputs = s.safety.inputs ∧ (s.closeInjection a b).meters = s.meters ∧
    (s.closeInjection a b).volumes = s.volumes ∧ (s.closeInjection a b).custody.gross = s.custody.gross ∧
    (s.closeInjection a b).uport.address = s.uport.address ∧ (s.closeInjection a b).retention = s.retention ∧
    (s.closeInjection a b).freeUsed = s.freeUsed ∧ (s.closeInjection a b).pending = s.pending := by
  unfold State.closeInjection; simp only []; (repeat' split) <;> simp

@[simp] theorem State.feedback_frame (s : State) (a : Fin 6) :
    (s.feedback a).powered = s.powered ∧ (s.feedback a).now = s.now ∧ (s.feedback a).pins = s.pins ∧
    (s.feedback a).session.quotaDay = s.session.quotaDay ∧ (s.feedback a).safety.inputs = s.safety.inputs ∧
    (s.feedback a).meters = s.meters ∧ (s.feedback a).volumes = s.volumes ∧
    (s.feedback a).custody.gross = s.custody.gross ∧ (s.feedback a).uport.address = s.uport.address ∧
    (s.feedback a).retention = s.retention ∧ (s.feedback a).freeUsed = s.freeUsed ∧
    (s.feedback a).pending = s.pending := by
  unfold State.feedback; simp only []; (repeat' split) <;> simp

@[simp] theorem State.finaliseDose_frame (a : Fin 4) (b : ℕ) (s : State) (c : ℕ) :
    (s.finaliseDose a b c).powered = s.powered ∧ (s.finaliseDose a b c).now = s.now ∧
    (s.finaliseDose a b c).pins = s.pins ∧ (s.finaliseDose a b c).tables = s.tables ∧
    (s.finaliseDose a b c).session = s.session ∧ (s.finaliseDose a b c).safety = s.safety ∧
    (s.finaliseDose a b c).meters = s.meters ∧ (s.finaliseDose a b c).volumes = s.volumes ∧
    (s.finaliseDose a b c).custody = s.custody ∧ (s.finaliseDose a b c).uport = s.uport ∧
    (s.finaliseDose a b c).dport = s.dport ∧ (s.finaliseDose a b c).retention = s.retention ∧
    (s.finaliseDose a b c).freeUsed = s.freeUsed ∧ (s.finaliseDose a b c).pending = s.pending := by
  unfold State.finaliseDose; simp only []; (repeat' split) <;> simp

@[simp] theorem State.releaseDoses_frame (s : State) (a : Fin 4) (b : Bool) :
    (s.releaseDoses a b).powered = s.powered ∧ (s.releaseDoses a b).now = s.now ∧ (s.releaseDoses a b).pins = s.pins ∧
    (s.releaseDoses a b).tables = s.tables ∧ (s.releaseDoses a b).session.quotaDay = s.session.quotaDay ∧
    (s.releaseDoses a b).safety.inputs = s.safety.inputs ∧ (s.releaseDoses a b).safety.faults = s.safety.faults ∧
    (s.releaseDoses a b).meters = s.meters ∧ (s.releaseDoses a b).volumes = s.volumes ∧
    (s.releaseDoses a b).custody = s.custody ∧ (s.releaseDoses a b).uport.address = s.uport.address ∧
    (s.releaseDoses a b).retention = s.retention ∧ (s.releaseDoses a b).freeUsed = s.freeUsed ∧
    (s.releaseDoses a b).pending = s.pending := by
  unfold State.releaseDoses; try dsimp only
  refine ⟨?_, ?_, ?_, ?_, ?_, ?_, ?_, ?_, ?_, ?_, ?_, ?_, ?_, ?_⟩ <;> (repeat' split) <;>
    first
      | rfl | (simp; done) | (simp [armIxs, inputIxs]; done) | (apply foldl_frame; intros; simp; done)
      | (simp; apply foldl_frame; intros; simp; done)
      | (apply foldl_frame (p := fun y => y.safety.faults); intros; simp; done)
      | (simp; apply foldl_frame (p := fun y => y.safety.faults); intros; simp; done)
      | (apply foldl_frame (p := fun y => y.safety.inputs); intros; simp; done)
      | (simp; apply foldl_frame (p := fun y => y.safety.inputs); intros; simp; done)
      | (apply foldl_frame (p := fun y => y.session.quotaDay); intros; simp; done)
      | (simp; apply foldl_frame (p := fun y => y.session.quotaDay); intros; simp; done)
      | (apply foldl_frame (p := fun y => y.uport.address); intros; simp; done)
      | (simp; apply foldl_frame (p := fun y => y.uport.address); intros; simp; done)

@[simp] theorem State.badSample_frame (s : State) (a : Fin 4) :
    (s.badSample a).powered = s.powered ∧ (s.badSample a).now = s.now ∧ (s.badSample a).pins = s.pins ∧
    (s.badSample a).tables = s.tables ∧ (s.badSample a).session = s.session ∧ (s.badSample a).safety = s.safety ∧
    (s.badSample a).meters = s.meters ∧ (s.badSample a).arms = s.arms ∧ (s.badSample a).additive = s.additive ∧
    (s.badSample a).custody = s.custody ∧ (s.badSample a).uport = s.uport ∧ (s.badSample a).dport = s.dport ∧
    (s.badSample a).retention = s.retention ∧ (s.badSample a).freeUsed = s.freeUsed ∧
    (s.badSample a).pending = s.pending := by
  unfold State.badSample; simp

@[simp] theorem State.goodSample_frame (s : State) (a : Fin 4) (b : ℤ) :
    (s.goodSample a b).powered = s.powered ∧ (s.goodSample a b).now = s.now ∧ (s.goodSample a b).pins = s.pins ∧
    (s.goodSample a b).tables = s.tables ∧ (s.goodSample a b).session = s.session ∧
    (s.goodSample a b).safety = s.safety ∧ (s.goodSample a b).meters = s.meters ∧
    (s.goodSample a b).additive = s.additive ∧ (s.goodSample a b).custody = s.custody ∧
    (s.goodSample a b).uport = s.uport ∧ (s.goodSample a b).dport = s.dport ∧
    (s.goodSample a b).retention = s.retention ∧ (s.goodSample a b).freeUsed = s.freeUsed ∧
    (s.goodSample a b).pending = s.pending := by
  unfold State.goodSample; simp

@[simp] theorem State.goStale_frame (s : State) (a : Fin 4) :
    (s.goStale a).powered = s.powered ∧ (s.goStale a).now = s.now ∧ (s.goStale a).pins = s.pins ∧
    (s.goStale a).tables = s.tables ∧ (s.goStale a).session = s.session ∧ (s.goStale a).safety = s.safety ∧
    (s.goStale a).meters = s.meters ∧ (s.goStale a).arms = s.arms ∧ (s.goStale a).additive = s.additive ∧
    (s.goStale a).custody = s.custody ∧ (s.goStale a).uport.address = s.uport.address ∧
    (s.goStale a).dport = s.dport ∧ (s.goStale a).retention = s.retention ∧ (s.goStale a).freeUsed = s.freeUsed ∧
    (s.goStale a).pending = s.pending := by
  unfold State.goStale; simp

@[simp] theorem State.setup_frame (s : State) (a : Fin 4) (b : SetupFields) (c : StartSource) :
    (s.setup a b c).1.powered = s.powered ∧ (s.setup a b c).1.now = s.now ∧ (s.setup a b c).1.pins = s.pins ∧
    (s.setup a b c).1.tables = s.tables ∧ (s.setup a b c).1.session.quotaDay = s.session.quotaDay ∧
    (s.setup a b c).1.safety.inputs = s.safety.inputs ∧ (s.setup a b c).1.safety.faults = s.safety.faults ∧
    (s.setup a b c).1.meters = s.meters ∧ (s.setup a b c).1.volumes = s.volumes ∧
    (s.setup a b c).1.additive = s.additive ∧ (s.setup a b c).1.custody = s.custody ∧
    (s.setup a b c).1.uport = s.uport ∧ (s.setup a b c).1.dport = s.dport ∧
    (s.setup a b c).1.retention = s.retention ∧ (s.setup a b c).1.freeUsed = s.freeUsed ∧
    (s.setup a b c).1.pending = s.pending := by
  unfold State.setup; simp only []; (repeat' split) <;> simp

@[simp] theorem State.joinWaiting_frame (s : State) (a : Fin 4) (b : Option (Fin 16)) :
    (s.joinWaiting a b).powered = s.powered ∧ (s.joinWaiting a b).now = s.now ∧ (s.joinWaiting a b).pins = s.pins ∧
    (s.joinWaiting a b).tables = s.tables ∧ (s.joinWaiting a b).session.quotaDay = s.session.quotaDay ∧
    (s.joinWaiting a b).session.record = s.session.record ∧ (s.joinWaiting a b).safety.inputs = s.safety.inputs ∧
    (s.joinWaiting a b).safety.faults = s.safety.faults ∧ (s.joinWaiting a b).meters = s.meters ∧
    (s.joinWaiting a b).volumes = s.volumes ∧ (s.joinWaiting a b).custody = s.custody ∧
    (s.joinWaiting a b).uport.address = s.uport.address ∧ (s.joinWaiting a b).dport = s.dport ∧
    (s.joinWaiting a b).retention = s.retention ∧ (s.joinWaiting a b).freeUsed = s.freeUsed ∧
    (s.joinWaiting a b).pending = s.pending := by
  unfold State.joinWaiting; simp

@[simp] theorem State.takeStart_frame (s : State) (a : Fin 4) (b : Batch) (c : StartSource) (d : Bool) :
    (s.takeStart a b c d).1.powered = s.powered ∧ (s.takeStart a b c d).1.now = s.now ∧
    (s.takeStart a b c d).1.pins = s.pins ∧ (s.takeStart a b c d).1.tables = s.tables ∧
    (s.takeStart a b c d).1.session.quotaDay = s.session.quotaDay ∧
    (s.takeStart a b c d).1.safety.inputs = s.safety.inputs ∧
    (s.takeStart a b c d).1.safety.faults = s.safety.faults ∧ (s.takeStart a b c d).1.meters = s.meters ∧
    (s.takeStart a b c d).1.volumes = s.volumes ∧ (s.takeStart a b c d).1.custody = s.custody ∧
    (s.takeStart a b c d).1.uport.address = s.uport.address ∧ (s.takeStart a b c d).1.dport = s.dport ∧
    (s.takeStart a b c d).1.retention = s.retention ∧ (s.takeStart a b c d).1.freeUsed = s.freeUsed ∧
    (s.takeStart a b c d).1.pending = s.pending := by
  unfold State.takeStart; simp only []; (repeat' split) <;> simp

@[simp] theorem State.takeResume_frame (s : State) (a : Fin 4) :
    (s.takeResume a).powered = s.powered ∧ (s.takeResume a).now = s.now ∧ (s.takeResume a).pins = s.pins ∧
    (s.takeResume a).tables = s.tables ∧ (s.takeResume a).session.quotaDay = s.session.quotaDay ∧
    (s.takeResume a).session.record = s.session.record ∧ (s.takeResume a).safety.inputs = s.safety.inputs ∧
    (s.takeResume a).safety.faults = s.safety.faults ∧ (s.takeResume a).meters = s.meters ∧
    (s.takeResume a).volumes = s.volumes ∧ (s.takeResume a).additive = s.additive ∧
    (s.takeResume a).custody = s.custody ∧ (s.takeResume a).uport.address = s.uport.address ∧
    (s.takeResume a).dport = s.dport ∧ (s.takeResume a).retention = s.retention ∧
    (s.takeResume a).freeUsed = s.freeUsed ∧ (s.takeResume a).pending = s.pending := by
  unfold State.takeResume; simp

@[simp] theorem State.markProduct_frame (s : State) (a : Batch) :
    (s.markProduct a).powered = s.powered ∧ (s.markProduct a).now = s.now ∧ (s.markProduct a).pins = s.pins ∧
    (s.markProduct a).session = s.session ∧ (s.markProduct a).safety = s.safety ∧
    (s.markProduct a).meters = s.meters ∧ (s.markProduct a).volumes = s.volumes ∧ (s.markProduct a).arms = s.arms ∧
    (s.markProduct a).additive = s.additive ∧ (s.markProduct a).custody = s.custody ∧
    (s.markProduct a).uport = s.uport ∧ (s.markProduct a).dport = s.dport ∧
    (s.markProduct a).retention = s.retention ∧ (s.markProduct a).freeUsed = s.freeUsed ∧
    (s.markProduct a).pending = s.pending := by
  unfold State.markProduct; try dsimp only
  refine ⟨?_, ?_, ?_, ?_, ?_, ?_, ?_, ?_, ?_, ?_, ?_, ?_, ?_, ?_, ?_⟩ <;> (repeat' split) <;>
    first | rfl | simp

@[simp] theorem State.dropBatch_frame (s : State) (a : Fin 4) :
    (s.dropBatch a).powered = s.powered ∧ (s.dropBatch a).now = s.now ∧ (s.dropBatch a).pins = s.pins ∧
    (s.dropBatch a).tables = s.tables ∧ (s.dropBatch a).session.quotaDay = s.session.quotaDay ∧
    (s.dropBatch a).session.record = s.session.record ∧ (s.dropBatch a).safety.inputs = s.safety.inputs ∧
    (s.dropBatch a).safety.faults = s.safety.faults ∧ (s.dropBatch a).meters = s.meters ∧
    (s.dropBatch a).additive = s.additive ∧ (s.dropBatch a).custody = s.custody ∧ (s.dropBatch a).uport = s.uport ∧
    (s.dropBatch a).dport = s.dport ∧ (s.dropBatch a).retention = s.retention ∧
    (s.dropBatch a).freeUsed = s.freeUsed ∧ (s.dropBatch a).pending = s.pending := by
  unfold State.dropBatch; simp

@[simp] theorem State.recordEnd_frame (s : State) (a : Fin 4) (b : Batch) (c : EndReason) :
    (s.recordEnd a b c).powered = s.powered ∧ (s.recordEnd a b c).now = s.now ∧ (s.recordEnd a b c).pins = s.pins ∧
    (s.recordEnd a b c).session.quotaDay = s.session.quotaDay ∧ (s.recordEnd a b c).safety = s.safety ∧
    (s.recordEnd a b c).meters = s.meters ∧ (s.recordEnd a b c).volumes = s.volumes ∧
    (s.recordEnd a b c).arms = s.arms ∧ (s.recordEnd a b c).additive = s.additive ∧
    (s.recordEnd a b c).custody = s.custody ∧ (s.recordEnd a b c).uport.address = s.uport.address ∧
    (s.recordEnd a b c).dport = s.dport ∧ (s.recordEnd a b c).retention = s.retention ∧
    (s.recordEnd a b c).freeUsed = s.freeUsed ∧ (s.recordEnd a b c).pending = s.pending := by
  unfold State.recordEnd; simp

@[simp] theorem State.batchEnd_frame (s : State) (a : Fin 4) (b : EndReason) (c : Bool) :
    (s.batchEnd a b c).powered = s.powered ∧ (s.batchEnd a b c).now = s.now ∧ (s.batchEnd a b c).pins = s.pins ∧
    (s.batchEnd a b c).session.quotaDay = s.session.quotaDay ∧ (s.batchEnd a b c).safety.inputs = s.safety.inputs ∧
    (s.batchEnd a b c).safety.faults = s.safety.faults ∧ (s.batchEnd a b c).meters = s.meters ∧
    (s.batchEnd a b c).custody = s.custody ∧ (s.batchEnd a b c).uport.address = s.uport.address ∧
    (s.batchEnd a b c).retention = s.retention ∧ (s.batchEnd a b c).freeUsed = s.freeUsed ∧
    (s.batchEnd a b c).pending = s.pending := by
  unfold State.batchEnd; simp only []; (repeat' split) <;> simp

@[simp] theorem State.observeOverrun_frame (s : State) (a : Fin 4) :
    (s.observeOverrun a).powered = s.powered ∧ (s.observeOverrun a).now = s.now ∧ (s.observeOverrun a).pins = s.pins ∧
    (s.observeOverrun a).session.quotaDay = s.session.quotaDay ∧
    (s.observeOverrun a).safety.inputs = s.safety.inputs ∧ (s.observeOverrun a).meters = s.meters ∧
    (s.observeOverrun a).volumes = s.volumes ∧ (s.observeOverrun a).custody.gross = s.custody.gross ∧
    (s.observeOverrun a).uport.address = s.uport.address ∧ (s.observeOverrun a).retention = s.retention ∧
    (s.observeOverrun a).freeUsed = s.freeUsed ∧ (s.observeOverrun a).pending = s.pending := by
  unfold State.observeOverrun; simp only []; (repeat' split) <;> simp

@[simp] theorem State.endStopped_frame (s : State) (a : Fin 4) :
    (s.endStopped a).powered = s.powered ∧ (s.endStopped a).now = s.now ∧ (s.endStopped a).pins = s.pins ∧
    (s.endStopped a).session.quotaDay = s.session.quotaDay ∧ (s.endStopped a).safety.inputs = s.safety.inputs ∧
    (s.endStopped a).meters = s.meters ∧ (s.endStopped a).custody.gross = s.custody.gross ∧
    (s.endStopped a).uport.address = s.uport.address ∧ (s.endStopped a).retention = s.retention ∧
    (s.endStopped a).freeUsed = s.freeUsed ∧ (s.endStopped a).pending = s.pending := by
  unfold State.endStopped; simp

@[simp] theorem State.aEdge_frame (s : State) (a : Fin 4) :
    (s.aEdge a).powered = s.powered ∧ (s.aEdge a).now = s.now ∧ (s.aEdge a).pins = s.pins ∧
    (s.aEdge a).session.quotaDay = s.session.quotaDay ∧ (s.aEdge a).safety.inputs = s.safety.inputs ∧
    (s.aEdge a).volumes = s.volumes ∧ (s.aEdge a).custody.gross = s.custody.gross ∧
    (s.aEdge a).uport.address = s.uport.address ∧ (s.aEdge a).retention = s.retention ∧
    (s.aEdge a).freeUsed = s.freeUsed ∧ (s.aEdge a).pending = s.pending := by
  unfold State.aEdge; simp only []; (repeat' split) <;> simp

@[simp] theorem State.discrepancy_frame (s : State) (a : Fin 4) :
    (s.discrepancy a).powered = s.powered ∧ (s.discrepancy a).now = s.now ∧ (s.discrepancy a).pins = s.pins ∧
    (s.discrepancy a).session.quotaDay = s.session.quotaDay ∧ (s.discrepancy a).safety.inputs = s.safety.inputs ∧
    (s.discrepancy a).volumes = s.volumes ∧ (s.discrepancy a).custody.gross = s.custody.gross ∧
    (s.discrepancy a).uport.address = s.uport.address ∧ (s.discrepancy a).retention = s.retention ∧
    (s.discrepancy a).freeUsed = s.freeUsed ∧ (s.discrepancy a).pending = s.pending := by
  unfold State.discrepancy; simp only []; (repeat' split) <;> simp

@[simp] theorem State.creditBatch_frame (s : State) (a : Fin 4) (b : Batch) (c : ℕ) :
    (s.creditBatch a b c).powered = s.powered ∧ (s.creditBatch a b c).now = s.now ∧
    (s.creditBatch a b c).pins = s.pins ∧ (s.creditBatch a b c).session.quotaDay = s.session.quotaDay ∧
    (s.creditBatch a b c).safety.inputs = s.safety.inputs ∧ (s.creditBatch a b c).meters = s.meters ∧
    (s.creditBatch a b c).volumes = s.volumes ∧ (s.creditBatch a b c).uport.address = s.uport.address ∧
    (s.creditBatch a b c).retention = s.retention ∧ (s.creditBatch a b c).freeUsed = s.freeUsed ∧
    (s.creditBatch a b c).pending = s.pending := by
  unfold State.creditBatch; dsimp only; split <;> simp

@[simp] theorem State.creditUnauth_frame (s : State) (a : Fin 4) (b : ℕ) :
    (s.creditUnauth a b).powered = s.powered ∧ (s.creditUnauth a b).now = s.now ∧ (s.creditUnauth a b).pins = s.pins ∧
    (s.creditUnauth a b).tables = s.tables ∧ (s.creditUnauth a b).session = s.session ∧
    (s.creditUnauth a b).safety = s.safety ∧ (s.creditUnauth a b).arms = s.arms ∧
    (s.creditUnauth a b).additive = s.additive ∧ (s.creditUnauth a b).custody.places = s.custody.places ∧
    (s.creditUnauth a b).custody.counter = s.custody.counter ∧ (s.creditUnauth a b).uport = s.uport ∧
    (s.creditUnauth a b).dport = s.dport ∧ (s.creditUnauth a b).retention = s.retention ∧
    (s.creditUnauth a b).freeUsed = s.freeUsed ∧ (s.creditUnauth a b).pending = s.pending := by
  unfold State.creditUnauth; simp

@[simp] theorem State.credit_frame (s : State) (a : Fin 4) :
    (s.credit a).powered = s.powered ∧ (s.credit a).now = s.now ∧ (s.credit a).pins = s.pins ∧
    (s.credit a).session.quotaDay = s.session.quotaDay ∧ (s.credit a).safety.inputs = s.safety.inputs ∧
    (s.credit a).uport.address = s.uport.address ∧ (s.credit a).retention = s.retention ∧
    (s.credit a).freeUsed = s.freeUsed ∧ (s.credit a).pending = s.pending := by
  unfold State.credit; simp only []; (repeat' split) <;> simp

@[simp] theorem State.unauthCheck_frame (s : State) (a : Fin 4) :
    (s.unauthCheck a).powered = s.powered ∧ (s.unauthCheck a).now = s.now ∧ (s.unauthCheck a).pins = s.pins ∧
    (s.unauthCheck a).session.quotaDay = s.session.quotaDay ∧ (s.unauthCheck a).safety.inputs = s.safety.inputs ∧
    (s.unauthCheck a).volumes = s.volumes ∧ (s.unauthCheck a).custody.gross = s.custody.gross ∧
    (s.unauthCheck a).uport.address = s.uport.address ∧ (s.unauthCheck a).retention = s.retention ∧
    (s.unauthCheck a).freeUsed = s.freeUsed ∧ (s.unauthCheck a).pending = s.pending := by
  unfold State.unauthCheck; simp only []; (repeat' split) <;> simp

@[simp] theorem State.noFlow_frame (s : State) (a : Fin 4) (b : ℕ) :
    (s.noFlow a b).powered = s.powered ∧ (s.noFlow a b).now = s.now ∧ (s.noFlow a b).pins = s.pins ∧
    (s.noFlow a b).tables = s.tables ∧ (s.noFlow a b).session.quotaDay = s.session.quotaDay ∧
    (s.noFlow a b).session.record = s.session.record ∧ (s.noFlow a b).safety.inputs = s.safety.inputs ∧
    (s.noFlow a b).safety.faults = s.safety.faults ∧ (s.noFlow a b).meters = s.meters ∧
    (s.noFlow a b).volumes = s.volumes ∧ (s.noFlow a b).additive = s.additive ∧ (s.noFlow a b).custody = s.custody ∧
    (s.noFlow a b).uport.address = s.uport.address ∧ (s.noFlow a b).dport = s.dport ∧
    (s.noFlow a b).retention = s.retention ∧ (s.noFlow a b).freeUsed = s.freeUsed ∧
    (s.noFlow a b).pending = s.pending := by
  unfold State.noFlow; simp only []; (repeat' split) <;> simp

@[simp] theorem State.examineFlow_frame (s : State) (a : Fin 4) (b : Batch) (c : ℕ) :
    (s.examineFlow a b c).powered = s.powered ∧ (s.examineFlow a b c).now = s.now ∧
    (s.examineFlow a b c).pins = s.pins ∧ (s.examineFlow a b c).tables = s.tables ∧
    (s.examineFlow a b c).session.quotaDay = s.session.quotaDay ∧
    (s.examineFlow a b c).session.record = s.session.record ∧ (s.examineFlow a b c).safety.inputs = s.safety.inputs ∧
    (s.examineFlow a b c).safety.faults = s.safety.faults ∧ (s.examineFlow a b c).meters = s.meters ∧
    (s.examineFlow a b c).volumes = s.volumes ∧ (s.examineFlow a b c).additive = s.additive ∧
    (s.examineFlow a b c).custody = s.custody ∧ (s.examineFlow a b c).uport.address = s.uport.address ∧
    (s.examineFlow a b c).dport = s.dport ∧ (s.examineFlow a b c).retention = s.retention ∧
    (s.examineFlow a b c).freeUsed = s.freeUsed ∧ (s.examineFlow a b c).pending = s.pending := by
  unfold State.examineFlow; try dsimp only
  refine ⟨?_, ?_, ?_, ?_, ?_, ?_, ?_, ?_, ?_, ?_, ?_, ?_, ?_, ?_, ?_, ?_, ?_⟩ <;> (repeat' split) <;>
    first | rfl | simp

@[simp] theorem State.examineSuspended_frame (s : State) (a : Fin 4) (b : ℕ) :
    (s.examineSuspended a b).powered = s.powered ∧ (s.examineSuspended a b).now = s.now ∧
    (s.examineSuspended a b).pins = s.pins ∧ (s.examineSuspended a b).tables = s.tables ∧
    (s.examineSuspended a b).session = s.session ∧ (s.examineSuspended a b).safety = s.safety ∧
    (s.examineSuspended a b).meters = s.meters ∧ (s.examineSuspended a b).volumes = s.volumes ∧
    (s.examineSuspended a b).additive = s.additive ∧ (s.examineSuspended a b).custody = s.custody ∧
    (s.examineSuspended a b).uport = s.uport ∧ (s.examineSuspended a b).dport = s.dport ∧
    (s.examineSuspended a b).retention = s.retention ∧ (s.examineSuspended a b).freeUsed = s.freeUsed ∧
    (s.examineSuspended a b).pending = s.pending := by
  unfold State.examineSuspended; simp only []; (repeat' split) <;> simp

@[simp] theorem State.examineStopping_frame (s : State) (a : Fin 4) (b : ℕ) :
    (s.examineStopping a b).powered = s.powered ∧ (s.examineStopping a b).now = s.now ∧
    (s.examineStopping a b).pins = s.pins ∧ (s.examineStopping a b).session.quotaDay = s.session.quotaDay ∧
    (s.examineStopping a b).safety.inputs = s.safety.inputs ∧ (s.examineStopping a b).meters = s.meters ∧
    (s.examineStopping a b).custody.gross = s.custody.gross ∧
    (s.examineStopping a b).uport.address = s.uport.address ∧ (s.examineStopping a b).retention = s.retention ∧
    (s.examineStopping a b).freeUsed = s.freeUsed ∧ (s.examineStopping a b).pending = s.pending := by
  unfold State.examineStopping; simp only []; (repeat' split) <;> simp

@[simp] theorem State.examine_frame (s : State) (a : Fin 4) :
    (s.examine a).powered = s.powered ∧ (s.examine a).now = s.now ∧ (s.examine a).pins = s.pins ∧
    (s.examine a).session.quotaDay = s.session.quotaDay ∧ (s.examine a).safety.inputs = s.safety.inputs ∧
    (s.examine a).meters = s.meters ∧ (s.examine a).custody.gross = s.custody.gross ∧
    (s.examine a).uport.address = s.uport.address ∧ (s.examine a).retention = s.retention ∧
    (s.examine a).freeUsed = s.freeUsed ∧ (s.examine a).pending = s.pending := by
  unfold State.examine; simp only []; (repeat' split) <;> simp

@[simp] theorem State.startChannel_frame (s : State) (a : Fin 4) (b : ℕ) (c : ℕ) (d : ℕ) :
    (s.startChannel a b c d).powered = s.powered ∧ (s.startChannel a b c d).now = s.now ∧
    (s.startChannel a b c d).pins = s.pins ∧ (s.startChannel a b c d).tables = s.tables ∧
    (s.startChannel a b c d).session = s.session ∧ (s.startChannel a b c d).safety = s.safety ∧
    (s.startChannel a b c d).arms = s.arms ∧ (s.startChannel a b c d).additive = s.additive ∧
    (s.startChannel a b c d).custody = s.custody ∧ (s.startChannel a b c d).uport = s.uport ∧
    (s.startChannel a b c d).dport = s.dport ∧ (s.startChannel a b c d).retention = s.retention ∧
    (s.startChannel a b c d).freeUsed = s.freeUsed ∧ (s.startChannel a b c d).pending = s.pending := by
  unfold State.startChannel; simp

@[simp] theorem State.linkFrame_frame (s : State) :
    s.linkFrame.powered = s.powered ∧ s.linkFrame.now = s.now ∧ s.linkFrame.pins = s.pins ∧
    s.linkFrame.tables = s.tables ∧ s.linkFrame.session = s.session ∧ s.linkFrame.safety = s.safety ∧
    s.linkFrame.meters = s.meters ∧ s.linkFrame.volumes = s.volumes ∧ s.linkFrame.arms = s.arms ∧
    s.linkFrame.additive = s.additive ∧ s.linkFrame.custody = s.custody ∧
    s.linkFrame.uport.address = s.uport.address ∧ s.linkFrame.dport = s.dport ∧ s.linkFrame.retention = s.retention ∧
    s.linkFrame.freeUsed = s.freeUsed ∧ s.linkFrame.pending = s.pending := by
  unfold State.linkFrame; simp only []; (repeat' split) <;> simp

@[simp] theorem State.countOverlap_frame (s : State) :
    s.countOverlap.powered = s.powered ∧ s.countOverlap.now = s.now ∧ s.countOverlap.pins = s.pins ∧
    s.countOverlap.tables = s.tables ∧ s.countOverlap.session = s.session ∧ s.countOverlap.safety = s.safety ∧
    s.countOverlap.meters = s.meters ∧ s.countOverlap.volumes = s.volumes ∧ s.countOverlap.arms = s.arms ∧
    s.countOverlap.additive = s.additive ∧ s.countOverlap.custody = s.custody ∧
    s.countOverlap.uport.address = s.uport.address ∧ s.countOverlap.dport = s.dport ∧
    s.countOverlap.retention = s.retention ∧ s.countOverlap.freeUsed = s.freeUsed ∧
    s.countOverlap.pending = s.pending := by
  unfold State.countOverlap; simp

@[simp] theorem State.countUnexpected_frame (s : State) :
    s.countUnexpected.powered = s.powered ∧ s.countUnexpected.now = s.now ∧ s.countUnexpected.pins = s.pins ∧
    s.countUnexpected.tables = s.tables ∧ s.countUnexpected.session = s.session ∧
    s.countUnexpected.safety = s.safety ∧ s.countUnexpected.meters = s.meters ∧
    s.countUnexpected.volumes = s.volumes ∧ s.countUnexpected.arms = s.arms ∧
    s.countUnexpected.additive = s.additive ∧ s.countUnexpected.custody = s.custody ∧
    s.countUnexpected.uport = s.uport ∧ s.countUnexpected.retention = s.retention ∧
    s.countUnexpected.freeUsed = s.freeUsed ∧ s.countUnexpected.pending = s.pending := by
  unfold State.countUnexpected; simp

@[simp] theorem State.pushRelayUp_frame (s : State) (a : RelayPlace) :
    (s.pushRelayUp a).powered = s.powered ∧ (s.pushRelayUp a).now = s.now ∧ (s.pushRelayUp a).pins = s.pins ∧
    (s.pushRelayUp a).tables = s.tables ∧ (s.pushRelayUp a).session = s.session ∧
    (s.pushRelayUp a).safety = s.safety ∧ (s.pushRelayUp a).meters = s.meters ∧
    (s.pushRelayUp a).volumes = s.volumes ∧ (s.pushRelayUp a).arms = s.arms ∧
    (s.pushRelayUp a).additive = s.additive ∧ (s.pushRelayUp a).custody = s.custody ∧
    (s.pushRelayUp a).uport.address = s.uport.address ∧ (s.pushRelayUp a).dport = s.dport ∧
    (s.pushRelayUp a).retention = s.retention ∧ (s.pushRelayUp a).freeUsed = s.freeUsed ∧
    (s.pushRelayUp a).pending = s.pending := by
  unfold State.pushRelayUp; simp

@[simp] theorem State.forwardCopy_frame (s : State) (a : Byte) (b : Role) (c : List Byte) :
    (s.forwardCopy a b c).powered = s.powered ∧ (s.forwardCopy a b c).now = s.now ∧
    (s.forwardCopy a b c).pins = s.pins ∧ (s.forwardCopy a b c).tables = s.tables ∧
    (s.forwardCopy a b c).session = s.session ∧ (s.forwardCopy a b c).safety = s.safety ∧
    (s.forwardCopy a b c).meters = s.meters ∧ (s.forwardCopy a b c).volumes = s.volumes ∧
    (s.forwardCopy a b c).arms = s.arms ∧ (s.forwardCopy a b c).additive = s.additive ∧
    (s.forwardCopy a b c).custody = s.custody ∧ (s.forwardCopy a b c).uport.address = s.uport.address ∧
    (s.forwardCopy a b c).retention = s.retention ∧ (s.forwardCopy a b c).freeUsed = s.freeUsed ∧
    (s.forwardCopy a b c).pending = s.pending := by
  unfold State.forwardCopy; simp only []; (repeat' split) <;> simp

@[simp] theorem State.stationResponded_frame (s : State) (a : Fin 12) :
    (s.stationResponded a).powered = s.powered ∧ (s.stationResponded a).now = s.now ∧
    (s.stationResponded a).pins = s.pins ∧ (s.stationResponded a).tables = s.tables ∧
    (s.stationResponded a).session = s.session ∧ (s.stationResponded a).safety = s.safety ∧
    (s.stationResponded a).meters = s.meters ∧ (s.stationResponded a).volumes = s.volumes ∧
    (s.stationResponded a).arms = s.arms ∧ (s.stationResponded a).additive = s.additive ∧
    (s.stationResponded a).custody = s.custody ∧ (s.stationResponded a).uport.address = s.uport.address ∧
    (s.stationResponded a).retention = s.retention ∧ (s.stationResponded a).freeUsed = s.freeUsed ∧
    (s.stationResponded a).pending = s.pending := by
  unfold State.stationResponded; simp only []; (repeat' split) <;> simp

@[simp] theorem State.dropVerdicts_frame (s : State) (a : Fin 12) :
    (s.dropVerdicts a).powered = s.powered ∧ (s.dropVerdicts a).now = s.now ∧ (s.dropVerdicts a).pins = s.pins ∧
    (s.dropVerdicts a).tables = s.tables ∧ (s.dropVerdicts a).session = s.session ∧
    (s.dropVerdicts a).safety = s.safety ∧ (s.dropVerdicts a).meters = s.meters ∧
    (s.dropVerdicts a).volumes = s.volumes ∧ (s.dropVerdicts a).arms = s.arms ∧
    (s.dropVerdicts a).additive = s.additive ∧ (s.dropVerdicts a).custody = s.custody ∧
    (s.dropVerdicts a).uport = s.uport ∧ (s.dropVerdicts a).retention = s.retention ∧
    (s.dropVerdicts a).freeUsed = s.freeUsed ∧ (s.dropVerdicts a).pending = s.pending := by
  unfold State.dropVerdicts; simp

@[simp] theorem State.dropCandidate_frame (s : State) (a : Option Role) :
    (s.dropCandidate a).powered = s.powered ∧ (s.dropCandidate a).now = s.now ∧ (s.dropCandidate a).pins = s.pins ∧
    (s.dropCandidate a).tables = s.tables ∧ (s.dropCandidate a).session.quotaDay = s.session.quotaDay ∧
    (s.dropCandidate a).session.record = s.session.record ∧ (s.dropCandidate a).safety = s.safety ∧
    (s.dropCandidate a).meters = s.meters ∧ (s.dropCandidate a).volumes = s.volumes ∧
    (s.dropCandidate a).arms = s.arms ∧ (s.dropCandidate a).additive = s.additive ∧
    (s.dropCandidate a).custody = s.custody ∧ (s.dropCandidate a).uport = s.uport ∧
    (s.dropCandidate a).dport = s.dport ∧ (s.dropCandidate a).retention = s.retention ∧
    (s.dropCandidate a).freeUsed = s.freeUsed ∧ (s.dropCandidate a).pending = s.pending := by
  unfold State.dropCandidate; simp only []; (repeat' split) <;> simp

@[simp] theorem State.goOffline_frame (s : State) (a : Fin 12) :
    (s.goOffline a).powered = s.powered ∧ (s.goOffline a).now = s.now ∧ (s.goOffline a).pins = s.pins ∧
    (s.goOffline a).session.quotaDay = s.session.quotaDay ∧ (s.goOffline a).safety.inputs = s.safety.inputs ∧
    (s.goOffline a).meters = s.meters ∧ (s.goOffline a).volumes = s.volumes ∧
    (s.goOffline a).custody.gross = s.custody.gross ∧ (s.goOffline a).uport.address = s.uport.address ∧
    (s.goOffline a).retention = s.retention ∧ (s.goOffline a).freeUsed = s.freeUsed ∧
    (s.goOffline a).pending = s.pending := by
  unfold State.goOffline; simp only []; (repeat' split) <;> simp

@[simp] theorem State.stationMissed_frame (s : State) (a : Fin 12) :
    (s.stationMissed a).powered = s.powered ∧ (s.stationMissed a).now = s.now ∧ (s.stationMissed a).pins = s.pins ∧
    (s.stationMissed a).session.quotaDay = s.session.quotaDay ∧ (s.stationMissed a).safety.inputs = s.safety.inputs ∧
    (s.stationMissed a).meters = s.meters ∧ (s.stationMissed a).volumes = s.volumes ∧
    (s.stationMissed a).custody.gross = s.custody.gross ∧ (s.stationMissed a).uport.address = s.uport.address ∧
    (s.stationMissed a).retention = s.retention ∧ (s.stationMissed a).freeUsed = s.freeUsed ∧
    (s.stationMissed a).pending = s.pending := by
  unfold State.stationMissed; simp only []; (repeat' split) <;> simp

@[simp] theorem State.advance_frame (s : State) :
    s.advance.powered = s.powered ∧ s.advance.now = s.now ∧ s.advance.pins = s.pins ∧ s.advance.tables = s.tables ∧
    s.advance.session = s.session ∧ s.advance.safety = s.safety ∧ s.advance.meters = s.meters ∧
    s.advance.volumes = s.volumes ∧ s.advance.arms = s.arms ∧ s.advance.additive = s.additive ∧
    s.advance.custody = s.custody ∧ s.advance.uport = s.uport ∧ s.advance.retention = s.retention ∧
    s.advance.freeUsed = s.freeUsed ∧ s.advance.pending = s.pending := by
  unfold State.advance; simp only []; (repeat' split) <;> simp

@[simp] theorem State.settleCursor_frame (s : State) :
    s.settleCursor.powered = s.powered ∧ s.settleCursor.now = s.now ∧ s.settleCursor.pins = s.pins ∧
    s.settleCursor.tables = s.tables ∧ s.settleCursor.session = s.session ∧ s.settleCursor.safety = s.safety ∧
    s.settleCursor.meters = s.meters ∧ s.settleCursor.volumes = s.volumes ∧ s.settleCursor.arms = s.arms ∧
    s.settleCursor.additive = s.additive ∧ s.settleCursor.custody = s.custody ∧ s.settleCursor.uport = s.uport ∧
    s.settleCursor.retention = s.retention ∧ s.settleCursor.freeUsed = s.freeUsed ∧
    s.settleCursor.pending = s.pending := by
  unfold State.settleCursor; simp only []; (repeat' split) <;> simp

/-- R168: without a station in the round there is no station whose turn it is, and the cursor and the round stay. -/
theorem State.settleCursor_of_no_station (s : State) (h : s.firstStation s.dport.round = none) : s.settleCursor = s := by
  simp [State.settleCursor, h]

@[simp] theorem State.beginTurn_frame (s : State) (a : TurnKind) (b : Byte) (c : List Byte) :
    (s.beginTurn a b c).powered = s.powered ∧ (s.beginTurn a b c).now = s.now ∧ (s.beginTurn a b c).pins = s.pins ∧
    (s.beginTurn a b c).tables = s.tables ∧ (s.beginTurn a b c).session = s.session ∧
    (s.beginTurn a b c).safety = s.safety ∧ (s.beginTurn a b c).meters = s.meters ∧
    (s.beginTurn a b c).volumes = s.volumes ∧ (s.beginTurn a b c).arms = s.arms ∧
    (s.beginTurn a b c).additive = s.additive ∧ (s.beginTurn a b c).custody = s.custody ∧
    (s.beginTurn a b c).uport = s.uport ∧ (s.beginTurn a b c).retention = s.retention ∧
    (s.beginTurn a b c).pending = s.pending := by
  unfold State.beginTurn; simp

@[simp] theorem State.verdictTurn_frame (s : State) (a : Fin 12) :
    (s.verdictTurn a).powered = s.powered ∧ (s.verdictTurn a).now = s.now ∧ (s.verdictTurn a).pins = s.pins ∧
    (s.verdictTurn a).tables = s.tables ∧ (s.verdictTurn a).session = s.session ∧
    (s.verdictTurn a).safety = s.safety ∧ (s.verdictTurn a).meters = s.meters ∧
    (s.verdictTurn a).volumes = s.volumes ∧ (s.verdictTurn a).arms = s.arms ∧
    (s.verdictTurn a).additive = s.additive ∧ (s.verdictTurn a).custody = s.custody ∧
    (s.verdictTurn a).uport = s.uport ∧ (s.verdictTurn a).retention = s.retention ∧
    (s.verdictTurn a).pending = s.pending := by
  unfold State.verdictTurn; simp

@[simp] theorem State.passRelay_frame (s : State) (a : Relay) (b : RelayOutcome) :
    (s.passRelay a b).powered = s.powered ∧ (s.passRelay a b).now = s.now ∧ (s.passRelay a b).pins = s.pins ∧
    (s.passRelay a b).tables = s.tables ∧ (s.passRelay a b).session = s.session ∧
    (s.passRelay a b).safety = s.safety ∧ (s.passRelay a b).meters = s.meters ∧
    (s.passRelay a b).volumes = s.volumes ∧ (s.passRelay a b).arms = s.arms ∧
    (s.passRelay a b).additive = s.additive ∧ (s.passRelay a b).custody = s.custody ∧
    (s.passRelay a b).uport.address = s.uport.address ∧ (s.passRelay a b).retention = s.retention ∧
    (s.passRelay a b).freeUsed = s.freeUsed ∧ (s.passRelay a b).pending = s.pending := by
  unfold State.passRelay; simp

@[simp] theorem State.handleRelay_frame (s : State) :
    s.handleRelay.powered = s.powered ∧ s.handleRelay.now = s.now ∧ s.handleRelay.pins = s.pins ∧
    s.handleRelay.tables = s.tables ∧ s.handleRelay.session = s.session ∧ s.handleRelay.safety = s.safety ∧
    s.handleRelay.meters = s.meters ∧ s.handleRelay.volumes = s.volumes ∧ s.handleRelay.arms = s.arms ∧
    s.handleRelay.additive = s.additive ∧ s.handleRelay.custody = s.custody ∧
    s.handleRelay.uport.address = s.uport.address ∧ s.handleRelay.retention = s.retention ∧
    s.handleRelay.pending = s.pending := by
  unfold State.handleRelay; simp only []; (repeat' split) <;> simp

@[simp] theorem State.relayOutcome_frame (s : State) (a : RelayOutcome) (b : List Byte) :
    (s.relayOutcome a b).powered = s.powered ∧ (s.relayOutcome a b).now = s.now ∧ (s.relayOutcome a b).pins = s.pins ∧
    (s.relayOutcome a b).tables = s.tables ∧ (s.relayOutcome a b).session = s.session ∧
    (s.relayOutcome a b).safety = s.safety ∧ (s.relayOutcome a b).meters = s.meters ∧
    (s.relayOutcome a b).volumes = s.volumes ∧ (s.relayOutcome a b).arms = s.arms ∧
    (s.relayOutcome a b).additive = s.additive ∧ (s.relayOutcome a b).custody = s.custody ∧
    (s.relayOutcome a b).uport.address = s.uport.address ∧ (s.relayOutcome a b).dport = s.dport ∧
    (s.relayOutcome a b).retention = s.retention ∧ (s.relayOutcome a b).freeUsed = s.freeUsed ∧
    (s.relayOutcome a b).pending = s.pending := by
  unfold State.relayOutcome; simp

@[simp] theorem State.clearTurn_frame (s : State) :
    s.clearTurn.powered = s.powered ∧ s.clearTurn.now = s.now ∧ s.clearTurn.pins = s.pins ∧
    s.clearTurn.tables = s.tables ∧ s.clearTurn.session = s.session ∧ s.clearTurn.safety = s.safety ∧
    s.clearTurn.meters = s.meters ∧ s.clearTurn.volumes = s.volumes ∧ s.clearTurn.arms = s.arms ∧
    s.clearTurn.additive = s.additive ∧ s.clearTurn.custody = s.custody ∧ s.clearTurn.uport = s.uport ∧
    s.clearTurn.retention = s.retention ∧ s.clearTurn.freeUsed = s.freeUsed ∧ s.clearTurn.pending = s.pending := by
  unfold State.clearTurn; simp

@[simp] theorem State.dropCarried_frame (s : State) (a : Fin 12) :
    (s.dropCarried a).powered = s.powered ∧ (s.dropCarried a).now = s.now ∧ (s.dropCarried a).pins = s.pins ∧
    (s.dropCarried a).tables = s.tables ∧ (s.dropCarried a).session = s.session ∧
    (s.dropCarried a).safety = s.safety ∧ (s.dropCarried a).meters = s.meters ∧
    (s.dropCarried a).volumes = s.volumes ∧ (s.dropCarried a).arms = s.arms ∧
    (s.dropCarried a).additive = s.additive ∧ (s.dropCarried a).custody = s.custody ∧
    (s.dropCarried a).uport = s.uport ∧ (s.dropCarried a).retention = s.retention ∧
    (s.dropCarried a).freeUsed = s.freeUsed ∧ (s.dropCarried a).pending = s.pending := by
  unfold State.dropCarried; simp

@[simp] theorem State.turnAnswered_frame (s : State) (a : Turn) (b : List Byte) :
    (s.turnAnswered a b).powered = s.powered ∧ (s.turnAnswered a b).now = s.now ∧ (s.turnAnswered a b).pins = s.pins ∧
    (s.turnAnswered a b).tables = s.tables ∧ (s.turnAnswered a b).session = s.session ∧
    (s.turnAnswered a b).safety = s.safety ∧ (s.turnAnswered a b).meters = s.meters ∧
    (s.turnAnswered a b).volumes = s.volumes ∧ (s.turnAnswered a b).arms = s.arms ∧
    (s.turnAnswered a b).additive = s.additive ∧ (s.turnAnswered a b).custody = s.custody ∧
    (s.turnAnswered a b).uport.address = s.uport.address ∧ (s.turnAnswered a b).retention = s.retention ∧
    (s.turnAnswered a b).freeUsed = s.freeUsed ∧ (s.turnAnswered a b).pending = s.pending := by
  unfold State.turnAnswered; simp only []; (repeat' split) <;> simp

@[simp] theorem State.turnMissed_frame (s : State) (a : Turn) :
    (s.turnMissed a).powered = s.powered ∧ (s.turnMissed a).now = s.now ∧ (s.turnMissed a).pins = s.pins ∧
    (s.turnMissed a).session.quotaDay = s.session.quotaDay ∧ (s.turnMissed a).safety.inputs = s.safety.inputs ∧
    (s.turnMissed a).meters = s.meters ∧ (s.turnMissed a).volumes = s.volumes ∧
    (s.turnMissed a).custody.gross = s.custody.gross ∧ (s.turnMissed a).uport.address = s.uport.address ∧
    (s.turnMissed a).retention = s.retention ∧ (s.turnMissed a).freeUsed = s.freeUsed ∧
    (s.turnMissed a).pending = s.pending := by
  unfold State.turnMissed; simp only []; (repeat' split) <;> simp

@[simp] theorem State.endOverdue_frame (s : State) :
    s.endOverdue.powered = s.powered ∧ s.endOverdue.now = s.now ∧ s.endOverdue.pins = s.pins ∧
    s.endOverdue.session.quotaDay = s.session.quotaDay ∧ s.endOverdue.safety.inputs = s.safety.inputs ∧
    s.endOverdue.meters = s.meters ∧ s.endOverdue.volumes = s.volumes ∧ s.endOverdue.custody.gross = s.custody.gross ∧
    s.endOverdue.uport.address = s.uport.address ∧ s.endOverdue.retention = s.retention ∧
    s.endOverdue.freeUsed = s.freeUsed ∧ s.endOverdue.pending = s.pending := by
  unfold State.endOverdue; try dsimp only
  refine ⟨?_, ?_, ?_, ?_, ?_, ?_, ?_, ?_, ?_, ?_, ?_, ?_⟩ <;> (repeat' split) <;>
    first | rfl | simp

@[simp] theorem State.unexpectedFrame_frame (s : State) :
    s.unexpectedFrame.powered = s.powered ∧ s.unexpectedFrame.now = s.now ∧ s.unexpectedFrame.pins = s.pins ∧
    s.unexpectedFrame.session.quotaDay = s.session.quotaDay ∧ s.unexpectedFrame.safety.inputs = s.safety.inputs ∧
    s.unexpectedFrame.meters = s.meters ∧ s.unexpectedFrame.volumes = s.volumes ∧
    s.unexpectedFrame.custody.gross = s.custody.gross ∧ s.unexpectedFrame.uport.address = s.uport.address ∧
    s.unexpectedFrame.retention = s.retention ∧ s.unexpectedFrame.freeUsed = s.freeUsed ∧
    s.unexpectedFrame.pending = s.pending := by
  unfold State.unexpectedFrame; simp only []; (repeat' split) <;> simp

@[simp] theorem State.present_frame (s : State) (a : ℕ) (b : ℕ) (c : ℕ) :
    (s.present a b c).powered = s.powered ∧ (s.present a b c).now = s.now ∧ (s.present a b c).pins = s.pins ∧
    (s.present a b c).tables = s.tables ∧ (s.present a b c).session.quotaDay = s.session.quotaDay ∧
    (s.present a b c).session.record = s.session.record ∧ (s.present a b c).safety = s.safety ∧
    (s.present a b c).meters = s.meters ∧ (s.present a b c).volumes = s.volumes ∧ (s.present a b c).arms = s.arms ∧
    (s.present a b c).additive = s.additive ∧ (s.present a b c).custody = s.custody ∧
    (s.present a b c).uport.address = s.uport.address ∧ (s.present a b c).dport = s.dport ∧
    (s.present a b c).retention = s.retention ∧ (s.present a b c).freeUsed = s.freeUsed ∧
    (s.present a b c).pending = s.pending := by
  unfold State.present; simp

@[simp] theorem State.unpresent_frame (s : State) :
    s.unpresent.powered = s.powered ∧ s.unpresent.now = s.now ∧ s.unpresent.pins = s.pins ∧
    s.unpresent.tables = s.tables ∧ s.unpresent.session.quotaDay = s.session.quotaDay ∧
    s.unpresent.session.record = s.session.record ∧ s.unpresent.safety = s.safety ∧ s.unpresent.meters = s.meters ∧
    s.unpresent.volumes = s.volumes ∧ s.unpresent.arms = s.arms ∧ s.unpresent.additive = s.additive ∧
    s.unpresent.custody = s.custody ∧ s.unpresent.uport = s.uport ∧ s.unpresent.dport = s.dport ∧
    s.unpresent.retention = s.retention ∧ s.unpresent.freeUsed = s.freeUsed ∧ s.unpresent.pending = s.pending := by
  unfold State.unpresent; simp

@[simp] theorem State.authorise_frame (s : State) (a : ℕ) (b : BitVec 16) (c : ℕ) :
    (s.authorise a b c).1.powered = s.powered ∧ (s.authorise a b c).1.now = s.now ∧
    (s.authorise a b c).1.pins = s.pins ∧ (s.authorise a b c).1.session.quotaDay = s.session.quotaDay ∧
    (s.authorise a b c).1.safety = s.safety ∧ (s.authorise a b c).1.meters = s.meters ∧
    (s.authorise a b c).1.volumes = s.volumes ∧ (s.authorise a b c).1.arms = s.arms ∧
    (s.authorise a b c).1.additive = s.additive ∧ (s.authorise a b c).1.custody.counter = s.custody.counter ∧
    (s.authorise a b c).1.custody.gross = s.custody.gross ∧ (s.authorise a b c).1.uport.address = s.uport.address ∧
    (s.authorise a b c).1.retention = s.retention ∧ (s.authorise a b c).1.freeUsed = s.freeUsed ∧
    (s.authorise a b c).1.pending = s.pending := by
  unfold State.authorise; simp only []; (repeat' split) <;> simp

@[simp] theorem State.suspendFlowing_frame (s : State) (a : SuspendCause) :
    (s.suspendFlowing a).powered = s.powered ∧ (s.suspendFlowing a).now = s.now ∧ (s.suspendFlowing a).pins = s.pins ∧
    (s.suspendFlowing a).tables = s.tables ∧ (s.suspendFlowing a).session.quotaDay = s.session.quotaDay ∧
    (s.suspendFlowing a).session.record = s.session.record ∧ (s.suspendFlowing a).safety.inputs = s.safety.inputs ∧
    (s.suspendFlowing a).safety.faults = s.safety.faults ∧ (s.suspendFlowing a).meters = s.meters ∧
    (s.suspendFlowing a).volumes = s.volumes ∧ (s.suspendFlowing a).additive = s.additive ∧
    (s.suspendFlowing a).custody = s.custody ∧ (s.suspendFlowing a).uport.address = s.uport.address ∧
    (s.suspendFlowing a).dport = s.dport ∧ (s.suspendFlowing a).retention = s.retention ∧
    (s.suspendFlowing a).freeUsed = s.freeUsed ∧ (s.suspendFlowing a).pending = s.pending := by
  simp [State.suspendFlowing, armIxs]

@[simp] theorem State.confirmTag_frame (s : State) (a : ℕ) :
    (s.confirmTag a).powered = s.powered ∧ (s.confirmTag a).now = s.now ∧ (s.confirmTag a).pins = s.pins ∧
    (s.confirmTag a).tables = s.tables ∧ (s.confirmTag a).session.quotaDay = s.session.quotaDay ∧
    (s.confirmTag a).session.record = s.session.record ∧ (s.confirmTag a).safety.inputs = s.safety.inputs ∧
    (s.confirmTag a).safety.faults = s.safety.faults ∧ (s.confirmTag a).meters = s.meters ∧
    (s.confirmTag a).volumes = s.volumes ∧ (s.confirmTag a).additive = s.additive ∧
    (s.confirmTag a).custody = s.custody ∧ (s.confirmTag a).uport.address = s.uport.address ∧
    (s.confirmTag a).dport = s.dport ∧ (s.confirmTag a).retention = s.retention ∧
    (s.confirmTag a).freeUsed = s.freeUsed ∧ (s.confirmTag a).pending = s.pending := by
  unfold State.confirmTag; simp only []; (repeat' split) <;> simp

@[simp] theorem State.takeTag_frame (s : State) (a : ℕ) :
    (s.takeTag a).powered = s.powered ∧ (s.takeTag a).now = s.now ∧ (s.takeTag a).pins = s.pins ∧
    (s.takeTag a).tables = s.tables ∧ (s.takeTag a).session.quotaDay = s.session.quotaDay ∧
    (s.takeTag a).session.record = s.session.record ∧ (s.takeTag a).safety.inputs = s.safety.inputs ∧
    (s.takeTag a).safety.faults = s.safety.faults ∧ (s.takeTag a).meters = s.meters ∧
    (s.takeTag a).volumes = s.volumes ∧ (s.takeTag a).additive = s.additive ∧ (s.takeTag a).custody = s.custody ∧
    (s.takeTag a).uport.address = s.uport.address ∧ (s.takeTag a).dport = s.dport ∧
    (s.takeTag a).retention = s.retention ∧ (s.takeTag a).freeUsed = s.freeUsed ∧
    (s.takeTag a).pending = s.pending := by
  unfold State.takeTag; simp only []; (repeat' split) <;> simp

@[simp] theorem State.acceptFall_frame (s : State) (a : SafetyInput) :
    (s.acceptFall a).powered = s.powered ∧ (s.acceptFall a).now = s.now ∧ (s.acceptFall a).pins = s.pins ∧
    (s.acceptFall a).tables = s.tables ∧ (s.acceptFall a).session = s.session ∧
    (s.acceptFall a).safety.faults = s.safety.faults ∧ (s.acceptFall a).meters = s.meters ∧
    (s.acceptFall a).volumes = s.volumes ∧ (s.acceptFall a).arms = s.arms ∧ (s.acceptFall a).additive = s.additive ∧
    (s.acceptFall a).custody = s.custody ∧ (s.acceptFall a).uport.address = s.uport.address ∧
    (s.acceptFall a).dport = s.dport ∧ (s.acceptFall a).retention = s.retention ∧
    (s.acceptFall a).freeUsed = s.freeUsed ∧ (s.acceptFall a).pending = s.pending := by
  unfold State.acceptFall; simp only []; (repeat' split) <;> simp

@[simp] theorem State.estopArm_frame (s : State) (a : Fin 4) :
    (s.estopArm a).powered = s.powered ∧ (s.estopArm a).now = s.now ∧ (s.estopArm a).pins = s.pins ∧
    (s.estopArm a).tables = s.tables ∧ (s.estopArm a).session.quotaDay = s.session.quotaDay ∧
    (s.estopArm a).session.record = s.session.record ∧ (s.estopArm a).safety.inputs = s.safety.inputs ∧
    (s.estopArm a).safety.faults = s.safety.faults ∧ (s.estopArm a).meters = s.meters ∧
    (s.estopArm a).volumes = s.volumes ∧ (s.estopArm a).additive = s.additive ∧ (s.estopArm a).custody = s.custody ∧
    (s.estopArm a).uport = s.uport ∧ (s.estopArm a).dport = s.dport ∧ (s.estopArm a).retention = s.retention ∧
    (s.estopArm a).freeUsed = s.freeUsed ∧ (s.estopArm a).pending = s.pending := by
  unfold State.estopArm; try dsimp only
  refine ⟨?_, ?_, ?_, ?_, ?_, ?_, ?_, ?_, ?_, ?_, ?_, ?_, ?_, ?_, ?_, ?_, ?_⟩ <;> (repeat' split) <;>
    first | rfl | simp

@[simp] theorem State.estopEffect_frame (s : State) :
    s.estopEffect.powered = s.powered ∧ s.estopEffect.now = s.now ∧ s.estopEffect.pins = s.pins ∧
    s.estopEffect.session.quotaDay = s.session.quotaDay ∧ s.estopEffect.safety.inputs = s.safety.inputs ∧
    s.estopEffect.meters = s.meters ∧ s.estopEffect.volumes = s.volumes ∧
    s.estopEffect.custody.gross = s.custody.gross ∧ s.estopEffect.uport.address = s.uport.address ∧
    s.estopEffect.retention = s.retention ∧ s.estopEffect.freeUsed = s.freeUsed ∧
    s.estopEffect.pending = s.pending := by
  simp [State.estopEffect, armIxs]

@[simp] theorem State.press_frame (s : State) :
    s.press.powered = s.powered ∧ s.press.now = s.now ∧ s.press.pins = s.pins ∧ s.press.tables = s.tables ∧
    s.press.session = s.session ∧ s.press.safety.inputs = s.safety.inputs ∧ s.press.safety.faults = s.safety.faults ∧
    s.press.meters = s.meters ∧ s.press.volumes = s.volumes ∧ s.press.arms = s.arms ∧ s.press.additive = s.additive ∧
    s.press.custody = s.custody ∧ s.press.uport = s.uport ∧ s.press.dport = s.dport ∧
    s.press.retention = s.retention ∧ s.press.freeUsed = s.freeUsed ∧ s.press.pending = s.pending := by
  unfold State.press; simp only []; (repeat' split) <;> simp

@[simp] theorem State.debounced_frame (s : State) (a : SafetyInput) :
    (s.debounced a).powered = s.powered ∧ (s.debounced a).now = s.now ∧ (s.debounced a).pins = s.pins ∧
    (s.debounced a).tables = s.tables ∧ (s.debounced a).session = s.session ∧
    (s.debounced a).safety.faults = s.safety.faults ∧ (s.debounced a).meters = s.meters ∧
    (s.debounced a).volumes = s.volumes ∧ (s.debounced a).arms = s.arms ∧ (s.debounced a).additive = s.additive ∧
    (s.debounced a).custody = s.custody ∧ (s.debounced a).uport.address = s.uport.address ∧
    (s.debounced a).dport = s.dport ∧ (s.debounced a).retention = s.retention ∧
    (s.debounced a).freeUsed = s.freeUsed ∧ (s.debounced a).pending = s.pending := by
  unfold State.debounced; simp only []; (repeat' split) <;> simp

@[simp] theorem State.seenHigh_frame (s : State) (a : SafetyInput) :
    (s.seenHigh a).powered = s.powered ∧ (s.seenHigh a).now = s.now ∧ (s.seenHigh a).pins = s.pins ∧
    (s.seenHigh a).tables = s.tables ∧ (s.seenHigh a).session = s.session ∧
    (s.seenHigh a).safety.faults = s.safety.faults ∧ (s.seenHigh a).meters = s.meters ∧
    (s.seenHigh a).volumes = s.volumes ∧ (s.seenHigh a).arms = s.arms ∧ (s.seenHigh a).additive = s.additive ∧
    (s.seenHigh a).custody = s.custody ∧ (s.seenHigh a).uport = s.uport ∧ (s.seenHigh a).dport = s.dport ∧
    (s.seenHigh a).retention = s.retention ∧ (s.seenHigh a).freeUsed = s.freeUsed ∧
    (s.seenHigh a).pending = s.pending := by
  unfold State.seenHigh; simp only []; (repeat' split) <;> simp

@[simp] theorem State.deadmanOut_frame (s : State) :
    s.deadmanOut.powered = s.powered ∧ s.deadmanOut.now = s.now ∧ s.deadmanOut.pins = s.pins ∧
    s.deadmanOut.tables = s.tables ∧ s.deadmanOut.session.quotaDay = s.session.quotaDay ∧
    s.deadmanOut.session.record = s.session.record ∧ s.deadmanOut.safety.inputs = s.safety.inputs ∧
    s.deadmanOut.safety.faults = s.safety.faults ∧ s.deadmanOut.meters = s.meters ∧ s.deadmanOut.volumes = s.volumes ∧
    s.deadmanOut.additive = s.additive ∧ s.deadmanOut.custody = s.custody ∧
    s.deadmanOut.uport.address = s.uport.address ∧ s.deadmanOut.dport = s.dport ∧
    s.deadmanOut.retention = s.retention ∧ s.deadmanOut.freeUsed = s.freeUsed ∧ s.deadmanOut.pending = s.pending := by
  unfold State.deadmanOut; simp

@[simp] theorem State.countCorrection_frame (s : State) :
    s.countCorrection.powered = s.powered ∧ s.countCorrection.now = s.now ∧ s.countCorrection.pins = s.pins ∧
    s.countCorrection.tables = s.tables ∧ s.countCorrection.session = s.session ∧
    s.countCorrection.safety = s.safety ∧ s.countCorrection.meters = s.meters ∧
    s.countCorrection.volumes = s.volumes ∧ s.countCorrection.arms = s.arms ∧
    s.countCorrection.additive = s.additive ∧ s.countCorrection.custody = s.custody ∧
    s.countCorrection.uport = s.uport ∧ s.countCorrection.dport = s.dport ∧ s.countCorrection.freeUsed = s.freeUsed ∧
    s.countCorrection.pending = s.pending := by
  unfold State.countCorrection; simp only []; (repeat' split) <;> simp

@[simp] theorem State.raiseRetention_frame (s : State) (a : Bool) (b : RetItem) :
    (s.raiseRetention a b).powered = s.powered ∧ (s.raiseRetention a b).now = s.now ∧
    (s.raiseRetention a b).pins = s.pins ∧ (s.raiseRetention a b).session.quotaDay = s.session.quotaDay ∧
    (s.raiseRetention a b).safety.inputs = s.safety.inputs ∧ (s.raiseRetention a b).meters = s.meters ∧
    (s.raiseRetention a b).volumes = s.volumes ∧ (s.raiseRetention a b).custody.gross = s.custody.gross ∧
    (s.raiseRetention a b).uport.address = s.uport.address ∧ (s.raiseRetention a b).retention = s.retention ∧
    (s.raiseRetention a b).freeUsed = s.freeUsed ∧ (s.raiseRetention a b).pending = s.pending := by
  unfold State.raiseRetention; simp only []; (repeat' split) <;> simp

@[simp] theorem State.clearHistories_frame (s : State) :
    s.clearHistories.powered = s.powered ∧ s.clearHistories.now = s.now ∧ s.clearHistories.pins = s.pins ∧
    s.clearHistories.tables = s.tables ∧ s.clearHistories.session = s.session ∧ s.clearHistories.safety = s.safety ∧
    s.clearHistories.meters = s.meters ∧ s.clearHistories.volumes = s.volumes ∧
    s.clearHistories.additive = s.additive ∧ s.clearHistories.custody = s.custody ∧ s.clearHistories.uport = s.uport ∧
    s.clearHistories.dport = s.dport ∧ s.clearHistories.retention = s.retention ∧
    s.clearHistories.freeUsed = s.freeUsed ∧ s.clearHistories.pending = s.pending := by
  unfold State.clearHistories; simp

@[simp] theorem State.damageEntry_frame (s : State) (a : Bool) (b : TableId) (c : ℕ) :
    (s.damageEntry a b c).powered = s.powered ∧ (s.damageEntry a b c).now = s.now ∧
    (s.damageEntry a b c).pins = s.pins ∧ (s.damageEntry a b c).session.quotaDay = s.session.quotaDay ∧
    (s.damageEntry a b c).safety.inputs = s.safety.inputs ∧ (s.damageEntry a b c).meters = s.meters ∧
    (s.damageEntry a b c).volumes = s.volumes ∧ (s.damageEntry a b c).custody.gross = s.custody.gross ∧
    (s.damageEntry a b c).uport.address = s.uport.address ∧ (s.damageEntry a b c).retention = s.retention ∧
    (s.damageEntry a b c).freeUsed = s.freeUsed ∧ (s.damageEntry a b c).pending = s.pending := by
  unfold State.damageEntry; simp only []; (repeat' split) <;> simp

@[simp] theorem State.rewriteSession_frame (s : State) (a : SessionImage) :
    (s.rewriteSession a).powered = s.powered ∧ (s.rewriteSession a).now = s.now ∧ (s.rewriteSession a).pins = s.pins ∧
    (s.rewriteSession a).tables = s.tables ∧ (s.rewriteSession a).session.quotaDay = s.session.quotaDay ∧
    (s.rewriteSession a).safety = s.safety ∧ (s.rewriteSession a).meters = s.meters ∧
    (s.rewriteSession a).volumes = s.volumes ∧ (s.rewriteSession a).additive = s.additive ∧
    (s.rewriteSession a).custody = s.custody ∧ (s.rewriteSession a).uport = s.uport ∧
    (s.rewriteSession a).dport = s.dport ∧ (s.rewriteSession a).retention = s.retention ∧
    (s.rewriteSession a).freeUsed = s.freeUsed ∧ (s.rewriteSession a).pending = s.pending := by
  unfold State.rewriteSession; simp only []; (repeat' split) <;> simp

@[simp] theorem State.rebuildPlaces_frame (s : State) :
    s.rebuildPlaces.powered = s.powered ∧ s.rebuildPlaces.now = s.now ∧ s.rebuildPlaces.pins = s.pins ∧
    s.rebuildPlaces.tables = s.tables ∧ s.rebuildPlaces.session = s.session ∧ s.rebuildPlaces.safety = s.safety ∧
    s.rebuildPlaces.meters = s.meters ∧ s.rebuildPlaces.volumes = s.volumes ∧ s.rebuildPlaces.arms = s.arms ∧
    s.rebuildPlaces.additive = s.additive ∧ s.rebuildPlaces.custody.counter = s.custody.counter ∧
    s.rebuildPlaces.custody.gross = s.custody.gross ∧ s.rebuildPlaces.uport = s.uport ∧
    s.rebuildPlaces.dport = s.dport ∧ s.rebuildPlaces.retention = s.retention ∧
    s.rebuildPlaces.freeUsed = s.freeUsed ∧ s.rebuildPlaces.pending = s.pending := by
  unfold State.rebuildPlaces; simp

@[simp] theorem State.damageTotalizer_frame (s : State) (a : TotalizerId) (b : ℕ) :
    (s.damageTotalizer a b).powered = s.powered ∧ (s.damageTotalizer a b).now = s.now ∧
    (s.damageTotalizer a b).pins = s.pins ∧ (s.damageTotalizer a b).tables = s.tables ∧
    (s.damageTotalizer a b).session = s.session ∧ (s.damageTotalizer a b).safety = s.safety ∧
    (s.damageTotalizer a b).meters = s.meters ∧ (s.damageTotalizer a b).volumes = s.volumes ∧
    (s.damageTotalizer a b).arms = s.arms ∧ (s.damageTotalizer a b).additive = s.additive ∧
    (s.damageTotalizer a b).custody.places = s.custody.places ∧
    (s.damageTotalizer a b).custody.counter = s.custody.counter ∧ (s.damageTotalizer a b).uport = s.uport ∧
    (s.damageTotalizer a b).dport = s.dport ∧ (s.damageTotalizer a b).retention = s.retention ∧
    (s.damageTotalizer a b).freeUsed = s.freeUsed ∧ (s.damageTotalizer a b).pending = s.pending := by
  unfold State.damageTotalizer; simp only []; (repeat' split) <;> simp

@[simp] theorem State.uncorrectable_frame (s : State) (a : Bool) (b : RetItem) :
    (s.uncorrectable a b).powered = s.powered ∧ (s.uncorrectable a b).now = s.now ∧
    (s.uncorrectable a b).pins = s.pins ∧ (s.uncorrectable a b).safety.inputs = s.safety.inputs ∧
    (s.uncorrectable a b).meters = s.meters ∧ (s.uncorrectable a b).volumes = s.volumes ∧
    (s.uncorrectable a b).uport.address = s.uport.address ∧ (s.uncorrectable a b).freeUsed = s.freeUsed ∧
    (s.uncorrectable a b).pending = s.pending := by
  unfold State.uncorrectable; simp only []; (repeat' split) <;> simp

@[simp] theorem State.readWord_frame (a : Bool) (s : State) (b : Finding) :
    (s.readWord a b).powered = s.powered ∧ (s.readWord a b).now = s.now ∧ (s.readWord a b).pins = s.pins ∧
    (s.readWord a b).safety.inputs = s.safety.inputs ∧ (s.readWord a b).meters = s.meters ∧
    (s.readWord a b).volumes = s.volumes ∧ (s.readWord a b).uport.address = s.uport.address ∧
    (s.readWord a b).freeUsed = s.freeUsed ∧ (s.readWord a b).pending = s.pending := by
  unfold State.readWord; try dsimp only
  refine ⟨?_, ?_, ?_, ?_, ?_, ?_, ?_, ?_, ?_⟩ <;> (repeat' split) <;>
    first | rfl | simp

@[simp] theorem State.scrubNext_frame (s : State) :
    s.scrubNext.powered = s.powered ∧ s.scrubNext.now = s.now ∧ s.scrubNext.pins = s.pins ∧
    s.scrubNext.tables = s.tables ∧ s.scrubNext.session = s.session ∧ s.scrubNext.safety = s.safety ∧
    s.scrubNext.meters = s.meters ∧ s.scrubNext.volumes = s.volumes ∧ s.scrubNext.arms = s.arms ∧
    s.scrubNext.additive = s.additive ∧ s.scrubNext.custody = s.custody ∧ s.scrubNext.uport = s.uport ∧
    s.scrubNext.dport = s.dport ∧ s.scrubNext.freeUsed = s.freeUsed ∧ s.scrubNext.pending = s.pending := by
  unfold State.scrubNext; simp only []; (repeat' split) <;> simp

end Sys2Proof.Machine
end

