-- ==== Sys2Proof/Laws/Ops.lean ====
section
/-! SUPPORT. What the shared operations do: the sparse tables, the reads of a part after a write of it, the event queue,
the verdict lists, what retention's reads do, the note places in order, the rollover owed, the begin of a
reply, the poll cursor, the bytes of a figure, the figures of a dose. -/

namespace Sys2Proof.Machine

/-! ### Sparse tables -/

section
variable {α : Type} [DecidableEq α] {empty : α}

theorem tabGet_tabCons (i j : Nat) (x : Slot α) (r : Tab α) (h : j = i → tabGet empty r i = ⟨empty, false⟩) :
    tabGet empty (tabCons empty i x r) j = if j = i then x else tabGet empty r j := by
  unfold tabCons
  split
  · rename_i hx
    split
    · rename_i hj; subst hj; rw [h rfl, hx]
    · rfl
  · simp [tabGet, eq_comm]

omit [DecidableEq α] in
/-- An index below every listed one is unlisted. -/
theorem tabGet_below (i : Nat) (t : Tab α) (h : ∀ p ∈ t, i < p.1) : tabGet empty t i = ⟨empty, false⟩ := by
  induction t with
  | nil => rfl
  | cons p t ih =>
    have hp : ¬p.1 = i := fun e => Nat.lt_irrefl _ (e ▸ h p (by simp))
    simp only [tabGet, hp, if_false]
    exact ih fun q hq => h q (by simp [hq])

theorem tabWf_cons (p : Nat × Slot α) (t : Tab α) :
    tabWf empty (p :: t) = true ↔
      (∀ q ∈ t, p.1 < q.1) ∧ p.2 ≠ ⟨empty, false⟩ ∧ tabWf empty t = true := by
  simp only [tabWf, List.map_cons, List.pairwise_cons, List.all_cons, Bool.and_eq_true, decide_eq_true_eq, bne_iff_ne,
    List.mem_map, ne_eq]
  constructor
  · rintro ⟨⟨h1, h2⟩, h3, h4⟩
    exact ⟨fun q hq => h1 _ ⟨q, hq, rfl⟩, h3, h2, h4⟩
  · rintro ⟨h1, h3, h2, h4⟩
    exact ⟨⟨by rintro _ ⟨q, hq, rfl⟩; exact h1 q hq, h2⟩, h3, h4⟩

/-- Reading a slot after a write: the one written, or the one that stood. -/
theorem tabGet_tabSet (t : Tab α) (h : tabWf empty t = true) (i j : Nat) (x : Slot α) :
    tabGet empty (tabSet empty t i x) j = if j = i then x else tabGet empty t j := by
  induction t with
  | nil => exact tabGet_tabCons i j x [] fun _ => rfl
  | cons p t ih =>
    obtain ⟨k, y⟩ := p
    obtain ⟨hlt, _, ht⟩ := (tabWf_cons _ _).1 h
    simp only [tabSet]
    split
    · rename_i hik
      exact tabGet_tabCons i j x _ fun _ =>
        tabGet_below i _ fun q hq => by
          rcases List.mem_cons.1 hq with rfl | hq
          · exact hik
          · exact Nat.lt_trans hik (hlt q hq)
    · split
      · rename_i hik
        subst hik
        rw [tabGet_tabCons i j x t fun _ => tabGet_below i t hlt]
        by_cases hj : j = i
        · simp [hj]
        · have : ¬i = j := fun e => hj e.symm
          simp [hj, tabGet, this]
      · rename_i h1 h2
        by_cases hk : k = j
        · subst hk
          have : ¬k = i := fun e => h2 e.symm
          simp [tabGet, this]
        · simp [tabGet, hk, ih ht]

theorem tabSet_mem (t : Tab α) (i : Nat) (x : Slot α) (p : Nat × Slot α) (h : p ∈ tabSet empty t i x) :
    p = (i, x) ∨ p ∈ t := by
  induction t with
  | nil =>
    simp only [tabSet, tabCons] at h
    split at h <;> simp_all
  | cons q t ih =>
    obtain ⟨k, y⟩ := q
    simp only [tabSet, tabCons] at h
    split at h
    · split at h <;> simp_all
    · split at h
      · split at h
        · exact .inr (by simp [h])
        · rcases List.mem_cons.1 h with h | h
          · exact .inl h
          · exact .inr (by simp [h])
      · rcases List.mem_cons.1 h with h | h
        · exact .inr (by simp [h])
        · rcases ih h with h | h
          · exact .inl h
          · exact .inr (by simp [h])

/-- A write keeps the canonical form. -/
theorem tabSet_wf (t : Tab α) (h : tabWf empty t = true) (i : Nat) (x : Slot α) :
    tabWf empty (tabSet empty t i x) = true := by
  have one : ∀ r : Tab α, tabWf empty r = true → (∀ q ∈ r, i < q.1) → tabWf empty (tabCons empty i x r) = true := by
    intro r hr hlt
    unfold tabCons
    split
    · exact hr
    · rename_i hx
      exact (tabWf_cons _ _).2 ⟨hlt, hx, hr⟩
  induction t with
  | nil => exact one [] rfl (by simp)
  | cons p t ih =>
    obtain ⟨k, y⟩ := p
    have h' := h
    obtain ⟨hlt, hy, ht⟩ := (tabWf_cons _ _).1 h
    simp only [tabSet]
    split
    · rename_i hik
      refine one _ h' fun q hq => ?_
      rcases List.mem_cons.1 hq with rfl | hq
      · exact hik
      · exact Nat.lt_trans hik (hlt q hq)
    · split
      · rename_i hik
        subst hik
        exact one t ht hlt
      · rename_i h1 h2
        refine (tabWf_cons _ _).2 ⟨fun q hq => ?_, hy, ih ht⟩
        rcases tabSet_mem t i x q hq with rfl | hq
        · exact Nat.lt_of_le_of_ne (Nat.le_of_not_lt h1) fun e => h2 e.symm
        · exact hlt q hq

/-- A sweep over the entries keeps the canonical form. -/
theorem tabMap_wf (f : α → α) (t : Tab α) (h : tabWf empty t = true) : tabWf empty (tabMap empty f t) = true := by
  induction t with
  | nil => rfl
  | cons p t ih =>
    obtain ⟨hlt, hp, ht⟩ := (tabWf_cons _ _).1 h
    have hm : ∀ q ∈ tabMap empty f t, p.1 < q.1 := by
      intro q hq
      simp only [tabMap, List.mem_filter, List.mem_map] at hq
      obtain ⟨⟨a, ha, rfl⟩, -⟩ := hq
      exact hlt a ha
    have := ih ht
    rw [tabMap, List.map_cons, List.filter_cons]
    by_cases hx : (((p.1, if p.2.damaged then p.2 else ⟨f p.2.entry, false⟩) : Nat × Slot α).2 != ⟨empty, false⟩) = true
    · rw [if_pos hx]
      exact (tabWf_cons _ _).2 ⟨hm, by simpa only [bne_iff_ne, ne_eq] using hx, this⟩
    · rw [if_neg hx]
      exact this

end

/-! ### A part read after a write of it -/

section
variable (s : State)

theorem State.arm_setArm (k j : Fin 4) (a : Arm) : (s.setArm k a).arm j = if j = k then a else s.arm j :=
  Vec.get_set _ _ _ _

theorem State.meter_setMeter (k j : Fin 4) (m : Meter) : (s.setMeter k m).meter j = if j = k then m else s.meter j :=
  Vec.get_set _ _ _ _

theorem State.vol_setVol (k j : Fin 4) (v : VolArm) : (s.setVol k v).vol j = if j = k then v else s.vol j :=
  Vec.get_set _ _ _ _

theorem State.inj_setInj (k j : Fin 6) (x : Injector) : (s.setInj k x).inj j = if j = k then x else s.inj j :=
  Vec.get_set _ _ _ _

theorem State.station_setStation (k j : Fin 12) (x : Station) :
    (s.setStation k x).station j = if j = k then x else s.station j :=
  Vec.get_set _ _ _ _

theorem State.input_setInput (i j : SafetyInput) (x : Input) :
    (s.setInput i x).input j = if j = i then x else s.input j := by
  refine (Vec.get_set _ _ _ _).trans ?_
  cases i <;> cases j <;> rfl

theorem State.fault_setFault (c d : FaultClass) (r : FaultRec) :
    (s.setFault c r).fault d = if d = c then r else s.fault d := by
  refine (Vec.get_set _ _ _ _).trans ?_
  cases c <;> cases d <;> rfl

/-! ### Events and verdicts -/

/-- A raised event joins the queue or is counted lost; the rest of the U port stands. -/
theorem State.raise_uport (e : Event) : (s.raise e).uport =
    if s.uport.events.length < 32 then { s.uport with events := s.uport.events ++ [⟨e, s.custody.clock⟩] }
    else { s.uport with lost := min 255 (s.uport.lost + 1) } := by
  unfold State.raise
  split <;> rfl

/-- The event queue stays within its 32 places. -/
theorem State.raise_events_le (e : Event) (h : s.uport.events.length ≤ 32) : (s.raise e).uport.events.length ≤ 32 := by
  rw [State.raise_uport]
  split
  · simp; omega
  · exact h

/-- A verdict list stays within its 4 places. -/
theorem State.pushVerdict_le (i : Option (Fin 12)) (v : Verdict) (h : ∀ j, (s.station j).verdicts.length ≤ 4)
    (j : Fin 12) : ((s.pushVerdict i v).station j).verdicts.length ≤ 4 := by
  unfold State.pushVerdict
  split
  · rename_i k
    split
    · rename_i hk
      rw [State.station_setStation]
      split
      · simp; omega
      · exact h j
    · have hs : ∀ t : State, t.countVerdictDrop.station j = t.station j := fun _ => rfl
      rw [hs, State.station_setStation]
      split
      · have := h k
        simp [Station.displace]; omega
      · exact h j
  · exact h j

end

/-! ### Retention -/

/-- No error waiting, a command's reads leave the state as it is. -/
theorem State.meet_of_live (s : State) (h : s.retention.reads = []) : s.meet = s := by
  have hr : ({ s.retention with reads := [] } : RetCtl) = s.retention := by rw [← h]
  unfold State.meet State.readWords
  rw [hr, h]
  rfl

/-- A patched form keeps its length. -/
theorem patchForm_length (form word : List Byte) (offset : Nat) : (patchForm form offset word).length = form.length := by
  unfold patchForm
  split
  · simp; omega
  · rfl

theorem insertPlace_perm (p : Place) (l : List Place) : (insertPlace p l).Perm (p :: l) := by
  induction l with
  | nil => exact .refl _
  | cons q l ih =>
    unfold insertPlace
    split
    · exact .refl _
    · exact (ih.cons q).trans (.swap p q l)

theorem insertPlace_sorted (p : Place) (l : List Place) (h : (l.map Place.number).Pairwise (· ≤ ·)) :
    ((insertPlace p l).map Place.number).Pairwise (· ≤ ·) := by
  induction l with
  | nil => simp [insertPlace]
  | cons q l ih =>
    obtain ⟨hq, hl⟩ := List.pairwise_cons.1 (List.map_cons ▸ h)
    unfold insertPlace
    split
    · rename_i hpq
      refine List.pairwise_cons.2 ⟨fun n hn => ?_, h⟩
      rcases List.mem_cons.1 hn with rfl | hn
      · exact Nat.le_of_lt hpq
      · exact Nat.le_trans (Nat.le_of_lt hpq) (hq n hn)
    · rename_i hpq
      refine List.pairwise_cons.2 ⟨fun n hn => ?_, ih hl⟩
      obtain ⟨x, hx, rfl⟩ := List.mem_map.1 hn
      rcases List.mem_cons.1 ((insertPlace_perm p l).mem_iff.1 hx) with rfl | hx
      · exact Nat.le_of_not_lt hpq
      · exact hq _ (List.mem_map_of_mem hx)

/-! ### Rollovers and replies -/

/-- The rollover still owed: none owed, nothing happens; after it none is. -/
theorem State.owedRollover_of_not (s : State) (h : s.custody.midnight = false) : s.owedRollover = s := by
  simp [State.owedRollover, h]

/-- A reply that begins was built, and nothing but its phase changes. -/
theorem UPort.beginReply_eq (u : UPort) (now : Nat) :
    u.beginReply now = u ∨ (∃ a, u.phase = .built a ∧ a + u.replyWait a ≤ now) ∧
      u.beginReply now = { u with phase := .sending } := by
  unfold UPort.beginReply
  split
  · rename_i a ha
    split
    · exact .inr ⟨⟨a, ha, ‹_›⟩, rfl⟩
    · exact .inl rfl
  · exact .inl rfl
  · exact .inl rfl

/-- R158: a reply waits the least time of its speed code or more, and 5 ms at most. -/
theorem UPort.replyWait_bounds (u : UPort) (a : Nat) :
    (if u.speed = 0 then 2 else 1) ≤ u.replyWait a ∧ u.replyWait a ≤ 5 := by
  unfold UPort.replyWait
  split <;> omega

/-- A saturating counter never passes its end. -/
theorem bump_le (m n : Nat) : bump m n ≤ m := Nat.min_le_left _ _

/-! ### The poll cursor (R168) -/

/-- The first entry that passes a test. -/
theorem find_deviceIxs (p : Fin 12 → Bool) (i : Fin 12) :
    deviceIxs.find? p = some i ↔ p i = true ∧ ∀ j, j < i → p j = false := by
  have hg : ∀ j : Fin 12, deviceIxs[j.val]'j.isLt = j := by decide
  rw [List.find?_eq_some_iff_getElem]
  constructor
  · rintro ⟨hp, n, hn, rfl, hb⟩
    refine ⟨hp, fun j hj => ?_⟩
    rw [show deviceIxs[n] = (⟨n, hn⟩ : Fin 12) from hg ⟨n, hn⟩] at hj
    have := hb j.val hj
    rw [show deviceIxs[j.val] = j from hg j] at this
    simpa using this
  · rintro ⟨hp, hb⟩
    refine ⟨hp, i.val, i.isLt, hg i, fun j hj => ?_⟩
    have hj' : j < 12 := by omega
    rw [show deviceIxs[j] = (⟨j, hj'⟩ : Fin 12) from hg ⟨j, hj'⟩]
    simpa using hb ⟨j, hj'⟩ hj

theorem find_deviceIxs_none (p : Fin 12 → Bool) : deviceIxs.find? p = none ↔ ∀ i, p i = false := by
  have hm : ∀ i : Fin 12, i ∈ deviceIxs := by decide
  simp [List.find?_eq_none, hm]

/-- What `advance` can do (R168). -/
theorem State.advance_advances (s : State) (c : Fin 12) (h : s.dport.cursor = some c) : s.advances s.advance c := by
  have hin : ∀ r i, s.advance.inRound r i = s.inRound r i := by
    intro r i; unfold State.advance; rw [h]; dsimp only; split <;> rfl
  constructor
  · intro i hi hr hb
    simp only [hin] at *
    have : deviceIxs.find? (fun i => decide (c < i) && s.inRound s.dport.round i) = some i := by
      rw [find_deviceIxs]
      refine ⟨by simp [hi, hr], fun j hj => ?_⟩
      by_cases hc : c < j
      · simp [hb j hc hj]
      · simp [hc]
    simp [State.advance, h, this]
  · intro ho
    simp only [hin] at *
    have : deviceIxs.find? (fun i => decide (c < i) && s.inRound s.dport.round i) = none := by
      rw [find_deviceIxs_none]
      intro i
      by_cases hc : c < i
      · simp [ho i hc]
      · simp [hc]
    have e : s.advance = s.withDport { s.dport with
        round := if s.dport.round = 7 then 0 else s.dport.round + 1
        cursor := s.firstStation (if s.dport.round = 7 then 0 else s.dport.round + 1) } := by
      simp only [State.advance, h, this]
    have er : s.advance.dport.round = (if s.dport.round = 7 then 0 else s.dport.round + 1) := by rw [e]; rfl
    have ec : s.advance.dport.cursor = s.firstStation (if s.dport.round = 7 then 0 else s.dport.round + 1) := by
      rw [e]; rfl
    rw [er, ec]
    exact ⟨rfl, fun i h1 h2 => (find_deviceIxs _ _).2 ⟨h1, h2⟩, fun h1 => (find_deviceIxs_none _).2 h1⟩

/-- What `settleCursor` can do (R168). -/
theorem State.settleCursor_settles (s : State) : s.settles s.settleCursor := by
  have he : s.settleCursor = s ∨ (∃ i, s.settleCursor = s.withDport { s.dport with cursor := some i }) ∨
      s.settleCursor = s.advance := by
    unfold State.settleCursor
    split
    · exact .inl rfl
    · split
      · exact .inl rfl
      · exact .inr (.inr rfl)
    · exact .inr (.inl ⟨_, rfl⟩)
  constructor
  · rcases he with h | ⟨i, h⟩ | h
    · rw [h]
    · rw [h]; rfl
    · rw [h]; unfold State.advance; split
      · split <;> rfl
      · rfl
  · intro h
    have : s.firstStation s.dport.round = none := (find_deviceIxs_none _).2 h
    simp [State.settleCursor, this]
  · intro c hc hr
    unfold State.settleCursor
    rw [hc]
    split <;> simp_all
  · intro c j hc hn hj
    have hf : ∃ i, s.firstStation s.dport.round = some i := by
      cases hx : s.firstStation s.dport.round with
      | none => simp [(find_deviceIxs_none _).1 hx j] at hj
      | some i => exact ⟨i, rfl⟩
    obtain ⟨i, hi⟩ := hf
    have : s.settleCursor = s.advance := by simp [State.settleCursor, hi, hc, hn]
    rw [this]; exact s.advance_advances c hc
  · intro j hc hj hb
    have : s.firstStation s.dport.round = some j := (find_deviceIxs _ _).2 ⟨hj, hb⟩
    simp [State.settleCursor, this, hc]

/-! ### Figures -/

@[simp] theorem be_length (w n : Nat) : (be w n).length = w := by
  induction w with
  | zero => rfl
  | succ w ih => simp [be, ih]

@[simp] theorem beInt_length (w : Nat) (i : Int) : (beInt w i).length = w := be_length w _

@[simp] theorem beFig_length (w n : Nat) : (beFig w n).length = w := by
  unfold beFig; split <;> simp

@[simp] theorem beIntFig_length (w : Nat) (i : Int) : (beIntFig w i).length = w := by
  unfold beIntFig; split <;> simp

/-- A figure that fits its field is written as it is. -/
theorem beFig_of_lt (w n : Nat) (h : n < 256 ^ w) : beFig w n = be w n := by simp [beFig, h]

/-! ### Crediting -/

/-- R120: a dose has no due point reached. -/
theorem DoseRec.crossings_eq_zero (d : DoseRec) (gross : Nat) :
    d.crossings gross = 0 ↔ d.claimLost = true ∨ gross < d.nextDue := by
  unfold DoseRec.crossings
  split <;> simp_all

/-- R120: without a due point reached the doses take no demand. -/
theorem State.demands_of_none_due {s : State} {k : Fin 4} {b : Batch} (hb : (s.arm k).batch = some b)
    (h : ∀ d ∈ b.doses, d.claimLost = true ∨ b.gross < d.nextDue) : s.demands k = s := by
  have one (i : Nat) : s.doseDemands k b.gross i = s := by
    unfold State.doseDemands State.dose
    simp only [hb, Option.bind_some]
    split
    · rename_i d hd
      simp [(DoseRec.crossings_eq_zero d b.gross).2 (h d (List.mem_of_getElem? hd))]
    · rfl
  unfold State.demands
  simp only [hb]
  generalize List.range b.doses.length = l
  induction l with
  | nil => rfl
  | cons i l ih => rw [List.foldl_cons, one i, ih]

/-- R120: a credit whose gross increment is 0 is the credit alone. -/
theorem State.creditBatch_of_zero {s : State} {k : Fin 4} {b : Batch} {f : Nat}
    (h : (grossIncrement (s.meter k).lastN f (s.meter k).ppl b.rg).1 = 0) :
    s.creditBatch k b f =
      ((s.setArm k { s.arm k with
        batch := some (b.credited (s.vol k).temp 0 (grossIncrement (s.meter k).lastN f (s.meter k).ppl b.rg).2)
        }).creditGross k 0).creditStandard k (standardIncrement 0 (b.k5.getD 0) b.rs).1 := by
  simp [State.creditBatch, h]

/-- R120: a credit that adds to the gross is followed by the demands. -/
theorem State.creditBatch_of_pos {s : State} {k : Fin 4} {b : Batch} {f : Nat}
    (h : 0 < (grossIncrement (s.meter k).lastN f (s.meter k).ppl b.rg).1) :
    let g := grossIncrement (s.meter k).lastN f (s.meter k).ppl b.rg
    s.creditBatch k b f =
      (((s.setArm k { s.arm k with batch := some (b.credited (s.vol k).temp g.1 g.2) }).creditGross k
        g.1).creditStandard k (standardIncrement g.1 (b.k5.getD 0) b.rs).1).demands k :=
  if_neg (Nat.ne_of_gt h)

/-- R132: the counter that a note leaves lies in its range, or is USED_UP. -/
theorem NoteCounter.pass_range {c : NoteCounter} {number n : Nat} (h : c.pass number = .next n) :
    1 ≤ n ∧ n ≤ 4294967295 := by
  cases c <;> simp [NoteCounter.pass] at h
  split at h <;> simp at h
  omega

/-! ### Dosing -/

/-- R125: the deviation, where the expected quantity is above 0. -/
theorem doseDeviation_of_pos {e : Nat} (h : 0 < e) (m : Nat) :
    doseDeviation m e = (((m : Int) - e) * 100).tdiv e := if_neg (Nat.ne_of_gt h)

/-- R122: what a pulse adds and leaves, where ppl_milli is above 0. -/
theorem pulseShare_of_pos {ppl : Nat} (h : 0 < ppl) (num : Nat) : pulseShare num ppl = (num / ppl, num % ppl) :=
  if_neg (Nat.ne_of_gt h)

end Sys2Proof.Machine
end

