-- ==== Sys2Proof/Laws/Resets.lean ====
section
/-! SUPPORT. What a bay reset and a start do to the line error counters, the safety inputs and the deadman. -/

namespace Sys2Proof.Machine

/-! ### The line error counters (R156) -/

@[simp] theorem State.raise_lineErrors (s : State) (e : Event) : (s.raise e).lineErrors = s.lineErrors := by
  unfold State.raise; split <;> rfl

@[simp] theorem State.settleIdle_lineErrors (s : State) : s.settleIdle.lineErrors = s.lineErrors := by
  unfold State.settleIdle; split
  · split <;> rfl
  · rfl

@[simp] theorem State.settleDeadman_lineErrors (s : State) (was : Bool) :
    (s.settleDeadman was).lineErrors = s.lineErrors := by
  unfold State.settleDeadman; split
  · rfl
  · split <;> rfl

@[simp] theorem State.moveArm_lineErrors (s : State) (k : Fin 4) (st : ArmState) :
    (s.moveArm k st).lineErrors = s.lineErrors := by
  unfold State.moveArm; rw [settleIdle_lineErrors, settleDeadman_lineErrors]; rfl

@[simp] theorem State.cancel_lineErrors (s : State) (k : Fin 4) : (s.cancel k).lineErrors = s.lineErrors := by
  unfold State.cancel; simp only []; split
  all_goals
    rw [moveArm_lineErrors]
    split <;> rfl

@[simp] theorem State.setPermit_lineErrors (s : State) (i : Nat) (f : PermitEntry → PermitEntry) :
    (s.setPermit i f).lineErrors = s.lineErrors := by
  unfold State.setPermit; simp only []; split <;> rfl

@[simp] theorem State.charge_lineErrors (s : State) (l : Nat) : (s.charge l).lineErrors = s.lineErrors := by
  unfold State.charge; (repeat' split) <;> first | rfl | exact setPermit_lineErrors _ _ _

@[simp] theorem State.markProduct_lineErrors (s : State) (b : Batch) :
    (s.markProduct b).lineErrors = s.lineErrors := by
  unfold State.markProduct State.setLastProduct; simp only []; (repeat' split) <;> rfl

@[simp] theorem State.recordEnd_lineErrors (s : State) (k : Fin 4) (b : Batch) (r : EndReason) :
    (s.recordEnd k b r).lineErrors = s.lineErrors := by
  unfold State.recordEnd; simp only []
  rw [raise_lineErrors]
  exact (markProduct_lineErrors _ _).trans (charge_lineErrors _ _)

theorem State.releaseDoses_lineErrors (s : State) (k : Fin 4) :
    (s.releaseDoses k true).lineErrors = s.lineErrors := by
  unfold State.releaseDoses; split
  · apply foldl_frame (p := State.lineErrors)
    intro t i; unfold State.finaliseDose; split <;> rfl
  · rfl

theorem State.batchEnd_lineErrors (s : State) (k : Fin 4) (r : EndReason) :
    (s.batchEnd k r true).lineErrors = s.lineErrors := by
  unfold State.batchEnd State.dropBatch; simp only []; split
  · rw [moveArm_lineErrors]; exact (recordEnd_lineErrors _ _ _ _).trans (releaseDoses_lineErrors _ _)
  · rw [moveArm_lineErrors]; exact releaseDoses_lineErrors _ _

@[simp] theorem State.closeSession_lineErrors (s : State) (r : CloseReason) :
    (s.closeSession r).lineErrors = s.lineErrors := by
  unfold State.closeSession; split
  · simp only []
    rw [settleIdle_lineErrors]
    refine (raise_lineErrors _ _).trans ?_
    split
    · rfl
    · unfold State.writeNote; simp only []; rw [raise_lineErrors]; rfl
  · rfl

theorem State.resetSession_lineErrors (s : State) : s.resetSession.lineErrors = s.lineErrors := by
  unfold State.resetSession
  rw [closeSession_lineErrors]
  apply foldl_frame (p := State.lineErrors)
  intro t k; unfold State.resetArm
  split <;> first | exact batchEnd_lineErrors _ _ _ | exact cancel_lineErrors _ _ | rfl

theorem State.startChannels_lineErrors (s : State) : s.startChannels.lineErrors = s.lineErrors := by
  unfold State.startChannels; apply foldl_frame (p := State.lineErrors); intros; rfl

theorem State.seenHigh_lineErrors (s : State) (i : SafetyInput) : (s.seenHigh i).lineErrors = s.lineErrors := by
  unfold State.seenHigh; simp only []; split <;> rfl

theorem State.watchPins_lineErrors (s : State) : s.watchPins.lineErrors = s.lineErrors := by
  unfold State.watchPins; apply foldl_frame (p := State.lineErrors); intro t i; split
  · exact seenHigh_lineErrors _ _
  · rfl

theorem State.portsReset_lineErrors (s : State) : s.portsReset.lineErrors = s.lineErrors := rfl

theorem State.resetBlocks_lineErrors (s : State) : s.resetBlocks.lineErrors = s.lineErrors := by
  unfold State.resetBlocks; simp only []
  rw [watchPins_lineErrors, startChannels_lineErrors]
  exact portsReset_lineErrors _

theorem State.bayReset_lineErrors (s : State) : s.bayReset.lineErrors = s.lineErrors :=
  (resetBlocks_lineErrors _).trans ((resetSession_lineErrors _).trans rfl)

/-! ### The safety monitor (R30, R45) -/

theorem State.watchPins_deadman (s : State) : s.watchPins.safety.deadman = s.safety.deadman := by
  unfold State.watchPins; apply foldl_frame (p := fun y => y.safety.deadman); intro t i; split
  · unfold State.seenHigh; simp only []; split <;> rfl
  · rfl

theorem State.startChannels_safety (s : State) : s.startChannels.safety = s.safety := by
  unfold State.startChannels; apply foldl_frame (p := fun y => y.safety); intros; rfl

theorem State.resetBlocks_deadman (s : State) : s.resetBlocks.safety.deadman = Deadman.powerOn := by
  unfold State.resetBlocks; simp only []; rw [watchPins_deadman, startChannels_safety]; rfl

/-- Watching one pin changes the inputs alone. -/
theorem State.watchPin_stands (s : State) (i : SafetyInput) :
    (if (s.input i).pin then s.seenHigh i else s) = { s with safety := { s.safety with
      inputs := (if (s.input i).pin then s.seenHigh i else s).safety.inputs } } := by
  unfold State.seenHigh; simp only []; (repeat' split) <;> rfl

/-- An input low without a timer begins its debounce when its pin stands high; another input stands. -/
theorem State.watchPin_input (s : State) (i j : SafetyInput) (hl : (s.input i).level = false)
    (ht : (s.input i).timer = none) : (if (s.input i).pin then s.seenHigh i else s).input j =
      if j = i ∧ (s.input i).pin then { s.input i with timer := some (s.now + s.debounceTime i) } else s.input j := by
  by_cases hp : (s.input i).pin
  · simp only [hp, if_true, and_true]
    have e : s.seenHigh i = s.setInput i { s.input i with timer := some (s.now + s.debounceTime i) } := by
      unfold State.seenHigh; simp [hl, ht, ← hp]
    rw [e, State.input_setInput]; simp only [hp]
  · simp [hp]

/-- R30: of inputs low without a timer, each whose pin stands high begins its debounce. -/
theorem State.watchPins_input (s : State) (h : ∀ i, (s.input i).level = false ∧ (s.input i).timer = none)
    (i : SafetyInput) : s.watchPins.input i =
      { s.input i with timer := if (s.input i).pin then some (s.now + s.debounceTime i) else none } := by
  have watched : ∀ (l : List SafetyInput) (u : State), l.Nodup →
      (∀ j ∈ l, (u.input j).level = false ∧ (u.input j).timer = none) →
      (l.foldl (fun t j => if (t.input j).pin then t.seenHigh j else t) u).input i =
        if i ∈ l ∧ (u.input i).pin then { u.input i with timer := some (u.now + u.debounceTime i) }
        else u.input i := by
    intro l
    induction l with
    | nil => intro u _ _; simp
    | cons a l ih =>
      intro u hn hu
      obtain ⟨ha, hn⟩ := List.nodup_cons.1 hn
      have stands := watchPin_stands u a
      have here := fun j => watchPin_input u a j (hu a (by simp)).1 (hu a (by simp)).2
      simp only [List.foldl_cons]
      generalize (if (u.input a).pin then u.seenHigh a else u) = w at *
      have hnow : w.now = u.now := by rw [stands]
      have hdb : w.debounceTime i = u.debounceTime i := by rw [stands]; rfl
      rw [ih w hn]
      · rw [here i, hnow, hdb]
        by_cases hia : i = a
        · subst hia; simp [ha]
        · simp [hia]
      · intro j hj
        have hja : j ≠ a := fun e => ha (e ▸ hj)
        rw [here j]; simp [hja]; exact hu j (by simp [hj])
  have hm : i ∈ inputIxs := by cases i <;> decide
  unfold State.watchPins
  rw [watched inputIxs s (by decide) (fun j _ => h j)]
  by_cases hp : (s.input i).pin
  · simp [hm, hp]
  · rw [if_neg (fun x => hp x.2), if_neg hp, ← (h i).2]

end Sys2Proof.Machine
end

