-- ==== Sys2Proof/WellFormed.lean ====
section
/-! DEFINITION. Which commands the lines and the pins of the part can bring: field ranges that the types do not hold. -/

namespace Sys2Proof.WellFormed

/-- A payload of the U line (R154). -/
def uPayload (p : List Byte) : Bool := decide (p.length ≤ 240)

/-- A payload of the D line (R154). -/
def dPayload (p : List Byte) : Bool := decide (p.length ≤ 48)

/-- A D address of a station (R166). -/
def station (a : Byte) : Bool := decide (1 ≤ a.toNat) && decide (a.toNat ≤ 30)

/-- A request code that Table 10-3 does not give. -/
def unknownKind (k : Byte) : Bool := decide (k.toNat = 0) || decide (23 < k.toNat)

/-- Entries of a table (Table 9-2). -/
def tableEntries : TableId → Nat
  | .permit => 512 | .vehicle => 256 | .compat => 1 | .product => 16 | .recipe => 16 | .injector => 6 | .arm => 4
  | .device => 12 | .faultPolicy => 11 | .bay => 1

/-- A retention item that Table 9-7 lists: an entry of its table, a word within the longest form at a place of the queue
(R141), a clock in its range. -/
def retItem : RetItem → Bool
  | .tableEntry t i => decide (i < tableEntries t)
  | .noteWord n o b => decide (n < 16) && decide (b.length ≤ 8) && decide (o + b.length ≤ 1442)
  | .totalizer _ v => decide (v < 2 ^ 64)
  | .bayClock v => decide (v ≤ 5662310399)
  | .sessionRecord _ | .quotaDay | .placeList _ | .noteCounter _ | .faultRecord _ | .serviceFlag
  | .validityMarker => true

/-- Every finding names an item of retention. -/
def findings (l : List Finding) : Bool := l.all fun f => retItem f.item

/-- A preset of a KEY record (R195). -/
def preset (v : BitVec 24) : Bool := decide (v.toNat ≤ 999999)

/-- A well-formed command. -/
def instr : Instr → Bool
  | .authorise _ p | .deny _ p | .sessionEnd _ p | .sessionAbort _ p | .clearFault _ p | .faultDrill _ p
  | .batchSetup _ p | .batchStart _ p | .batchStop _ p | .batchSuspend _ p | .batchResume _ p | .relay _ p
  | .tableWrite _ p | .tableClear _ p | .statusRead _ p | .counterRead _ p | .clockSet _ p | .bayCommand _ p
  | .resetRequest _ p => uPayload p
  | .noteList _ p r | .noteRead _ p r | .noteRelease _ p r | .tableRead _ p r => uPayload p && findings r
  | .unknownRequest k _ p => unknownKind k && uPayload p
  | .broadcastRequest _ p => uPayload p
  | .stationResponse a _ p => station a && dPayload p
  | .relayResponse a p => station a && dPayload p
  | .card a _ | .tag a _ => station a
  | .temp a _ q => station a && decide (q.toNat ≤ 1)
  | .keySetup a _ _ _ v _ => station a && preset v
  | .keyStart a _ | .keyStop a _ | .keySuspend a _ | .keyResume a _ => station a
  | .scrubVisit f => retItem f.item
  | .powerOn _ _ l => findings l
  | .replyComplete | .linkSilenceExpiry | .framingError _ _ | .frameSilenceTimeout _ | .frameCheckError _
  | .overlappingRequest | .poll | .verdictFrame | .relayTurn | .dResponseTimeout _ | .unexpectedFrame
  | .permissiveFall _ | .estopFall | .deadmanRelease | .debounceStart _ | .debounceExpiry _ | .deadmanWarning
  | .deadmanExpiry | .meterAEdge _ | .meterBEdge _ | .gateWindowClose _ | .suspendStopTimeout _ | .stoppingTimeout _
  | .stalenessExpiry _ | .lostTimerExpiry _ | .idleTimeout | .authorisationDeadline | .feedbackPulse _
  | .injectionTimeout _ | .feedbackWindowClose _ | .dayRollover | .bayReset _ | .powerFail | .meterFallingEdge _ _
  | .frameEndedByAddressCharacter _ _ | .payloadLengthOverMaximum _ | .turnLastCharacterSent | .brstRelease
  | .bayClockStop => true

end Sys2Proof.WellFormed
end

