-- ==== Sys2Proof/Tests/Slice0.lean ====
section
/-! SUPPORT. Tests: the checks of WellFormed, figures worked in the spec, one step of some commands, and for each
statement with hypotheses a state and operands that meet them. -/

namespace Sys2Proof.Tests

set_option Elab.async false

open Sys2Proof.Machine

/-! ### WellFormed: each check refuses an ill-formed term -/

theorem test_wf_payload : WellFormed.instr (.deny 1 (List.replicate 241 0)) = false := by decide +kernel
theorem test_wf_payload_ok : WellFormed.instr (.deny 1 (List.replicate 240 0)) = true := by decide +kernel
theorem test_wf_dPayload : WellFormed.instr (.relayResponse 1 (List.replicate 49 0)) = false := by decide +kernel
theorem test_wf_station_zero : WellFormed.instr (.card 0 1) = false := by decide
theorem test_wf_station_31 : WellFormed.instr (.card 31 1) = false := by decide
theorem test_wf_unknownKind : WellFormed.instr (.unknownRequest 23 1 []) = false := by decide
theorem test_wf_tableEntries : WellFormed.instr (.scrubVisit ⟨.tableEntry .permit 512, .clean⟩) = false := by decide
theorem test_wf_noteWord : WellFormed.instr (.scrubVisit ⟨.noteWord 16 0 [], .clean⟩) = false := by decide
theorem test_wf_noteWord_offset : WellFormed.instr (.scrubVisit ⟨.noteWord 0 1442 [1], .clean⟩) = false := by decide
theorem test_wf_noteWord_bytes :
    WellFormed.instr (.scrubVisit ⟨.noteWord 0 0 (List.replicate 9 0), .clean⟩) = false := by decide
theorem test_wf_bayClock : WellFormed.instr (.scrubVisit ⟨.bayClock 5662310400, .clean⟩) = false := by decide
theorem test_wf_totalizer : WellFormed.instr (.scrubVisit ⟨.totalizer (.gross 0) (2 ^ 64), .clean⟩) = false := by decide
theorem test_wf_findings : WellFormed.instr (.noteRead 1 [] [⟨.noteWord 16 0 [], .clean⟩]) = false := by decide
theorem test_wf_quality : WellFormed.instr (.temp 1 0 2) = false := by decide
theorem test_wf_preset : WellFormed.instr (.keySetup 1 0 1 1 1000000 0) = false := by decide

/-- No row of the table has bits: no word spells a command. -/
theorem test_decode_none : decodeTableWord 16 0x1234 = none := rfl
theorem test_fetchWord : State.reset.withFetchWord 16 0x1234 = State.reset := rfl
theorem test_mnemonic_front : step (State.reset.withPending [.powerFail, .brstRelease]) =
    exec .powerFail (State.reset.withPending [.brstRelease]) := rfl

/-! ### Figures worked in the spec -/

/-- R154: the nine characters of values 49 to 57. -/
theorem test_crc : crc [49, 50, 51, 52, 53, 54, 55, 56, 57] = 10673 := by decide +kernel

/-- The curve of section 4.2. -/
def curve : List CurvePoint := [⟨300, 100120⟩, ⟨900, 100040⟩, ⟨1800, 99960⟩, ⟨2400, 99910⟩]

/-- Table 4-3. -/
theorem test_factor : [0, 7, 600, 900, 1200, 1500, 2250, 3000].map (meterFactor curve) =
    [some 100120, some 100120, some 100080, some 100040, some 100013, some 99987, some 99923, some 99910] := by decide

/-- Table 4-5. -/
theorem test_k5 : correction 2840 1500 12500 = 98347 ∧ correction 2910 1500 12500 = 98262 ∧
    correction 500 1500 8300 = 100836 := by decide

/-- R75: the ends of the range. -/
theorem test_k5_ends : correction (-4000) 2000 20000 = 113152 ∧ correction 7000 1500 20000 = 89968 := by decide

/-- Table 5-6. -/
theorem test_preset : presetRule 8000 9500 100 40000 (some 17500) = .ok 8000 ∧
    presetRule 11000 9500 100 40000 (some 17500) = .ok 9500 ∧ presetRule 11000 9500 100 40000 (some 7500) = .ok 7500 ∧
    presetRule 5000 9500 100 40000 (some 80) = .error .quotaExhausted ∧
    presetRule 60 9500 100 40000 (some 80) = .error .belowMinimum ∧
    presetRule 5000 9500 100 40000 (some (-5)) = .error .quotaExhausted := by decide

/-- R119: the worked intervals. -/
theorem test_interval : doseInterval 50 250 = 20000 ∧ doseInterval 35 300 = 11666 ∧ doseInterval 10 5000 = 200 := by
  decide

/-- R159: the slots offered by the room that the answer data leaves. -/
theorem test_slots : slotsOffered 0 = 3 ∧ slotsOffered 68 = 3 ∧ slotsOffered 69 = 2 ∧ slotsOffered 124 = 2 ∧
    slotsOffered 125 = 1 ∧ slotsOffered 180 = 1 ∧ slotsOffered 181 = 0 := by decide

/-! ### A small bay -/

/-- A table with its entries at indexes 0, 1, 2, .... -/
def table {α : Type} (l : List α) : Tab α := (List.range l.length).zip (l.map fun e => ⟨e, false⟩)

/-- A bay with one permit, two vehicles, two products, a recipe with one injector, one arm and five stations; the inputs
stand PERMITTED and tag 7 is confirmed. -/
def bay : State :=
  { State.reset with
    tables := { clearedTables with
      permits := table [⟨1, .active, 5, 0xFFFF, 500, 0, 0, [], 2⟩, ⟨2, .suspended, 5, 0xFFFF, 0, 0, 0, [], 0⟩]
      vehicles := table [⟨7, .active, 0, [⟨5000, some 1⟩, ⟨500, some 0⟩]⟩, ⟨8, .barred, 0, [⟨500, none⟩]⟩]
      products := table [⟨10, 9000, none⟩, ⟨11, 12500, none⟩, ⟨12, 12500, some 0⟩]
      recipes := table [⟨[⟨1, 250⟩], 5, .stopArm⟩]
      injectors := table [⟨1, 50, 2000000, 1000, 15, true⟩]
      arms := table [⟨true, 0xFFFF, 100000, curve, 10, 20, 20, 8, 10, some 2⟩]
      devices := table [⟨2, some .cardReader, none, false⟩, ⟨3, some .tagReader, none, false⟩,
        ⟨11, some .tempXmtr, some 0, false⟩, ⟨21, some .keypad, none, false⟩, ⟨12, some .tempXmtr, some 1, false⟩] }
    session := { State.reset.session with inService := true, tagRecord := some ⟨7, 0⟩ }
    safety := { State.reset.safety with inputs := Vector.replicate 4 ⟨true, true, none, 0⟩ }
    uport := { State.reset.uport with events := [] } }

/-- The session of card 1 with vehicle 7. -/
def session : Session :=
  ⟨1, 0, 1, 5, some 0, 0, 7, 0, .local_, 0, 0, 0, Vector.replicate 8 none, [], none, false, false⟩

/-- A batch of 100 L on compartment 1. -/
def batch : Batch :=
  ⟨0, 1, 11, 12500, 1500, .gross, none, .server, 100, .setUp, 0, 0, 0, 0, 0, none, 0, false, none, noFlags, [], none,
    none, none⟩

/-- The bay with the session open. -/
def loading : State :=
  { bay with
    session := { bay.session with record := some session }
    custody := { bay.custody with places := [⟨1, .reserved, none, [], false, false⟩] } }

/-- The session with a batch on arm 0 in a state. -/
def onArm (st : ArmState) (b : Batch) : State :=
  { loading with arms := Vec.set loading.arms 0 { Arm.powerOn none with state := st, batch := some b } }

/-- A request of three bytes or more names its table first, then the index. -/
def entry (id : TableId) (i : Nat) (p : List Byte) : List Byte := be 1 (tableCode id) ++ be 2 i ++ p

/-- What a command answers, or the reset state. -/
def after (c : Instr) (s : State) : State := match exec c s with | .next t => t | _ => State.reset

/-- The answer in hand after a command. -/
def answer (c : Instr) (s : State) : Option Answer := (after c s).uport.inHand.map Reply.answer

/-! ### One step -/

theorem test_card_opens : ((after (.card 2 1) bay).session.record.map fun r => (r.number, r.card, r.tag, r.permit)) =
    some (1, 1, 7, some 0) ∧ (after (.card 2 1) bay).bayState = .session := by decide
theorem test_card_refused : (after (.card 2 5) bay).session.record = none ∧
    ((after (.card 2 5) bay).station 0).verdicts = [.refuse .cardUnknown] := by decide
theorem test_card_suspended : ((after (.card 2 2) bay).station 0).verdicts = [.refuse .permitSuspended] := by decide
theorem test_authorise_late : answer (.authorise 9 (be 5 1 ++ be 2 1 ++ be 3 5)) bay = some (deny .late) := by decide
theorem test_sessionEnd_closes : (after (.sessionEnd 9 []) loading).session.record = none ∧
    (after (.sessionEnd 9 []) loading).custody.places = [] := by decide
theorem test_setup_clamped : answer (.batchSetup 9 (be 1 0 ++ be 1 2 ++ be 1 0 ++ be 3 9000 ++ be 1 255)) loading =
    some (accept 0 (be 3 500 ++ be 1 1)) := by decide +kernel
theorem test_start_temp : answer (.batchStart 9 [0]) (onArm .ready batch) =
    some ⟨.refused, batchReasonCode .tempMissing, []⟩ := by decide
theorem test_permissive_suspends : ((after (.permissiveFall .ground) (onArm .full batch)).arm 0).state = .suspended ∧
    ((after (.permissiveFall .ground) (onArm .full batch)).arm 0).batch = some { batch with cause := some .ground } := by
  decide
theorem test_estop_stops : ((after .estopFall (onArm .slowdown batch)).arm 0).state = .stopping ∧
    (after .estopFall (onArm .slowdown batch)).bayState = .closing := by decide
theorem test_reverse_pulse : ((after (.meterAEdge 0)
    (bay.setMeter 0 { bay.meter 0 with running := true, seenB := true })).meter 0).debt = 1 := by decide
theorem test_relay_position : answer (.relay 9 [21, 5, 1])
    { bay with dport := { bay.dport with relayDown := [⟨21, 4, []⟩] } } = some (accept 0 [2]) := by decide
/-- Section 4.3, windows 1 and 2: 5,000 and 5,001 mL, with 65,000 and 30,000 left over. -/
theorem test_gross_carry :
    ((((onArm .full batch).setMeter 0 { (bay.meter 0) with lastN := 500, ppl := 100000 }).creditBatch 0 batch
      100013).arm 0).batch.map (fun b => (b.gross, b.rg)) = some (5000, 65000) ∧
    ((((onArm .full { batch with gross := 5000, rg := 65000 }).setMeter 0
      { (bay.meter 0) with lastN := 500, ppl := 100000 }).creditBatch 0 { batch with gross := 5000, rg := 65000 }
      100013).arm 0).batch.map (fun b => (b.gross, b.rg)) = some (10001, 30000) := by decide

/-! ### Witnesses: states and operands that meet the hypotheses of the statements, clause by clause -/

theorem witness_EveryCommandAnswersNext :
    ({ bay with retention := { bay.retention with reads := [⟨.quotaDay, .multi⟩] } } : State).powered = true ∧
    ∀ p kept l, Instr.poll ≠ .powerOn p kept l := ⟨rfl, fun _ _ _ h => nomatch h⟩

theorem witness_StepRunsFrontCommand :
    (State.reset.withPending [.powerFail, .brstRelease]).pending = .powerFail :: [.brstRelease] := rfl

theorem witness_UnpoweredTakesNothing :
    (State.reset.withPowered false).powered = false ∧ ∀ p kept l, Instr.estopFall ≠ .powerOn p kept l :=
  ⟨rfl, fun _ _ _ h => nomatch h⟩

theorem witness_IdleStep : State.reset.pending = [] ∧ State.reset.dueCommand = none ∧
    State.reset.custody.phase < 999 ∧ State.reset.custody.clock < 5662310399 := by decide +kernel

theorem witness_IdleStep_due : ({ loading with session := { loading.session with idleTimer := some 0 } } : State).dueCommand =
    some .idleTimeout := by decide +kernel

theorem witness_IdleStep_second :
    ({ bay with custody := { bay.custody with clock := 5662310398, phase := 999 } } : State).dueCommand = none ∧
    ({ bay with custody := { bay.custody with clock := 5662310399, phase := 999 } } : State).dueCommand = none := by
  decide +kernel

/-- A part with a reply in hand in a phase, read at a time. -/
def replying (p : ReplyPhase) (now : Nat) : State :=
  { bay.reply 1 1 taken with now := now, uport := { (bay.reply 1 1 taken).uport with phase := p } }

theorem witness_IdleStep_reply :
    ((replying (.built 0) 0).pending = [] ∧ (replying (.built 0) 0).dueCommand = none ∧
      (replying (.built 0) 0).uport.phase = .built 0 ∧ (replying (.built 0) 0).uport.speed = 0 ∧
      (replying (.built 0) 0).now + 1 < 0 + 2) ∧
    ((replying (.built 0) 4).dueCommand = none ∧ 0 + 5 ≤ (replying (.built 0) 4).now + 1) ∧
    ∀ a, (replying .sending 4).uport.phase ≠ .built a :=
  ⟨by decide +kernel, by decide +kernel, fun _ h => nomatch h⟩

/-- A flowing arm. -/
def flowing : State := { onArm .full batch with pending := [.deadmanRelease] }

theorem witness_ValveGuardKept : flowing.guarded ∧ ∃ t, step flowing = .next t := by
  refine ⟨?_, _, rfl⟩
  unfold State.guarded State.armGuarded
  decide +kernel

/-- Every queue at its bound. -/
def full : State :=
  { bay with
    uport := { bay.uport with
      events := List.replicate 32 ⟨.retentionLost, 0⟩, lost := 255, relayUp := List.replicate 8 (.reserved 1 2) }
    dport := { bay.dport with
      relayDown := List.replicate 4 ⟨21, 1, []⟩
      stations := Vector.replicate 12 ⟨.online, 0, List.replicate 4 .accept, 0⟩ }
    additive := { bay.additive with waiting := [0, 1, 2] }
    pending := [.tag 3 9] }

theorem full_unloaded : ∀ k, (full.arm k).batch = none := by decide +kernel

theorem witness_QueueBoundsKept : full.bounded ∧ ∃ t, step full = .next t :=
  ⟨⟨by decide +kernel, by decide +kernel, by decide +kernel, by decide +kernel, by decide +kernel, by decide +kernel,
    fun k b _ h => nomatch (show none = some b from (full_unloaded k).symm.trans h)⟩, _, rfl⟩

theorem witness_CanonicalTablesKept : bay.canonical = true ∧ ∃ t, step bay = .next t := ⟨by decide +kernel, _, rfl⟩

theorem witness_NoteQueueSoundKept : loading.notesSound ∧ bay.notesSound ∧ ∃ t, step loading = .next t :=
  ⟨⟨by decide +kernel, by decide +kernel, by decide +kernel, by rintro r ⟨⟩; rfl⟩,
    ⟨by decide +kernel, by decide +kernel, by decide +kernel, by rintro r ⟨⟩⟩, _, rfl⟩

/-- The bay with 13 notes held. -/
def crowded : State :=
  { bay with custody := { bay.custody with places := List.replicate 13 ⟨1, .ready, none, [], false, false⟩ } }

/-- The bay under permit source SERVER with the link ONLINE. -/
def online : State :=
  { bay with
    tables := { bay.tables with bay := ⟨{ defaultBay with permitSource := .server }, false⟩ }
    uport := { bay.uport with link := .online } }

/-- A presentation of card 1 waits. -/
def presented : State := { online with session := { online.session with presentation := some ⟨1, 7, 0, 0, 10000⟩ } }

/-- A presentation of a card waits. -/
def presenting (card : Nat) : State :=
  { online with session := { online.session with presentation := some ⟨card, 7, 0, 0, 10000⟩ } }

theorem witness_CardPresented :
    (bay.live = true ∧ bay.canonical = true ∧ bay.bayState = .idle ∧ bay.session.presentation = none ∧
      bay.holds 2 0 .cardReader ∧ bay.freshTag = some 7 ∧ bay.admissible 7 = .ok 0 ∧
      ¬(bay.bay.permitSource = .server ∧ bay.uport.link = .online) ∧ bay.permitCheck (1 : BitVec 40).toNat 7 = .ok 0 ∧
      bay.allIdle = true ∧ bay.session.idleTimer = none ∧ bay.custody.places.length < 13) ∧
    (crowded.live = true ∧ crowded.canonical = true ∧ crowded.bayState = .idle ∧ crowded.session.presentation = none ∧
      crowded.holds 2 0 .cardReader ∧ crowded.freshTag = some 7 ∧ crowded.admissible 7 = .ok 0 ∧
      crowded.permitCheck (1 : BitVec 40).toNat 7 = .ok 0 ∧ crowded.custody.places.length = 13) ∧
    (online.live = true ∧ online.canonical = true ∧ online.bayState = .idle ∧ online.session.presentation = none ∧
      online.holds 2 0 .cardReader ∧ online.freshTag = some 7 ∧ online.admissible 7 = .ok 0 ∧
      online.bay.permitSource = .server ∧ online.uport.link = .online) := by
  unfold State.holds; decide +kernel

theorem witness_PresentationRefused :
    (bay.canonical = true ∧ bay.findRole .cardReader = some 0 ∧ (bay.station 0).verdicts.length < 4 ∧
      bay.findPermit 1 = some 0 ∧ (bay.permit 0).refusals + 1 = 3 ∧ bay.findPermit 9 = none) ∧
    (bay.live = true ∧ bay.holds 2 0 .cardReader) ∧
    ({ bay with session := { bay.session with inService := false } } : State).bayState = .outOfService ∧
    (loading.holds 2 0 .cardReader ∧ loading.bayState = .session ∧ loading.session.record = some session ∧
      session.card ≠ (2 : BitVec 40).toNat) ∧
    (presented.holds 2 0 .cardReader ∧ presented.bayState = .idle ∧
      presented.session.presentation = some ⟨1, 7, 0, 0, 10000⟩ ∧ (1 : Nat) ≠ (2 : BitVec 40).toNat ∧
      (1 : Nat) = (1 : BitVec 40).toNat) ∧
    (({ bay with now := 120001 } : State).bayState = .idle ∧ ({ bay with now := 120001 } : State).freshTag = none) ∧
    ({ bay with session := { bay.session with tagRecord := some ⟨8, 0⟩ } } : State).freshTag = some 8 ∧
    (bay.freshTag = some 7 ∧ bay.admissible 7 = .ok 0 ∧
      ¬(bay.bay.permitSource = .server ∧ bay.uport.link = .online) ∧
      bay.permitCheck (5 : BitVec 40).toNat 7 = .error .cardUnknown) := by
  unfold State.holds; decide +kernel

/-- The card reader's list is full, its frame under way. -/
def fullList : State :=
  bay.setStation 0 { bay.station 0 with verdicts := [.accept, .stopArmsFirst, .accept, .accept], carried := 1 }

theorem witness_PresentationRefused_lists :
    (bay.station 0).verdicts.length < 4 ∧ 4 ≤ (fullList.station 0).verdicts.length := by decide +kernel

/-- R170: a full list loses its oldest verdict, which counts as dropped; so does a verdict for no station. -/
theorem test_full_list : (((fullList.tellReader (.refuse .bayBusy)).station 0).verdicts,
    (fullList.tellReader .accept).dport.verdictDrop, (fullList.tellKeypad 9 (.notNow 0)).dport.verdictDrop) =
      ([.stopArmsFirst, .accept, .accept, .refuse .bayBusy], 1, 1) := by decide +kernel

/-- The bay with the entry of card 1 changed. -/
def permitting (f : PermitEntry → PermitEntry) : State :=
  { bay with tables := { bay.tables with permits := table [f (bay.permit 0)] } }

/-- The bay a day on. -/
def nextDay : State := { bay with custody := { bay.custody with clock := 86400 } }

theorem witness_PresentationRefused_checks :
    (bay.findVehicle 6 = none ∧ bay.findVehicle 8 = some 1 ∧ (bay.vehicle 1).state = .barred ∧
      bay.findVehicle 7 = some 0 ∧ (bay.vehicle 0).state = .active ∧
      bay.custody.clock / 86400 ≤ (bay.vehicle 0).inspectionDay ∧ bay.custody.places.length < 16 ∧
      bay.custody.counter ≠ .usedUp) ∧
    ((nextDay.vehicle 0).inspectionDay < nextDay.custody.clock / 86400) ∧
    (bay.findPermit 9 = none ∧ bay.findPermit 2 = some 1 ∧ (bay.permit 1).state = .suspended) ∧
    ((permitting fun p => { p with state := .lockedOut }).permit 0).state = .lockedOut ∧
    (({ permitting fun p => { p with expiryDay := 0 } with custody := nextDay.custody } : State).permit 0).expiryDay <
      nextDay.custody.clock / 86400 ∧
    (bay.custody.clock / 86400 ≤ (bay.permit 0).expiryDay ∧ (bay.permit 0).vehicles = []) ∧
    (((permitting fun p => { p with vehicles := [8] }).permit 0).vehicles ≠ [] ∧
      7 ∉ ((permitting fun p => { p with vehicles := [8] }).permit 0).vehicles) := by decide +kernel

/-- An AUTHORISE of card 1. -/
def authorisation (quota : Nat) : List Byte := be 5 1 ++ be 2 2 ++ be 3 quota

theorem witness_AuthoriseDecides :
    presented.hearing = true ∧ (authorisation 999999).length = 10 ∧ 999999 < field (authorisation 1000000) 7 3 ∧
    field (authorisation 999999) 7 3 ≤ 999999 ∧ bay.pendingOf (field (authorisation 5) 0 5) = none ∧
    presented.pendingOf (field (authorisation 5) 0 5) = some ⟨1, 7, 0, 0, 10000⟩ ∧ presented.admissible 7 = .ok 0 ∧
    (presented.canonical = true ∧ presented.findPermit (field (authorisation 5) 0 5) = some 0 ∧
      bay.findPermit (field (be 5 3 ++ be 2 2 ++ be 3 5) 0 5) = none) ∧
    ({ presented with custody := { presented.custody with counter := .usedUp } } : State).admissible 7 =
      .error .noteQueueFull := by decide +kernel

theorem witness_PresentationDeniedOrLate :
    presented.hearing = true ∧ (be 5 1 ++ be 1 3).length = 6 ∧ presented.pendingOf (field (be 5 1 ++ be 1 3) 0 5) =
      some ⟨1, 7, 0, 0, 10000⟩ ∧ presented.pendingOf (field (be 5 2 ++ be 1 3) 0 5) = none ∧
    presented.live = true ∧ presented.session.presentation = some ⟨1, 7, 0, 0, 10000⟩ := by decide +kernel

/-- The line of a batch of arm 0. -/
def line : BatchLine := batchLine 0 batch .complete ⟨0, false⟩

/-- The session with one batch line written. -/
def lined (damaged : Bool) : State :=
  { loading with session := { loading.session with record := some { session with lines := [line], damaged := damaged } } }

theorem witness_OrderlyClose :
    (loading.hearing = true ∧ loading.bayState = .session ∧ loading.noneRunning = true ∧
      loading.session.record = some session) ∧
    ¬(bay.bayState = .session ∧ bay.noneRunning = true) ∧
    ({ loading with session := { loading.session with idleTimer := some 5 } } : State).session.idleTimer.isSome = true ∧
    ((lined false).session.record.map Session.lines ≠ some [] ∧ (lined false).bayState = .session) ∧
    (loading.live = true ∧ loading.holds 2 0 .cardReader ∧ session.card = (1 : BitVec 40).toNat) ∧
    ((onArm .full batch).holds 2 0 .cardReader ∧ (onArm .full batch).bayState = .session ∧
      (onArm .full batch).noneRunning = false) := by
  unfold State.holds; decide +kernel

/-- The session in CLOSING. -/
def closing : State :=
  { onArm .stopping batch with session := { bay.session with record := some { session with closing := some .abort } } }

theorem witness_SessionAbort :
    (loading.hearing = true ∧ loading.bayState = .session ∧ loading.noneRunning = true ∧
      loading.session.record = some session) ∧
    (onArm .full batch).noneRunning = false ∧ (closing.hearing = true ∧ closing.bayState = .closing) ∧
    bay.session.record = none := by decide +kernel

/-- The tag candidate. -/
def candidate (s : State) (n : Option Nat) : State := { s with session := { s.session with candidate := n } }

theorem witness_TagConfirmation :
    (bay.live = true ∧ bay.holds 3 1 .tagReader ∧ bay.session.candidate = none) ∧
    ((candidate bay (some 9)).session.candidate = some 9 ∧ 9 ≠ (7 : BitVec 32).toNat) ∧
    (candidate bay (some 0)).session.candidate = some (0 : BitVec 32).toNat ∧
    ((candidate bay (some 7)).session.candidate = some (7 : BitVec 32).toNat ∧
      (candidate bay (some 7)).session.tagRecord.map TagRec.tag = some (7 : BitVec 32).toNat) ∧
    ((candidate bay (some 9)).session.tagRecord.map TagRec.tag ≠ some (9 : BitVec 32).toNat ∧
      (candidate bay (some 9)).mismatch 9 = false) ∧
    ((candidate loading (some 9)).mismatch 9 = true ∧ (candidate loading (some 9)).anyFlowing = false) ∧
    ((candidate flowing (some 9)).mismatch 9 = true ∧ (candidate flowing (some 9)).anyFlowing = true) := by
  unfold State.holds; decide +kernel

/-- A latched class naming arm 0, whose channel shows flow. -/
def latched (c : FaultClass) (n : Nat) : State :=
  ((bay.setFault c ⟨some .stopBay, 1, some 0, some 0, some 0, 1, 0, false⟩).setMeter 0
    { bay.meter 0 with lastN := n })

theorem witness_FaultCleared :
    bay.hearing = true ∧ 11 ≤ (11 : Byte).toNat ∧ faultOf (10 : Byte).toNat = some .deviceLost ∧
    faultOf (1 : Byte).toNat = some .valve ∧ (latched .valve 1).clearBlocked .valve = true ∧
    (latched .valve 0).clearBlocked .valve = false ∧
    State.reset.clearBlocked .estop = true ∧ bay.clearBlocked .estop = false ∧
    (loading.hearing = true ∧ loading.session.record.isSome = true ∧ loading.clearBlocked .valve = false) ∧
    (bay.session.record = none ∧ ((latched .dose 0).fault .dose).latch = some .stopBay ∧
      (latched .dose 0).clearBlocked .valve = false) ∧
    (∀ d ∈ faultClasses, (bay.fault d).latch ≠ some .stopBay) := by decide +kernel

theorem witness_FaultDrilled :
    bay.hearing = true ∧ 11 ≤ (11 : Byte).toNat ∧ (4 ≤ (4 : Byte).toNat ∧ (4 : Byte).toNat ≤ 254) ∧
    (4 ≤ (254 : Byte).toNat ∧ (254 : Byte).toNat ≤ 254) ∧ faultOf (10 : Byte).toNat = some .deviceLost ∧
    (255 : Byte).toNat = 255 ∧ (∃ j : Fin 4, j.val = (3 : Byte).toNat) ∧ loading.session.record.isSome = true ∧
    (bay.session.record = none ∧ bay.allIdle = true ∧ bay.session.presentation = none) ∧
    (presented.hearing = true ∧ presented.session.record = none ∧ presented.allIdle = true ∧
      presented.session.presentation.isSome = true ∧ faultOf (0 : Byte).toNat = some .estop ∧
      presented.response .estop none = .stopBay) := by decide +kernel

theorem witness_PermissiveFall :
    (flowing.live = true ∧ (flowing.input Permissive.ground.input).level = true) ∧
    (bay.anyFlowing = false ∧ (bay.input Permissive.overfill.input).level = true) ∧
    (State.reset.live = true ∧ (State.reset.input Permissive.ground.input).level = false) := by decide +kernel

theorem witness_EstopFall :
    (State.reset.live = true ∧ (State.reset.input .estop).level = false) ∧
    (flowing.live = true ∧ (flowing.input .estop).level = true ∧ (flowing.policy .estop).mode = .stopBay ∧
      flowing.bayState = .session ∧ flowing.noneRunning = false) ∧
    (loading.bayState = .session ∧ loading.noneRunning = true ∧ loading.session.record = some session) ∧
    (closing.live = true ∧ (closing.input .estop).level = true ∧ (closing.policy .estop).mode = .stopBay ∧
      closing.bayState = .closing ∧ (closing.arm 0).state = .stopping) ∧
    (bay.session.record = none ∧ bay.allIdle = true) ∧
    (presented.live = true ∧ (presented.input .estop).level = true ∧ (presented.policy .estop).mode = .stopBay ∧
      presented.session.record = none ∧ presented.allIdle = true ∧
      presented.session.presentation.isSome = true) := by decide +kernel

/-- An input with its timer running. -/
def timing (i : SafetyInput) (pin : Bool) : State := State.reset.setInput i ⟨pin, false, some 0, 0⟩

theorem witness_InputDebounce :
    (State.reset.live = true ∧ (State.reset.input .ground).level = false ∧ (State.reset.input .ground).timer = none) ∧
    (bay.input .ground).level = true ∧
    (((timing .ground true).input .ground).timer.isSome = true ∧ ((timing .ground true).input .ground).pin = true ∧
      SafetyInput.ground ≠ .deadman) ∧
    (((timing .ground false).input .ground).timer.isSome = true ∧
      ((timing .ground false).input .ground).pin = false) := by decide +kernel

/-- The deadman's own state. -/
def pressing (t : Option Nat) (warned expired : Bool) : State :=
  (timing .deadman true).setDeadman ⟨t, warned, warned, expired, 65535⟩

theorem witness_DeadmanTimer :
    (pressing none false true).live = true ∧
    (((pressing (some 9) true false).input .deadman).timer.isSome = true ∧
      ((pressing (some 9) true false).input .deadman).pin = true ∧
      (pressing (some 9) true false).safety.deadman.timer.isSome = true ∧
      (pressing (some 9) true false).safety.deadman.warned = true) ∧
    ((pressing none false true).safety.deadman.timer = none ∧ (pressing none false true).safety.deadman.expired = true) ∧
    (pressing none false false).safety.deadman.expired = false ∧
    ((pressing (some 9) false false).safety.deadman.timer.isSome = true ∧
      (pressing (some 9) false false).safety.deadman.warned = false) := by decide +kernel

/-- A dose record of injector 0. -/
def dose : DoseRec :=
  ⟨1, 250, 0, 50, 2000000, 1000, 5, .stopArm, 20000, 10000, 0, 0, 45, 0, 0, false, false, none⟩

/-- An injection for the dose of arm 0's batch. -/
def dosing : State := (onArm .full { batch with doses := [dose] }).setInj 0
  { bay.inj 0 with
    state := .injecting, windowOpen := true, open_ := true, ppl := 2000000, stroke := 50, measured := 45,
    owner := some (0, 0), claimant := some 0, timer := some 0 }

/-- Arm 0 in a state, its one dose at a record, injector 0 in a state for it. -/
def demanding (st : ArmState) (j : InjState) (d : DoseRec) : State :=
  (onArm st { batch with doses := [d] }).setInj 0 { dosing.inj 0 with state := j }

/-- R115: an interval at its least. -/
theorem witness_QueueBoundsKept_intervals :
    ((demanding .full .claimedIdle { dose with interval := 2000 }).arm 0).state ≠ .idle ∧
    ((demanding .full .claimedIdle { dose with interval := 2000 }).arm 0).batch =
      some { batch with doses := [{ dose with interval := 2000 }] } ∧
    ∀ d ∈ ({ batch with doses := [{ dose with interval := 2000 }] } : Batch).doses, 2000 ≤ d.interval := by decide +kernel

/-- R120: the due point at 10,000 mL stands reached, and a window without pulses makes no demand. -/
theorem test_zero_window_demands_nothing :
    let s := (onArm .stopping { batch with gross := 10000, doses := [dose] }).setMeter 0
      { (bay.meter 0) with lastN := 0, ppl := 100000 }
    (s.creditBatch 0 { batch with gross := 10000, doses := [dose] } 100013).dose 0 0 = some dose ∧
    ((s.demands 0).dose 0 0).map (fun d => (d.owed, d.nextDue)) = some (1, 30000) := by decide +kernel

/-- Channel 0 running. -/
def channel (m : Meter) : State := bay.setMeter 0 { m with running := true, ppl := 100000 }

theorem witness_MeterEdges :
    (bay.live = true ∧ ((channel (bay.meter 0)).meter 0).running = true ∧
      ((channel (bay.meter 0)).meter 0).seenB = false) ∧
    (((channel { bay.meter 0 with seenB := true, debt := 19 }).meter 0).seenB = true ∧
      ((channel { bay.meter 0 with seenB := true, debt := 19 }).meter 0).debt < bay.bay.reverseAllowance) ∧
    (bay.bay.reverseAllowance ≤ ((channel { bay.meter 0 with seenB := true, debt := 20 }).meter 0).debt ∧
      ((channel { bay.meter 0 with seenB := true, debt := 20 }).meter 0).excess = false ∧
      ((channel { bay.meter 0 with seenB := true, debt := 20, excess := true }).meter 0).excess = true) ∧
    (bay.meter 0).running = false := by decide +kernel

/-- Channel 0 running with arm 0 in a state. -/
def metered (st : ArmState) : State :=
  ((onArm st batch).setMeter 0 { bay.meter 0 with running := true, ppl := 100000, n := 500 }).setVol 0
    { bay.vol 0 with curve := curve }

/-- The bay with the classes of a window close under REPORT, a discrepancy of 500 pulses in the open window. -/
def noisy (st : ArmState) : State :=
  let p : Vector (Slot PolicyEntry) 11 := Vec.set (Vec.set bay.tables.policies (faultCode .meterPulse)
    ⟨⟨.report, false⟩, false⟩) (faultCode .unauthFlow) ⟨⟨.report, false⟩, false⟩
  { (metered st).setMeter 0 { (metered st).meter 0 with aCount := 500, unauth := 3000000 } with
    tables := { bay.tables with policies := p } }

/-- A flowing arm whose open window holds a discrepancy, the policies as they stand by default. -/
def stopped : State := (metered .full).setMeter 0 { (metered .full).meter 0 with aCount := 500 }

theorem witness_GateWindowClose :
    ((metered .idle).live = true ∧ ((metered .idle).meter 0).running = true ∧
      ((metered .idle).arm 0).state.running = false ∧
      meterFactor ((metered .idle).vol 0).curve (500 * 240000 / 100000) = some 100013 ∧
      ((metered .idle).vol 0).factor = none) ∧
    (((metered .full).arm 0).state.running = true ∧ ((metered .full).arm 0).batch = some batch ∧
      ((metered .full).arm 0).state ≠ .stopping) ∧
    (((metered .stopping).arm 0).state = .stopping ∧ 0 < ((metered .stopping).meter 0).n) ∧
    ((metered .idle).pulses 0 = false ∧ (metered .idle).leaks 0 ((metered .idle).leakedSum 0) = true ∧
      (noisy .idle).pulses 0 = true ∧ (noisy .full).pulses 0 = true) ∧
    (stopped.live = true ∧ (stopped.meter 0).running = true ∧ stopped.pulses 0 = true ∧
      stopped.response .meterPulse none = .stopArm ∧ stopped.leaks 0 (stopped.meter 0).unauth = false ∧
      (stopped.arm 0).batch = some batch ∧ batch.doses = [] ∧ (stopped.arm 0).state.flowing = true) := by decide +kernel

theorem witness_GateWindowClose_reported :
    (((noisy .idle).meter 0).running = true ∧ ((noisy .idle).arm 0).state.running = false ∧
      (noisy .idle).pulses 0 = true ∧ (noisy .idle).leaks 0 ((noisy .idle).leakedSum 0) = true) ∧
    (noisy .idle).reported 0 ((noisy .idle).leakedSum 0) := by
  unfold State.reported; decide +kernel

theorem witness_BatchCredited :
    (((metered .full).arm 0).batch = some batch ∧ ((metered .full).arm 0).state.running = true) ∧
    ((dosing.arm 0).batch = some { batch with doses := [dose] } ∧ (dosing.arm 0).state.running = true ∧
      dose.claimLost = false ∧ 0 < dose.interval ∧ dosing.dose 0 0 = some dose ∧ (dosing.inj 0).state = .injecting ∧
      dose.owed < 2) ∧
    (((demanding .stopping .claimedIdle dose).arm 0).state = .stopping ∧
      (demanding .stopping .claimedIdle dose).dose 0 0 = some dose) ∧
    (((demanding .full .claimedIdle dose).arm 0).state ≠ .stopping ∧
      ((demanding .full .claimedIdle dose).inj dose.injector).state = .claimedIdle) ∧
    ((demanding .full .injecting { dose with owed := 2 }).dose 0 0 = some { dose with owed := 2 } ∧
      ((demanding .full .injecting { dose with owed := 2 }).inj 0).state = .injecting ∧ dose.overflow = false) ∧
    (demanding .full .injecting { dose with owed := 2, overflow := true }).dose 0 0 =
      some { dose with owed := 2, overflow := true } := by decide +kernel

/-- Arm 0 in a state with a batch, a window of `n` pulses open, and `z` zero closes seen. -/
def examined (st : ArmState) (b : Batch) (n z : Nat) : State :=
  (((onArm st b).setArm 0 { (onArm st b).arm 0 with zeroCloses := z }).setMeter 0
    { bay.meter 0 with running := true, ppl := 100000, n := n, aCount := n, bCount := n }).setVol 0
      { bay.vol 0 with curve := curve }

/-- A batch that has delivered so many mL. -/
def at_ (g : Nat) : Batch := { batch with gross := g }

theorem witness_FlowExamined :
    ((examined .full batch 500 0).live = true ∧ (examined .full batch 500 0).canonical = true ∧
      ((examined .full batch 500 0).meter 0).running = true ∧ (examined .full batch 500 0).pulses 0 = false ∧
      (examined .full batch 500 0).leaks 0 ((examined .full batch 500 0).meter 0).unauth = false ∧
      ((examined .full batch 500 0).arm 0).state.running = true ∧
      ((examined .full batch 500 0).arm 0).batch = some batch ∧ batch.doses = [] ∧
      0 < ((examined .full batch 500 0).armEntry 0).noFlowTimeout ∧ ArmState.full.flowing = true) ∧
    (predicted ((examined .full batch 500 0).arm 0).history ((examined .full batch 500 0).armEntry 0).maxOverrun = 0 ∧
      ((examined .full batch 500 0).armEntry 0).slowdown = 20 ∧ ((examined .full batch 500 0).armEntry 0).lowStart = 10 ∧
      ((examined .full batch 500 0).armEntry 0).noFlowTimeout = 20 ∧ (examined .full batch 500 0).capacity batch = 5000) ∧
    batch.preset * 1000 ≤ ((examined .full (at_ 95000) 500 0).windowed 0 (at_ 95000)).delivered ∧
    ((examined .full (at_ 74999) 500 0).windowed 0 (at_ 74999)).delivered + 20 * 1000 < batch.preset * 1000 ∧
    batch.preset * 1000 ≤ ((examined .full (at_ 75000) 500 0).windowed 0 (at_ 75000)).delivered + 20 * 1000 ∧
    10 * 1000 ≤ ((examined .lowStart (at_ 5000) 500 0).windowed 0 (at_ 5000)).delivered ∧
    ((examined .lowStart (at_ 4999) 500 0).windowed 0 (at_ 4999)).delivered < 10 * 1000 ∧
    5000 * 1000 ≤ ((examined .full { at_ 4995000 with preset := 6000 } 500 0).windowed 0
      { at_ 4995000 with preset := 6000 }).gross := by decide +kernel

theorem witness_FlowExamined_slack :
    ((examined .full (at_ 20000) 0 0).meter 0).n = 0 ∧
    ((examined .full (at_ 20000) 0 0).arm 0).noFlow + 250 < 20 * 1000 ∧
    20 * 1000 ≤ ({ (examined .full (at_ 20000) 0 0).arm 0 with noFlow := 19750 } : Arm).noFlow + 250 := by decide +kernel

theorem witness_FlowExamined_doses :
    ((demanding .full .injecting { dose with action := .continueUntreated }).response .dose
      (some { dose with action := .continueUntreated }.action) = .report ∧
      (demanding .full .injecting dose).response .dose (some dose.action) = .stopArm) ∧
    ((at_ 9999).gross < dose.nextDue ∧ dose.nextDue ≤ (at_ 10000).gross) ∧
    (∀ d ∈ [dose], 0 < d.interval) ∧
    (noisy .full).pulses 0 = true ∧ (noisy .full).reported 0 ((noisy .full).meter 0).unauth := by
  unfold State.reported; decide +kernel

theorem witness_FlowExamined_undue :
    noneDue { at_ 0 with doses := [dose] } 9999 ∧ noneDue { at_ 10000 with doses := [dose] } 10000 ∧
    ¬ noneDue { at_ 0 with doses := [dose] } 10000 := by
  unfold noneDue; decide +kernel

theorem witness_FlowExamined_stopping :
    (((examined .suspended batch 0 1).arm 0).state = .suspended ∧ 1 ≤ ((examined .suspended batch 0 1).arm 0).zeroCloses) ∧
    0 < ((examined .suspended batch 1 0).meter 0).n ∧
    (((examined .stopping batch 1 1).arm 0).state = .stopping ∧ 0 < ((examined .stopping batch 1 1).meter 0).n) ∧
    ((examined .stopping batch 0 0).arm 0).zeroCloses = 0 ∧
    (1 ≤ ((examined .stopping batch 0 1).arm 0).zeroCloses ∧
      ((examined .stopping batch 0 1).armEntry 0).maxOverrun = 10 ∧
      ((examined .stopping batch 0 1).session.record.map Session.closing) = some none) ∧
    10 * 1000 < ({ at_ 10001 with atStopping := some 0 } : Batch).delivered - 0 ∧
    (∀ j : Fin 4, j ≠ 0 → ((examined .stopping batch 0 1).arm j).state = .idle) := by decide +kernel

theorem witness_FactorBounds :
    (curve.map CurvePoint.q).Pairwise (· < ·) ∧ (∀ p ∈ curve, 99910 ≤ p.f ∧ p.f ≤ 100120) ∧
    (-4000 : Int) ≤ -4000 ∧ (7000 : Int) ≤ 7000 ∧ (20000 : Nat) ≤ 20000 := by decide +kernel

theorem witness_TempSample :
    bay.live = true ∧ bay.holds 11 2 .tempXmtr ∧ (bay.device 2).arm = some 0 ∧ (bay.armEntry 0).station = some 2 ∧
    (bay.holds 12 4 .tempXmtr ∧ (bay.device 4).arm = some 1 ∧ (bay.armEntry 1).station ≠ some 4) := by
  unfold State.holds; decide +kernel

/-- R69: the ends of the clamp. -/
theorem test_temp_clamp :
    ([0xF060, 0xF05F, 0x1B58, 0x1B59].map fun t : BitVec 16 =>
      (((after (.temp 11 t 1) bay).vol 0).temp.t, ((after (.temp 11 t 1) bay).vol 0).temp.clamped)) =
      [(-4000, false), (-4000, true), (7000, false), (7000, true)] := by decide +kernel

/-- The timers of arm 0's temperature. -/
def sampled (stale lost : Option Nat) : State := bay.setVol 0 { bay.vol 0 with staleTimer := stale, lostTimer := lost }

theorem witness_TempTimers :
    bay.live = true ∧ ((sampled (some 1) none).vol 0).staleTimer.isSome = true ∧
    ((sampled none none).vol 0).staleTimer = none ∧
    (((sampled none (some 1)).vol 0).lostTimer.isSome = true ∧ ((sampled none (some 1)).policy .tempLost).mode = .report) ∧
    ((sampled none none).vol 0).lostTimer = none := by decide +kernel

/-- The fields of a setup of arm 0 for compartment 1, product 1. -/
def setupPayload (arm preset : Nat) : List Byte := be 1 arm ++ be 1 1 ++ be 1 1 ++ be 3 preset ++ be 1 255

theorem witness_BatchSetup :
    (loading.hearing = true ∧ (setupPayload 0 100).length = 7 ∧ 4 ≤ field (setupPayload 4 100) 0 1 ∧
      setupFields (setupPayload 0 1000000) = none) ∧
    (setupFields (setupPayload 0 100) = some ⟨0, some 1, 100, none⟩ ∧ finOf 4 (field (setupPayload 0 100) 0 1) = some 0 ∧
      loading.setupCheck 0 ⟨0, some 1, 100, none⟩ = .ok ⟨1, 100⟩ ∧
      loading.setupCheck 0 ⟨0, some 1, 99, none⟩ = .error .belowMinimum ∧
      loading.setupCheck 1 ⟨0, some 1, 100, none⟩ = .error .armDisabled) ∧
    (loading.live = true ∧ loading.holds 21 3 .keypad ∧ (999999 : BitVec 24).toNat ≤ 999999 ∧
      4 ≤ (4 : Byte).toNat ∧ keySetupFields 0 1 100 255 = .error .compartmentUnknown ∧
      finOf 4 (0 : Byte).toNat = some 0 ∧ keySetupFields 1 1 100 255 = .ok ⟨0, some 1, 100, none⟩) := by
  unfold State.holds; decide +kernel

/-- The fields of a setup of a compartment with a product. -/
def asks (c : Fin 8) (g : Option (Fin 16)) (v : Nat) : SetupFields := ⟨c, g, v, none⟩

/-- The loading session with arm 0's entry changed. -/
def fitted (f : ArmEntry → ArmEntry) : State :=
  { loading with tables := { loading.tables with arms := table [f (loading.armEntry 0)] } }

theorem witness_BatchSetup_checks :
    (((onArm .ready batch).arm 0).state ≠ .idle ∧ (bay.arm 0).state = .idle ∧ bay.bayState ≠ .session) ∧
    (loading.session.record = some session ∧ session.closing = none ∧ (loading.armEntry 1).enabled = false) ∧
    ((loading.setFault .valve ⟨some .stopArm, 1, none, none, none, 1, 1, false⟩).armLatched 0 = true ∧
      loading.armLatched 0 = false ∧ (loading.armEntry 0).enabled = true) ∧
    16 ≤ (List.replicate 16 line).length + (armIxs.filter fun j => j != 0 && (loading.arm j).state != .idle).length ∧
    ((loading.vehicle 0).compartments[(7 : Fin 8).val]? = none ∧
      (loading.vehicle 0).compartments[(0 : Fin 8).val]? = some ⟨5000, some 1⟩) ∧
    ((Vec.get (Vec.set session.claims 0 (some 3)) 0).isSome = true ∧ Vec.get session.claims 0 = none) ∧
    loading.productOf 0 session (some 1) = .ok 1 ∧
    ({ loading with tables := { loading.tables with compat := ⟨Vector.replicate 16 0, false⟩ } } : State).compatible
      (some 1) 1 = false ∧
    (loading.compatible (some 1) 1 = true ∧
      presetRule 100 5000 loading.bay.minBatch loading.bay.maxBatch (loading.remainingQuota session) = .ok 100 ∧
      presetRule 99 5000 loading.bay.minBatch loading.bay.maxBatch (loading.remainingQuota session) =
        .error .belowMinimum) := by decide +kernel

theorem witness_BatchSetup_product :
    ((loading.product 5).code = 0 ∧ (loading.armEntry 0).products.getLsbD 1 = true ∧ (loading.product 1).code ≠ 0) ∧
    loading.productOf 0 { session with permit := some 1, products := 0 } (some 1) = .ok 1 ∧
    (fitted fun e => { e with products := 2 }).productOf 0 session none = .ok 1 ∧
    (∀ q : Fin 16, ((fitted fun e => { e with products := 2 }).armEntry 0).products.getLsbD q.val = true ↔ q = 1) ∧
    (¬∃ p : Fin 16, ∀ q : Fin 16, (loading.armEntry 0).products.getLsbD q.val = true ↔ q = p) ∧
    (({ session with source := .server } : Session).source = .server ∧ session.source = .local_ ∧
      session.permit = some 0) ∧ loading.tables.compat.damaged = false := by decide +kernel

/-- The session with a READY batch, a FRESH temperature on arm 0, and injector 0 in a state. -/
def startable (recipe : Option (Fin 16)) (inj : InjState) (waiting : List (Fin 4)) : State :=
  let s := (onArm .ready { batch with recipe := recipe }).setVol 0
    { bay.vol 0 with temp := { (bay.vol 0).temp with state := .fresh } }
  let s := s.setInj 0 { s.inj 0 with state := inj }
  { s with additive := { s.additive with waiting := waiting } }

theorem witness_BatchStart :
    ((startable none .free []).live = true ∧ (startable none .free []).hearing = true ∧ 4 ≤ (4 : Byte).toNat ∧
      (3 : Byte).toNat = (3 : Fin 4).val ∧ ((startable none .free []).arm 3).state ≠ .ready) ∧
    ((onArm .ready batch).startRefusal 0 = some .tempMissing ∧ ((onArm .ready batch).arm 0).batch = some batch) ∧
    ((startable (some 1) .free []).startRefusal 0 = none ∧
      (startable (some 1) .free []).evaluate 0 (some 1) = .refused .recipeUnavailable) ∧
    ((startable (some 0) .claimedIdle [1, 2, 3]).evaluate 0 (some 0) = .wait ∧
      3 ≤ (startable (some 0) .claimedIdle [1, 2, 3]).additive.waiting.length) ∧
    ((startable (some 0) .claimedIdle [1, 2]).startRefusal 0 = none ∧
      (startable (some 0) .claimedIdle [1, 2]).evaluate 0 (some 0) = .wait ∧
      (startable (some 0) .claimedIdle [1, 2]).additive.waiting.length < 3) ∧
    ((startable (some 0) .free []).startRefusal 0 = none ∧ (startable (some 0) .free []).evaluate 0 (some 0) = .granted ∧
      (startable (some 0) .free []).anyFlowing = false) ∧
    (startable none .free []).holds 21 3 .keypad := by
  unfold State.holds; decide +kernel

/-- The bay with a recipe at index 0. -/
def mixing (d : List Dose) : State := { bay with tables := { bay.tables with recipes := table [⟨d, 5, .stopArm⟩] } }

theorem witness_BatchStart_checks :
    (bay.setFault .valve ⟨some .stopArm, 1, none, none, none, 1, 1, false⟩).armLatched 0 = true ∧
    (bay.armLatched 0 = false ∧ (State.reset.input .overfill).level = false ∧ (bay.input .ground).level = true ∧
      (bay.input .overfill).level = true ∧ (bay.input .estop).level = true) ∧
    (bay.recipe 5).doses = [] ∧
    ((mixing [⟨1, 250⟩, ⟨2, 250⟩]).recipe 0).doses = [⟨1, 250⟩] ++ ⟨2, 250⟩ :: [] ∧
    (∀ x ∈ [(⟨1, 250⟩ : Dose)], ∃ j, (mixing [⟨1, 250⟩, ⟨2, 250⟩]).suits 0 x j = true) ∧
    (∀ j, (mixing [⟨1, 250⟩, ⟨2, 250⟩]).serves 0 ⟨2, 250⟩ j = false) ∧
    ((∃ j, bay.serves 0 ⟨1, 5000⟩ j = true) ∧ ∀ j, bay.suits 0 ⟨1, 5000⟩ j = false) ∧
    ((bay.recipe 0).doses ≠ [] ∧ ∀ d ∈ (bay.recipe 0).doses, ∃ j, bay.suits 0 d j = true) ∧
    ((bay.recipe 0).doses.map Dose.code).Nodup := by decide +kernel

theorem witness_BatchStop :
    (loading.live = true ∧ loading.hearing = true ∧ 4 ≤ (4 : Byte).toNat ∧ (0 : Byte).toNat = (0 : Fin 4).val ∧
      (loading.arm 0).state = .idle) ∧ ((onArm .waitInjector batch).arm 0).state ≠ .idle ∧
    loading.holds 21 3 .keypad := by
  unfold State.holds; decide +kernel

theorem witness_BatchSuspend :
    (flowing.live = true ∧ flowing.hearing = true ∧ 4 ≤ (4 : Byte).toNat ∧ (0 : Byte).toNat = (0 : Fin 4).val ∧
      (flowing.arm 0).state.flowing = true ∧ (flowing.arm 0).batch = some batch) ∧
    ((onArm .suspended batch).arm 0).state = .suspended ∧
    (((onArm .ready batch).arm 0).state.flowing = false ∧ ((onArm .ready batch).arm 0).state ≠ .suspended) ∧
    flowing.holds 21 3 .keypad := by
  unfold State.holds; decide +kernel

theorem witness_BatchResume :
    ((onArm .suspended batch).live = true ∧ (onArm .suspended batch).hearing = true ∧ 4 ≤ (4 : Byte).toNat ∧
      (0 : Byte).toNat = (0 : Fin 4).val ∧ ((onArm .suspended batch).arm 0).state = .suspended ∧
      (onArm .suspended batch).bayState = .session ∧ (onArm .suspended batch).permitted = true ∧
      (onArm .suspended batch).safety.deadman.expired = false ∧ (onArm .suspended batch).anyFlowing = false) ∧
    (loading.arm 0).state ≠ .suspended ∧
    ((onArm .suspended batch).setInput .overfill ⟨false, false, none, 0⟩).permitted = false ∧
    ((onArm .suspended batch).setDeadman { Deadman.powerOn with expired := true }).safety.deadman.expired = true ∧
    (onArm .suspended batch).holds 21 3 .keypad := by
  unfold State.holds; decide +kernel

/-- An arm whose stop timer runs. -/
def stopping (st : ArmState) : State := (onArm st batch).setArm 0 { (onArm st batch).arm 0 with stopTimer := some 0 }

/-- A STOPPING arm whose batch was COMPLETE and has run on by `g` mL; its stop timer runs. -/
def overrunning (g : Nat) : State :=
  let s := onArm .stopping { batch with gross := g, atStopping := some 0, endReason := some .complete }
  s.setArm 0 { s.arm 0 with stopTimer := some 0 }

theorem witness_StopTimers :
    ((stopping .suspended).live = true ∧ ((stopping .suspended).policy .valve).mode = .stopBay ∧
      ((stopping .suspended).arm 0).state = .suspended ∧ ((stopping .suspended).arm 0).stopTimer.isSome = true ∧
      (stopping .suspended).bayState = .session) ∧
    (((stopping .stopping).arm 0).state = .stopping ∧ ((stopping .stopping).arm 0).stopTimer.isSome = true ∧
      (stopping .stopping).bayState = .session) ∧
    ¬(((onArm .suspended batch).arm 0).state = .suspended ∧ ((onArm .suspended batch).arm 0).stopTimer.isSome = true) ∧
    ((closing.setArm 0 { closing.arm 0 with stopTimer := some 0 }).session.record =
        some { session with closing := some .abort } ∧
      ((closing.setArm 0 { closing.arm 0 with stopTimer := some 0 }).arm 0).state = .stopping ∧
      ∀ j : Fin 4, j ≠ 0 → (closing.arm j).state = .idle) ∧
    (((overrunning 10000).arm 0).batch = some { batch with gross := 10000, atStopping := some 0, endReason := some .complete } ∧
      ((overrunning 10000).armEntry 0).maxOverrun * 1000 = 10000 ∧
      ((overrunning 10001).armEntry 0).maxOverrun * 1000 < 10001 ∧
      ((overrunning 10001).policy .overrun).mode ≠ .stopBay) := by
  decide +kernel

/-- R104, R106, R135: the timeout of a STOPPING arm ends a batch that was COMPLETE with FAULT. -/
theorem test_stopping_timeout_ends_fault :
    ((after (.stoppingTimeout 0) (overrunning 10000)).custody.places.map fun p =>
      p.note.map fun n => n.lines.map BatchLine.endReason) = [some [.fault]] := by decide +kernel

theorem witness_BatchEndEffects :
    ((metered .stopping).canonical = true ∧ ((metered .stopping).arm 0).batch = some batch ∧ batch.doses = [] ∧
      (metered .stopping).session.record = some session ∧ session.source = .local_ ∧ session.permit = some 0 ∧
      (tabGet emptyPermit (metered .stopping).tables.permits 0).damaged = false ∧ batch.gross = 0) ∧
    (0 < ({ batch with gross := 1 } : Batch).gross ∧
      (tabGet emptyVehicle bay.tables.vehicles session.vehicle).damaged = false) ∧
    (dosing.canonical = true ∧ (dosing.arm 0).batch = some { batch with doses := [dose] } ∧
      (([dose].map DoseRec.injector).Nodup) ∧ dosing.additive.waiting = [] ∧ dosing.session.record = some session ∧
      (dosing.inj dose.injector).claimant = some 0 ∧ (dosing.inj dose.injector).owner = some (0, 0)) ∧
    ((1 : Fin 6) ∉ [dose].map DoseRec.injector ∧ ({ session with source := .server } : Session).source = .server) := by
  decide +kernel

theorem witness_PresetRule :
    presetRule 100 500 100 40000 none = .ok 100 ∧ presetRule 99 500 100 40000 none = .error .belowMinimum ∧
    presetRule 99 500 100 40000 (some 99) = .error .quotaExhausted ∧ (-1 : Int) < 0 := by decide +kernel

/-- Injector 0. -/
def injecting (x : Injector) : State := bay.setInj 0 { x with ppl := 2000000, stroke := 50 }

theorem witness_FeedbackPulse :
    (bay.live = true ∧ ((injecting (bay.inj 0)).inj 0).windowOpen = false) ∧
    (((injecting { bay.inj 0 with windowOpen := true }).inj 0).windowOpen = true ∧
      ((injecting { bay.inj 0 with windowOpen := true }).inj 0).open_ = false ∧
      ((injecting { bay.inj 0 with windowOpen := true }).inj 0).owner = none) ∧
    (((injecting { bay.inj 0 with windowOpen := true, open_ := true, measured := 44 }).inj 0).measured +
        (10000000 + 0) / 2000000 < 50) ∧
    ((dosing.inj 0).windowOpen = true ∧ (dosing.inj 0).open_ = true ∧
      (10000000 + (dosing.inj 0).remainder) / (dosing.inj 0).ppl = 5 ∧ (dosing.inj 0).stroke ≤ (dosing.inj 0).measured + 5 ∧
      (dosing.inj 0).owner = some (0, 0) ∧ dosing.dose 0 0 = some dose ∧ dose.owed = 0 ∧
      (dosing.arm 0).state.running = true) ∧
    ((dosing.inj 0).ppl ≠ 0 ∧
      ((bay.setInj 0 { bay.inj 0 with windowOpen := true, ppl := 0 }).inj 0).windowOpen = true) := by decide +kernel

theorem witness_FeedbackPulse_closes :
    (((injecting { bay.inj 0 with windowOpen := true, open_ := true, measured := 45 }).inj 0).stroke ≤ 45 + 5 ∧
      ((injecting { bay.inj 0 with windowOpen := true, open_ := true, measured := 45 }).inj 0).owner = none) ∧
    (dose.injector = 0 ∧ dose.owed = 0 ∧ (dosing.arm 0).state ≠ .stopping) ∧
    ((demanding .full .injecting { dose with owed := 1 }).dose 0 0 = some { dose with owed := 1 } ∧
      0 < ({ dose with owed := 1 } : DoseRec).owed) ∧
    ((demanding .full .injecting { dose with claimLost := true }).dose 0 0 = some { dose with claimLost := true } ∧
      dose.done < 5) := by decide +kernel

/-- A dose five injections on, of a batch of 100 L that expects 250 mL of it. -/
def checked (measured out : Nat) : State :=
  onArm .full { batch with
    gross := 100000, doses := [{ dose with done := 5, measured := measured, outCount := out }] }

theorem witness_FeedbackPulse_check :
    ((checked 250 0).dose 0 0 = some { dose with done := 5, measured := 250, outCount := 0 } ∧
      100000 * dose.rate / 100000 = 250) ∧
    (-5 ≤ (((237 : Int) - 250) * 100).tdiv 250 ∧ (((262 : Int) - 250) * 100).tdiv 250 ≤ 5) ∧
    ((((235 : Int) - 250) * 100).tdiv 250 < -5 ∧ 5 < (((265 : Int) - 250) * 100).tdiv 250) ∧
    ((checked 265 2).dose 0 0 = some { dose with done := 5, measured := 265, outCount := 2 } ∧
      ((checked 265 2).arm 0).batch.map Batch.gross = some 100000) := by decide +kernel

theorem witness_InjectionTimeout :
    (bay.live = true ∧ bay.canonical = true ∧ (bay.inj 0).timer = none ∧ (bay.inj 0).windowTimer = none ∧
      bay.additive.waiting = []) ∧
    (((injecting { bay.inj 0 with timer := some 0, measured := 24, misses := 1 }).inj 0).timer.isSome = true ∧
      ((injecting { bay.inj 0 with timer := some 0, measured := 24, misses := 1 }).inj 0).owner = none ∧
      2 = (if 2 * 24 < 50 then min 3 (1 + 1) else 0)) ∧
    0 = (if 2 * ((injecting { bay.inj 0 with timer := some 0, measured := 25 }).inj 0).measured < 50
      then min 3 (0 + 1) else 0) ∧
    (((injecting { bay.inj 0 with timer := some 0, measured := 24, misses := 2 }).inj 0).misses = 2 ∧
      (bay.policy .injector).mode = .report) ∧
    ((dosing.inj 0).timer.isSome = true ∧ (dosing.inj 0).owner = some (0, 0) ∧ dosing.dose 0 0 = some dose ∧
      dose.injector = 0 ∧ dose.owed = 0) ∧
    ((demanding .full .injecting { dose with owed := 2 }).dose 0 0 = some { dose with owed := 2 } ∧
      ((demanding .full .injecting { dose with owed := 2 }).arm 0).state ≠ .stopping) ∧
    ((dosing.setInj 0 { dosing.inj 0 with measured := 0, misses := 2 }).inj 0).owner = some (0, 0) ∧
    ((injecting { bay.inj 0 with windowTimer := some 0 }).inj 0).windowTimer.isSome = true := by decide +kernel

/-- R41, R124: a third miss under STOP_BAY takes the injector out of service, latches INJECTOR and stops its arm. -/
theorem test_third_miss_stops :
    let s := dosing.setInj 0 { dosing.inj 0 with measured := 0, misses := 2 }
    let p := Vec.set s.tables.policies (faultCode .injector) ⟨⟨.stopBay, false⟩, false⟩
    let u := after (.injectionTimeout 0) { s with tables := { s.tables with policies := p } }
    ((u.injEntry 0).inService, (u.fault .injector).latch, (u.arm 0).state) = (false, some .stopBay, .stopping) := by
  decide +kernel

/-- Arm 0 waiting, its injector in a state. -/
def awaiting (recipe : Option (Fin 16)) (inj : InjState) (fresh : Bool) : State :=
  let s := startable recipe inj [0]
  let s := s.setArm 0 { s.arm 0 with state := .waitInjector }
  if fresh then s else s.setVol 0 (bay.vol 0)

theorem witness_InjectionTimeout_scan :
    ((awaiting (some 0) .claimedIdle true).additive.waiting = 0 :: [] ∧
      ((awaiting (some 0) .claimedIdle true).arm 0).state = .waitInjector ∧
      ((awaiting (some 0) .claimedIdle true).arm 0).batch = some { batch with recipe := some 0 } ∧
      (awaiting (some 0) .claimedIdle true).evaluate 0 (some 0) = .wait) ∧
    (awaiting (some 1) .free true).evaluate 0 (some 1) = .refused .recipeUnavailable ∧
    ((awaiting (some 0) .free false).evaluate 0 (some 0) = .granted ∧
      (awaiting (some 0) .free false).startRefusal 0 = some .tempMissing) ∧
    ((awaiting (some 0) .free true).evaluate 0 (some 0) = .granted ∧
      (awaiting (some 0) .free true).startRefusal 0 = none) ∧
    ((dosing.arm 0).batch = some { batch with doses := [dose] } ∧ (dosing.policy .dose).mode = .recipe ∧
      dose.action = .stopArm ∧ ({ dose with action := .continueUntreated } : DoseRec).action = .continueUntreated ∧
      (dosing.arm 0).state.flowing = true) := by decide +kernel

/-- A note queue with one READY note of 193 bytes and one DAMAGED note. -/
def noted : State :=
  { bay with custody := { bay.custody with
      places := [⟨1, .ready, none, List.replicate 193 0, false, false⟩, ⟨2, .damaged, none, [0], true, false⟩] } }

theorem witness_NoteRequests :
    (noted.hearing = true ∧ ∀ f ∈ ([⟨.placeList false, .clean⟩] : List Finding), f.ecc = .clean) ∧
    ((be 4 3 ++ be 1 0).length = 5 ∧ noted.linkFrame.findNote (field (be 4 3 ++ be 1 0) 0 4) = none) ∧
    ((noted.linkFrame.findNote (field (be 4 1 ++ be 1 2) 0 4)).map (fun x => (x.form.length + 191) / 192) = some 2 ∧
      field (be 4 1 ++ be 1 2) 4 1 = 2 ∧ field (be 4 1 ++ be 1 1) 4 1 = 1) ∧
    ((be 4 2).length = 4 ∧ (noted.linkFrame.findNote (field (be 4 2) 0 4)).isSome = true) ∧
    (loading.linkFrame.session.record = some session ∧ (⟨1, .reserved, none, [], false, false⟩ : Place).state = .reserved ∧
      PlaceState.ready ≠ .reserved ∧ (⟨1, .ready, some (loading.noteOf session .abort), [], false, false⟩ : Place).note =
        some (loading.noteOf session .abort)) := by decide +kernel

/-- R140, Table 10-2: a RESERVED place is listed with the number of the open session, here rewritten to 9. -/
theorem test_reserved_place_listed :
    (({ loading with session := { loading.session with record := some { session with number := 9 } } } : State).noteList
      []).2.data = [1, 1, 0, 0, 0, 9, 0, 0] := by decide +kernel

theorem witness_NoteSerialForm : segmentCount (List.replicate 192 0) = 1 ∧ segmentCount (List.replicate 193 0) = 2 := by
  decide +kernel

/-- The clock has passed midnight and the rollover is owed. -/
def overnight : State := { bay with custody := { bay.custody with clock := 86405, midnight := true } }

theorem witness_BayClock :
    (bay.hearing = true ∧ bay.canonical = true ∧ (be 5 5662310400).length = 5 ∧ 5662310399 < field (be 5 5662310400) 0 5 ∧
      field (be 5 5662310399) 0 5 ≤ 5662310399 ∧ loading.session.record.isSome = true ∧ bay.session.record = none ∧
      bay.custody.clock / 86400 < field (be 5 86400) 0 5 / 86400 ∧
      field (be 5 86399) 0 5 / 86400 ≤ bay.custody.clock / 86400) ∧
    (bay.custody.midnight = false ∧ (bay.custody.clock / 86400 + 1) * 86400 ≤ 5662310399) ∧
    (overnight.custody.midnight = true ∧ overnight.hearing = true ∧ overnight.session.record = none ∧
      field (be 5 86400) 0 5 / 86400 ≤ overnight.custody.clock / 86400 ∧
      overnight.custody.clock / 86400 < field (be 5 172800) 0 5 / 86400) ∧
    5662310399 < (({ bay with custody := { bay.custody with clock := 5662310399 } } : State).custody.clock / 86400 + 1) *
      86400 := by decide +kernel

/-- R20, R184: a CLOCK_SET within the new day makes the rollover still owed. -/
theorem test_clockSet_owed :
    ((after (.clockSet 9 (be 5 86400)) overnight).session.quotaDay,
      (after (.clockSet 9 (be 5 86400)) overnight).custody.midnight,
      (after (.clockSet 9 (be 5 86400)) overnight).custody.clock) = (1, false, 86400) := by decide +kernel

/-- The temperature transmitter 11 belongs to a busy arm. -/
def busy : State := { onArm .ready batch with dport := bay.dport }

/-- A permit of card 3. -/
def permitBytes : List Byte := encodePermit ⟨3, .active, 1, 1, 0, 0, 0, [], 0⟩

theorem witness_TableWritten :
    (bay.hearing = true ∧ bay.canonical = true ∧ tableWriteLength (be 1 10 ++ be 2 0 ++ [0]) = true ∧
      10 ≤ field (be 1 10 ++ be 2 0 ++ [0]) 0 1) ∧
    (tableWriteLength (entry .permit 512 permitBytes) = true ∧ tableOf (field (entry .permit 512 permitBytes) 0 1) =
      some .permit ∧ tableSize .permit ≤ field (entry .permit 512 permitBytes) 1 2) ∧
    (field (entry .permit 511 permitBytes) 1 2 = 511 ∧ decodePermit (List.replicate 36 255) = none) ∧
    (decodePermit ((entry .permit 1 permitBytes).drop 3) = some ⟨3, .active, 1, 1, 0, 0, 0, [], 0⟩ ∧
      tabOther (fun x => x.card == 3) bay.tables.permits 1 = false ∧
      tabOther (fun x => x.card == 2) bay.tables.permits 0 = true) ∧
    (loading.session.record = some session ∧ session.permit = some 0 ∧
      session.card ≠ field (entry .permit 0 permitBytes) 3 5) ∧
    (decodeVehicle (encodeVehicle ⟨9, .active, 0, [⟨500, none⟩]⟩) = some ⟨9, .active, 0, [⟨500, none⟩]⟩ ∧
      tabOther (fun x => x.tag == 9) bay.tables.vehicles 1 = false ∧ session.vehicle ≠ 1) ∧
    tableOf (field (entry .compat 0 (List.replicate 32 0)) 0 1) = some .compat ∧
    (decodeArm (encodeArm (bay.armEntry 0)) = some (bay.armEntry 0) ∧ (bay.arm 0).state = .idle ∧
      (bay.meter 0).running = false ∧ ((noisy .idle).meter 0).running = true ∧
      ((onArm .ready batch).arm 0).state ≠ .idle) ∧
    (decodeInjector (encodeInjector (bay.injEntry 0)) = some (bay.injEntry 0) ∧ (bay.inj 0).state = .free ∧
      ((injecting { bay.inj 0 with state := .injecting }).inj 0).state ≠ .free) ∧
    decodePolicy .injector (encodePolicy ⟨.report, true⟩) = some ⟨.report, true⟩ ∧
    (decodeBay (encodeBay defaultBay) = some defaultBay ∧ loading.session.record.isSome = true ∧
      bay.session.record = none) := by decide +kernel

theorem witness_TableWritten_in_use :
    (decodeVehicle (List.replicate 36 255) = none ∧ tabOther (fun x => x.tag == 8) bay.tables.vehicles 0 = true ∧
      session.vehicle = 0) ∧
    (decodeProduct (encodeProduct ⟨13, 9000, none⟩) = some ⟨13, 9000, none⟩ ∧
      decodeProduct (List.replicate 12 255) = none ∧ tabOther (fun y => y.code == 13) bay.tables.products 1 = false ∧
      tabOther (fun y => y.code == 10) bay.tables.products 1 = true ∧
      (∃ k b, ((onArm .ready batch).arm k).batch = some b ∧ b.product = 1) ∧ ∀ k, (bay.arm k).batch = none) ∧
    (decodeRecipe (encodeRecipe (bay.recipe 0)) = some (bay.recipe 0) ∧ decodeRecipe (List.replicate 11 255) = none ∧
      ∃ k b, ((onArm .ready { batch with recipe := some 0 }).arm k).batch = some b ∧ b.recipe = some 0) ∧
    (decodeInjector (List.replicate 12 255) = none ∧ decodeArm (List.replicate 45 255) = none ∧
      decodePolicy .estop (List.replicate 2 255) = none ∧ decodeBay (List.replicate 30 255) = none) ∧
    (decodeDevice (encodeDevice ⟨9, some .keypad, none, true⟩) = some ⟨9, some .keypad, none, true⟩ ∧
      decodeDevice (List.replicate 4 255) = none ∧ tabOther (fun y => y.address == 2) bay.tables.devices 5 = true ∧
      tabOther (fun y => y.address == 9) bay.tables.devices 5 = false ∧
      tabOther (fun y => y.role == some Role.cardReader && y.address != 0) bay.tables.devices 5 = true ∧
      (bay.device 5).role ≠ some .tempXmtr) ∧
    ((busy.device 2).role = some .tempXmtr ∧ (busy.device 2).arm = some 0 ∧ (busy.arm 0).state ≠ .idle) := by
  refine ⟨by decide +kernel, ⟨by decide +kernel, by decide +kernel, by decide +kernel, by decide +kernel,
    ⟨0, batch, rfl, rfl⟩, by decide +kernel⟩, ⟨by decide +kernel, by decide +kernel, 0, _, rfl, rfl⟩, by decide +kernel,
    by decide +kernel, by decide +kernel⟩

/-- R3: the compartment count of a VEHICLE entry is 1 to 8, tag 0 or not. -/
theorem test_vehicle_count :
    (decodeVehicle (be 4 9 ++ [0] ++ be 2 0 ++ [0] ++ List.replicate 24 0), decodeVehicle (List.replicate 32 0)) =
      (none, none) := by decide +kernel

/-- The bay with permit entry 0 DAMAGED. -/
def damaged : State :=
  { bay with tables := { bay.tables with permits := tabSet emptyPermit bay.tables.permits 0 ⟨bay.permit 0, true⟩ } }

theorem witness_TableRead :
    (bay.hearing = true ∧ (be 1 10 ++ be 2 0).length = 3 ∧ 10 ≤ field (be 1 10 ++ be 2 0) 0 1) ∧
    (tableOf (field (be 1 0 ++ be 2 512) 0 1) = some .permit ∧ tableSize .permit ≤ field (be 1 0 ++ be 2 512) 1 2) ∧
    (field (be 1 0 ++ be 2 511) 1 2 < tableSize .permit ∧ damaged.linkFrame.tables.damaged .permit 0 = true ∧
      bay.linkFrame.tables.damaged .permit 511 = false) := by decide +kernel

theorem witness_TableClear :
    (bay.hearing = true ∧ 10 ≤ (10 : Byte).toNat ∧ tableOf (9 : Byte).toNat = some .bay ∧
      loading.clearInUse .bay = true ∧ bay.clearInUse .bay = false ∧ bay.clearInUse .device = false ∧
      bay.clearInUse .arm = false ∧ bay.clearInUse .injector = false ∧ bay.additive.waiting = []) ∧
    ((awaiting (some 0) .free true).hearing = true ∧ (awaiting (some 0) .free true).clearInUse .injector = false ∧
      (awaiting (some 0) .free true).additive.waiting = [0] ∧
      ((awaiting (some 0) .free true).arm 0).state = .waitInjector ∧
      (((awaiting (some 0) .free true).arm 0).batch.map Batch.recipe) = some (some 0)) ∧
    (loading.clearInUse .permit = true ∧ loading.clearInUse .vehicle = true ∧
      (onArm .ready batch).clearInUse .product = true ∧ (onArm .ready batch).clearInUse .recipe = false ∧
      (onArm .ready { batch with recipe := some 0 }).clearInUse .recipe = true ∧ dosing.clearInUse .injector = true ∧
      (onArm .ready batch).clearInUse .arm = true ∧ busy.clearInUse .device = true) := by decide +kernel

theorem witness_EntryRoundTrip :
    decodePermit permitBytes = some ⟨3, .active, 1, 1, 0, 0, 0, [], 0⟩ ∧
    (decodeVehicle (encodeVehicle (bay.vehicle 0)) = some (bay.vehicle 0) ∧ (bay.vehicle 0).tag ≠ 0 ∧
      (decodeVehicle (be 4 0 ++ [0] ++ be 2 0 ++ [1] ++ be 2 500 ++ [255] ++ List.replicate 21 0)) =
        some emptyVehicle) ∧
    decodeProduct (encodeProduct (bay.product 2)) = some (bay.product 2) ∧
    decodeRecipe (encodeRecipe (bay.recipe 0)) = some (bay.recipe 0) ∧
    decodeInjector (encodeInjector (bay.injEntry 0)) = some (bay.injEntry 0) ∧
    decodeArm (encodeArm (bay.armEntry 0)) = some (bay.armEntry 0) ∧
    decodeDevice (encodeDevice (bay.device 2)) = some (bay.device 2) ∧
    decodePolicy .estop (encodePolicy (defaultPolicy .estop)) = some (defaultPolicy .estop) ∧
    decodeBay (encodeBay defaultBay) = some defaultBay := by decide +kernel

theorem witness_StatusRead :
    bay.hearing = true ∧ 8 ≤ (8 : Byte).toNat ∧ (7 : Byte).toNat < 8 ∧ (3 : Byte).toNat = 3 ∧ 4 ≤ (4 : Byte).toNat ∧
    (3 : Byte).toNat < 4 := by decide +kernel

theorem witness_CounterRead :
    bay.hearing = true ∧ 7 ≤ (7 : Byte).toNat ∧ 2 ≤ (2 : Byte).toNat ∧ (6 : Byte).toNat < 7 ∧ (1 : Byte).toNat < 2 := by
  decide +kernel

theorem witness_ServiceFlag :
    (bay.hearing = true ∧ 2 ≤ (2 : Byte).toNat ∧ loading.session.record.isSome = true ∧ bay.session.record = none ∧
      bay.session.presentation = none ∧ presented.session.presentation = some ⟨1, 7, 0, 0, 10000⟩ ∧
      presented.session.record = none) ∧
    (bay.live = true ∧ bay.uport.inHand = none ∧ (be 5 86400).length = 5 ∧
      ¬((0x16 : Byte) = 0x15 ∧ ([1] : List Byte).length = 5) ∧ ¬((0x16 : Byte) = 0x16 ∧ ([1] : List Byte) = [0])) ∧
    ((bay.reply 1 1 taken).uport.inHand.isSome = true ∧ (bay.reply 1 1 taken).ude = false ∧
      (replying .sending 4).ude = true) := by decide +kernel

/-- Relays waiting below. -/
def relaying (l : List Relay) : State := { bay with dport := { bay.dport with relayDown := l } }

theorem witness_RelayTaken :
    (bay.hearing = true ∧ (List.replicate 48 (0 : Byte)).length ≤ 48 ∧ bay.findDevice 9 = none) ∧
    (busy.findDevice 11 = some 2 ∧ (busy.device 2).role = some .tempXmtr ∧ (busy.device 2).arm = some 0 ∧
      (busy.arm 0).state ≠ .idle) ∧
    ((bay.device 2).arm = some 0 ∧ (bay.arm 0).state = .idle ∧ (bay.device 3).role ≠ some .tempXmtr) ∧
    4 ≤ (relaying (List.replicate 4 ⟨21, 1, []⟩)).dport.relayDown.length ∧
    (relaying (List.replicate 3 ⟨21, 1, []⟩)).dport.relayDown.length < 4 := by decide +kernel

theorem witness_RequestChecks :
    asRequest (.deny 1 []) = some (0x02, 1, false) ∧ bay.live = true ∧ bay.uport.inHand = none ∧
    ((bay.reply 1 1 taken).uport.inHand.isSome = true ∧ (bay.reply 1 1 taken).ude = false ∧
      (replying .sending 4).live = true ∧ (replying .sending 4).ude = true) ∧
    ({ bay with uport := { bay.uport with address := 31 } } : State).uport.address = 31 ∧ bay.hearing = true ∧
    (List.replicate 240 (0 : Byte)).length ≤ 240 ∧ bay.uport.link = .standalone ∧ online.uport.link = .online := by
  decide +kernel

/-- R164: a frame to the own address makes the link ONLINE, and restarts the timer of 30 s. -/
theorem test_link_frame : ((after (.deny 1 []) bay).uport.link, (after (.deny 1 []) bay).uport.silence) =
    (.online, some (1000 * bay.bay.linkSilence)) := by decide +kernel

/-- Events held, and lost. -/
def heard (n lost : Nat) : State :=
  { bay with uport := { bay.uport with events := List.replicate n ⟨.retentionLost, 0⟩, lost := lost } }

theorem witness_ReplySlots : (accept 0 (List.replicate 232 0)).data.length ≤ 232 ∧
    min 3 ((236 - (accept 0 (List.replicate 12 0)).data.length) / 56) = 3 ∧
    (bay.reply 1 1 taken).uport.inHand.map Reply.slots = some [] ∧
    (bay.uport.events.length < 32 ∧ 32 ≤ (heard 32 255).uport.events.length) := by decide +kernel

/-- R161: with 32 events held the next is lost, and the lost count stops at 255. -/
theorem test_event_lost : (((heard 32 255).raise .retentionLost).uport.lost,
    ((heard 32 254).raise .retentionLost).uport.lost) = (255, 255) := by decide +kernel

/-- The link silence timer runs. -/
def silent (s : State) (l : Link) : State := { s with uport := { s.uport with silence := some 0, link := l } }

theorem witness_ReplyEndAndLinkLoss :
    (bay.live = true ∧ bay.hearing = true ∧ (bay.reply 1 1 taken).uport.inHand.isSome = true ∧
      bay.uport.inHand = none ∧ bay.uport.silence = none) ∧
    ((silent bay .standalone).uport.silence.isSome = true ∧ (silent bay .online).uport.link = .online ∧
      (silent bay .online).session.presentation = none) ∧
    ((silent presented .online).session.presentation = some ⟨1, 7, 0, 0, 10000⟩ ∧
      (silent presented .online).permitCheck 1 7 = .ok 0 ∧ (silent presented .online).canonical = true) ∧
    ((silent (presenting 2) .online).session.presentation = some ⟨2, 7, 0, 0, 10000⟩ ∧
      (silent (presenting 2) .online).permitCheck 2 7 = .error .permitSuspended) := by decide +kernel

/-- R158: the end of another reply leaves a RESET that is due. -/
theorem test_reset_stays_due :
    let s := bay.reply 1 1 taken
    (after .replyComplete { s with uport := { s.uport with resetDue := true } }).uport.resetDue = true := by decide +kernel

/-- A turn of the D line in a phase. -/
def turned (k : TurnKind) (a : Byte) (p : TurnPhase) : State :=
  { bay with dport := { bay.dport with turn := some ⟨k, a, 0, [], p, none⟩ } }

theorem witness_ReceiverErrors :
    bay.live = true ∧ ((bay.reply 1 1 taken).uport.inHand.isSome = true ∧ (bay.reply 1 1 taken).ude = false) ∧
    (replying .sending 4).ude = true ∧ (bay.uport.inHand = none ∧ bay.ude = false) ∧
    (turned .poll 2 .sending).dde = true ∧ bay.dde = false ∧
    ((turned .poll 2 .waiting).dde = false ∧
      (turned .poll 2 .waiting).dport.turn = some ⟨.poll, 2, 0, [], .waiting, none⟩ ∧
      TurnPhase.waiting ≠ .overdue) := by decide +kernel

/-- The round stands at station 0. -/
def polling (v : List Verdict) (l : List Relay) (passed : Bool) : State :=
  { bay with
    dport := { bay.dport with
      cursor := some 0, relayDown := l, passed := passed
      stations := Vec.set bay.dport.stations 0 { bay.station 0 with state := .online, verdicts := v } } }

/-- A frame of the D line is being received. -/
def receiving (s : State) : State := { s with dport := { s.dport with assembling := true } }

/-- Every station is OFFLINE in round 7, the cursor on one that a relay's miss took there. -/
def deserted (l : List Relay) : State :=
  { bay with
    dport := { bay.dport with
      cursor := some 0, round := 7, relayDown := l, stations := Vector.replicate 12 ⟨.offline, 3, [], 0⟩ } }

theorem witness_TurnsBegin :
    (bay.live = true ∧ (turned .poll 2 .waiting).dport.turn.isSome = true ∧
      (receiving (polling [] [] false)).dport.assembling = true ∧ (polling [] [] false).dport.assembling = false) ∧
    ((polling [.accept] [] false).dport.turn = none ∧ (polling [.accept] [] false).dport.cursor = some 0 ∧
      (polling [.accept] [] false).inRound (polling [.accept] [] false).dport.round 0 = true ∧
      ((polling [.accept] [] false).station 0).verdicts ≠ []) ∧
    (((polling [] [] false).station 0).verdicts = [] ∧ (polling [] [] false).relayReady = false ∧
      (polling [] [⟨21, 1, []⟩] true).dport.passed = true) ∧
    ((polling [] [⟨21, 1, []⟩] false).dport.relayDown = ⟨21, 1, []⟩ :: [] ∧
      (polling [] [⟨21, 1, []⟩] false).uport.relayUp.length < 8 ∧
      (polling [] [⟨21, 1, []⟩] false).dport.passed = false ∧
      (polling [] [⟨21, 1, []⟩] false).findDevice 21 = some 3 ∧
      (polling [] [⟨21, 1, []⟩] false).lockedEntry ((polling [] [⟨21, 1, []⟩] false).device 3) = false) ∧
    (polling [] [⟨9, 1, []⟩] false).findDevice 9 = none ∧
    (busy.findDevice 11 = some 2 ∧ busy.lockedEntry (busy.device 2) = true) ∧
    ((∀ j, (deserted []).inRound (deserted []).dport.round j = false) ∧ (deserted []).relayReady = false) ∧
    ((∀ j, (deserted [⟨21, 1, []⟩]).inRound (deserted [⟨21, 1, []⟩]).dport.round j = false) ∧
      (deserted [⟨21, 1, []⟩]).dport.turn = none ∧ (deserted [⟨21, 1, []⟩]).dport.assembling = false) ∧
    (turned .poll 2 .sending).dport.turn = some ⟨.poll, 2, 0, [], .sending, none⟩ := by decide +kernel

/-- The cursor stands on an entry that was emptied, past every station of round 3, or nowhere. -/
def skipping (c : Option (Fin 12)) : State := { bay with dport := { bay.dport with cursor := c, round := 3 } }

theorem witness_TurnsBegin_settled :
    ((skipping (some 5)).live = true ∧ (skipping (some 5)).dport.turn = none ∧
      (skipping (some 5)).dport.assembling = false ∧ (skipping (some 5)).inRound 3 5 = false ∧
      (skipping (some 5)).inRound 3 0 = true ∧ (∀ i : Fin 12, 5 < i → (skipping (some 5)).inRound 3 i = false)) ∧
    ((skipping none).dport.cursor = none ∧ ∀ m : Fin 12, m < 0 → (skipping none).inRound 3 m = false) ∧
    ((skipping (some 5)).settleCursor.dport.cursor = some 0 ∧
      (skipping (some 5)).settleCursor.inRound (skipping (some 5)).settleCursor.dport.round 0 = true ∧
      ((skipping (some 5)).settleCursor.station 0).verdicts = []) := by decide +kernel

/-- R168: an emptied entry's turn is skipped; past the last entry the next round begins. -/
theorem test_skips_emptied : ((after .poll (skipping (some 5))).dport.turn.map Turn.address,
    (after .poll (skipping (some 5))).dport.round, (after .poll (skipping (some 5))).dport.cursor) =
      (some 2, 4, some 0) := by decide +kernel

/-- R155: no turn begins while a frame is being received. -/
theorem test_poll_waits : (after .poll (receiving (polling [] [] false))).dport.turn = none := by decide +kernel

/-- R168: with no station in round 7 the round does not pass to 0, and nothing is polled. -/
theorem test_round_stays :
    (after .poll (deserted [])).dport.turn = none ∧ (after .poll (deserted [])).dport.round = 7 := by decide +kernel

/-- A turn for the card reader, whose station stands in a state with a miss count. -/
def missing (k : TurnKind) (p : TurnPhase) (st : StationState) (n : Nat) : State :=
  (turned k 2 p).setStation 0 ⟨st, n, [.accept], 1⟩

theorem witness_TurnOutcomes :
    ((missing .verdict .waiting .offline 3).live = true ∧ (missing .verdict .waiting .offline 3).dport.turn =
        some ⟨.verdict, 2, 0, [], .waiting, none⟩ ∧ (missing .verdict .waiting .offline 3).findDevice 2 = some 0 ∧
      TurnPhase.waiting ≠ .sending ∧ TurnKind.verdict ≠ .relay) ∧
    ((missing .relay .overdue .silent 1).station 0).state ≠ .offline ∧
    ((missing .poll .waiting .silent 1).dport.assembling = false ∧
      (receiving (missing .poll .waiting .silent 1)).dport.assembling = true) ∧
    ((missing .poll .waiting .silent 1).station 0).misses < 2 ∧ 2 ≤ ((missing .poll .waiting .silent 2).station 0).misses ∧
    ((missing .poll .overdue .silent 1).dport.turn = some ⟨.poll, 2, 0, [], .overdue, none⟩ ∧
      TurnPhase.overdue ≠ .waiting) ∧
    ((turned .poll 9 .waiting).live = true ∧ (turned .poll 9 .waiting).findDevice 9 = none ∧
      (turned .poll 9 .waiting).dport.assembling = false) ∧
    ((bay.device 1).role = some .tagReader ∧ (bay.device 3).role = some .keypad) := by decide +kernel

/-- The card reader's poll waits, the cursor at an entry, in a round. -/
def rounding (c : Fin 12) (r : Nat) : State :=
  { missing .poll .waiting .silent 0 with
    dport := { (missing .poll .waiting .silent 0).dport with cursor := some c, round := r } }

theorem witness_TurnOutcomes_cursor :
    ((rounding 0 7).dport.cursor = some 0 ∧ (after (.stationResponse 2 0x48 [0]) (rounding 0 7)).inRound 7 1 = true ∧
      ∀ j : Fin 12, 0 < j → j < 1 → (after (.stationResponse 2 0x48 [0]) (rounding 0 7)).inRound 7 j = false) ∧
    (∀ i : Fin 12, 4 < i → (after (.stationResponse 2 0x48 [0]) (rounding 4 7)).inRound 7 i = false) ∧
    (after (.stationResponse 2 0x48 [0]) (rounding 4 7)).inRound 0 0 = true := by decide +kernel

/-- R168, R169: the end of a poll moves the cursor to the next station, and from the last one into round 0. -/
theorem test_cursor_moves :
    let f := fun (s : State) => (s.dport.cursor, s.dport.round)
    (f (after (.stationResponse 2 0x48 [0]) (rounding 0 7)), f (after (.dResponseTimeout false) (rounding 4 7))) =
      ((some 1, 7), (some 0, 0)) := by decide +kernel

theorem witness_WrongRoleCounted :
    (bay.live = true ∧ (bay.findDevice 2 = some 0 ∧ (bay.device 0).role ≠ some .keypad) ∧ bay.findDevice 9 = none ∧
      2 ≤ (2 : Byte).toNat ∧ 999999 < (1000000 : BitVec 24).toNat) ∧
    ((turned .poll 2 .waiting).live = true ∧
      (turned .poll 2 .waiting).dport.turn = some ⟨.poll, 2, 0, [], .waiting, none⟩ ∧ TurnPhase.waiting ≠ .sending ∧
      TurnKind.poll ≠ .relay ∧ ((turned .poll 2 .waiting).findDevice 2).isSome = true) ∧
    ((0x49 : Byte) ≠ 0x48 ∧ ([1, 2] : List Byte).length ∉ [1, 4, 5, 6, 9] ∧ 5 ≤ field [5] 0 1) ∧
    ((3 : Byte) ≠ 2 ∧ (turned .poll 9 .waiting).findDevice 9 = none) ∧
    (bay.uport.relayUp.length < 8 ∧ 8 ≤ full.uport.relayUp.length) := by decide +kernel

/-- R171, R195: a CARD record carried by a response reaches the session unit. -/
theorem test_routed_card :
    (after (.stationResponse 2 0x48 (cardRecord 1)) (turned .poll 2 .waiting)).session.record.map Session.card =
      some 1 := by decide +kernel

/-- R166, R169: an address that no entry holds any more leaves the turn waiting. -/
theorem test_emptied_entry :
    (after (.stationResponse 9 0x48 [0]) (turned .poll 9 .waiting)).dport.turn =
      some ⟨.poll, 9, 0, [], .waiting, none⟩ := by decide +kernel

theorem witness_BayReset :
    bay.live = true ∧ ({ bay with pins := { bay.pins with brst := true } } : State).pins.brst = true ∧
    bay.pins.brst = false ∧ bay.uport.resetDue = false ∧
    ({ bay with uport := { bay.uport with resetDue := true } } : State).uport.resetDue = true ∧
    (bay.armEntry 0).enabled = true ∧ (bay.session.record = none ∧ ∀ k, (bay.arm k).state = .idle) ∧
    (dosing.live = true ∧ dosing.session.record = some session ∧ dosing.canonical = true ∧
      dosing.runningBatches = [(0, { batch with doses := [dose] })] ∧
      ∀ k, ((dosing.arm k).batch.map fun b => (b.doses.map DoseRec.injector).dedup) =
        (dosing.arm k).batch.map fun b => b.doses.map DoseRec.injector) := by decide +kernel

/-- A part that lost its supply on the day before, a batch flowing. -/
def lost : State :=
  { onArm .full { batch with phase := .started } with
    powered := false, custody := { loading.custody with clock := 86400 }
    retention := { bay.retention with marker := true } }

theorem witness_SupplyLossAndStart :
    (bay.live = true ∧ bay.canonical = true ∧ bay.custody.midnight = false ∧ overnight.live = true ∧
      overnight.canonical = true ∧ overnight.custody.midnight = true) ∧
    (State.reset.retention.marker = true ∧ bay.session.record = none ∧
      bay.custody.clock / 86400 = bay.session.quotaDay) ∧
    ({ bay with retention := { bay.retention with marker := false } } : State).retention.marker = false ∧
    (lost.retention.marker = true ∧ lost.canonical = true ∧ lost.custody.midnight = false ∧
      lost.session.record = some session ∧ session.closed = false ∧ lost.startedBatches.length = 1 ∧
      (lost.custody.clock / 86400 ≠ lost.session.quotaDay ∧ bay.strikes (.bayClock 5) = true ∧
        bay.strikes (.noteWord 0 0 []) = false)) := by
  decide +kernel

/-- R168: the cursor of a bay reset stands at the first station of the directory. -/
theorem test_reset_cursor : (after (.bayReset .pin) bay).dport.cursor = some 0 := by decide +kernel

theorem witness_ScrubVisit :
    (bay.live = true ∧ bay.canonical = true ∧ (511 : Nat) < tableSize .permit ∧
      bay.tables.damaged .permit 511 = false ∧ TableId.permit ≠ .bay ∧ damaged.tables.damaged .permit 0 = true ∧
      bay.tables.bay.damaged = false) ∧
    (loading.session.record.isSome = true ∧ bay.session.record = none ∧ bay.session.presentation = none ∧
      (bay.policy .retention).mode = .stopBay ∧ bay.strikes .quotaDay = true ∧
      bay.strikes (.tableEntry .bay 0) = true ∧
      loading.strikes (.sessionRecord ⟨session, Vector.replicate 4 none⟩) = true ∧
      bay.strikes (.sessionRecord ⟨session, Vector.replicate 4 none⟩) = true) ∧
    (presented.live = true ∧ presented.session.record = none ∧ (presented.policy .retention).mode = .stopBay ∧
      presented.session.presentation.isSome = true) ∧
    ((noted.custody.places[0]?.map fun p => (p.state, p.form.length)) = some (.ready, 193) ∧
      (noted.custody.places[0]?.map Place.state) ≠ some .reserved ∧ 192 + [(1 : Byte)].length ≤ 193 ∧
      (loading.custody.places[0]?.map Place.state) = some .reserved) ∧
    (Vec.get (Vec.set (Vector.replicate 4 (none : Option Batch)) 0 (some batch)) 0 = some batch ∧
      ((onArm .full batch).arm 0).batch = some batch ∧ (loading.arm 0).batch = none) := by decide +kernel

/-- Table 9-7: an error in the session record's words raises RETENTION, also where no session record exists (log 70). -/
theorem test_session_words :
    let u := bay.uncorrectable false (.sessionRecord ⟨session, Vector.replicate 4 none⟩)
    (u.bayState, u.session.record, (u.fault .retention).count) = (.faulted, none, 1) := by decide +kernel

/-- R144, R196: an error in one word of a note leaves the bytes of its other words. -/
theorem test_note_word :
    ((noted.uncorrectable false (.noteWord 0 192 [7])).custody.places[0]?.map fun p =>
      (p.state, p.form == List.replicate 192 0 ++ [7], p.headerBad, p.bodyBad)) =
      some (.damaged, true, false, true) := by decide +kernel

/-- R145: a rebuilt queue stands in order of note number. -/
theorem test_rebuilt_order :
    ((({ noted with custody := { noted.custody with places :=
        [⟨5, .ready, none, [], false, false⟩, ⟨2, .damaged, none, [], false, true⟩] } } : State).rebuildPlaces).custody.places.map
      Place.number) = [2, 5] := by decide +kernel

/-- R188: what a command's blocks read is met before it acts. -/
theorem test_reads_met :
    (after .poll { bay with retention := { bay.retention with reads := [⟨.quotaDay, .single⟩] } }).retention.correctable =
      1 := by decide +kernel

end Sys2Proof.Tests
end

section
/-! SUPPORT and proofs. CLEAR_FAULT: a request at a part that hears it, what a taken clear does to each block, and when
the bay leaves FAULTED (R43). -/

namespace Sys2Proof.Machine

/-! ### Requests -/

/-- No error waiting in the words it reads and no request in hand, a part with an address takes a request of the right
length to its owner, after the frame is taken (R157, R158). -/
theorem whenPowered_request_of_hearing (s : State) (h : s.hearing = true) (kind tag : Byte)
    (owner : State → State × Answer) :
    whenPowered (fun t => t.request kind tag true owner) s =
      .next ((owner s.linkFrame).1.reply kind tag (owner s.linkFrame).2) := by
  simp only [State.hearing, State.live, Bool.and_eq_true, List.isEmpty_iff, Option.isNone_iff_eq_none] at h
  obtain ⟨⟨⟨powered, noReads⟩, noneInHand⟩, addressed⟩ := h
  simp [whenPowered, powered, s.meet_of_live noReads, State.request, State.ude, noneInHand, addressed]

/-- A one-byte payload is the value of its byte. -/
theorem field_singleton (b : Byte) : field [b] 0 1 = b.toNat := by simp [field, ofBe]

/-- CLEAR_FAULT at a part that hears it: the owner's answer in the one reply. -/
theorem exec_clearFault_of_hearing (s : State) (h : s.hearing = true) (tag b : Byte) :
    exec (.clearFault tag [b]) s =
      .next ((s.linkFrame.clearRequest [b]).1.reply 0x05 tag (s.linkFrame.clearRequest [b]).2) :=
  whenPowered_request_of_hearing s h 0x05 tag fun u => u.clearRequest [b]

/-! ### The owner's answers (R43) -/

theorem faultOf_eq_none_of_le {n : Nat} (h : 11 ≤ n) : faultOf n = none :=
  List.getElem?_eq_none h

theorem State.clearRequest_of_none (s : State) {b : Byte} (h : faultOf b.toNat = none) :
    s.clearRequest [b] = (s, deny .badValue) := by
  simp [clearRequest, field_singleton, h]

theorem State.clearRequest_of_some (s : State) {b : Byte} {c : FaultClass} (h : faultOf b.toNat = some c) :
    s.clearRequest [b] = if s.clearBlocked c then (s, deny .wrongState) else (s.clearFault c, taken) := by
  simp [clearRequest, field_singleton, h]

/-- The persisting condition reads the safety monitor and the meters alone. -/
theorem State.clearBlocked_congr {s t : State} (safety : t.safety = s.safety) (meters : t.meters = s.meters)
    (c : FaultClass) : t.clearBlocked c = s.clearBlocked c := by
  unfold clearBlocked namedFlow showsFlow State.fault State.input State.meter
  rw [safety, meters]

/-! ### Reads of the fault records (R9, R38) -/

theorem mem_faultClasses (c : FaultClass) : c ∈ faultClasses := by cases c <;> decide

theorem State.armLatched_iff (s : State) (k : Fin 4) :
    s.armLatched k = true ↔ ∃ d, (s.fault d).armsLatched.getLsbD k.val = true := by
  simp [armLatched, mem_faultClasses]

theorem State.stopBayLatched_iff (s : State) :
    s.stopBayLatched = true ↔ ∃ d, (s.fault d).latch = some .stopBay := by
  simp [stopBayLatched, mem_faultClasses]

/-- An open session alone decides the bay state (R9). -/
theorem State.bayState_eq_of_open {s t : State} (same : t.session = s.session) (h : s.session.record.isSome = true) :
    t.bayState = s.bayState := by
  obtain ⟨r, hr⟩ := Option.isSome_iff_exists.1 h
  simp [bayState, same, hr]

/-- With no session open, a class latched with STOP_BAY and the service flag decide the bay state (R9). -/
theorem State.bayState_of_none (s : State) (h : s.session.record = none) :
    s.bayState = if s.stopBayLatched then .faulted else if s.session.inService then .idle else .outOfService := by
  cases hi : s.session.inService <;> simp [bayState, h, hi]

/-! ### A raised event (R160) -/

/-- A raise touches the U port alone, and what it makes of the port follows from the port and the bay clock. -/
theorem State.raise_eq {s t : State} (uport : t.uport = s.uport) (custody : t.custody = s.custody)
    (e : Event) : t.raise e = { t with uport := (s.raise e).uport } := by
  rw [State.raise_uport, ← uport, ← custody]
  unfold State.raise
  split <;> rfl

/-! ### A clear that is taken (R43) -/

section
variable (s : State) (c : FaultClass)

/-- The class's record is emptied, the accumulators and their flags go with UNAUTH_FLOW alone, FAULT_CLEARED is
raised with the count the record held unless the class is masked, and nothing else changes. -/
theorem State.clearFault_eq : s.clearFault c =
    { s with
      safety := (s.setFault c FaultRec.empty).safety
      meters := if c = .unauthFlow then Vector.ofFn fun k => (s.meter k).clearUnauth else s.meters
      uport := (if (s.policy c).mask then s else s.raise (.faultCleared c (s.fault c).count)).uport } := by
  have cleared : (if c = .unauthFlow then (s.setFault c FaultRec.empty).withMeters
        (Vector.ofFn fun k => (Vec.get (s.setFault c FaultRec.empty).meters k).clearUnauth)
      else s.setFault c FaultRec.empty) =
    { s with
      safety := (s.setFault c FaultRec.empty).safety
      meters := if c = .unauthFlow then Vector.ofFn fun k => (s.meter k).clearUnauth else s.meters } := by
    split_ifs <;> rfl
  have policy_stands : ∀ v m, ({ s with safety := v, meters := m } : State).policy c = s.policy c := fun _ _ => rfl
  simp only [clearFault, cleared, policy_stands]
  split
  · rfl
  · exact State.raise_eq (s := s) (by rfl) (by rfl) _

theorem State.clearFault_fault (d : FaultClass) :
    (s.clearFault c).fault d = if d = c then FaultRec.empty else s.fault d := by
  rw [clearFault_eq]
  exact s.fault_setFault c d FaultRec.empty

theorem State.clearFault_meter (k : Fin 4) : (s.clearFault c).meter k =
    if c = .unauthFlow then { s.meter k with unauth := 0, unauthFlag := false } else s.meter k := by
  rw [clearFault_eq]
  split_ifs <;> simp [State.meter, Vec.get, Meter.clearUnauth, *]

/-- An arm stays latched exactly when another record latches it. -/
theorem State.clearFault_armLatched (k : Fin 4) : (s.clearFault c).armLatched k = true ↔
    ∃ d, d ≠ c ∧ (s.fault d).armsLatched.getLsbD k.val = true := by
  rw [armLatched_iff]
  refine exists_congr fun d => ?_
  by_cases hd : d = c <;> simp [clearFault_fault, hd, FaultRec.empty]

/-- A class is latched with STOP_BAY after the clear exactly when it is another one. -/
theorem State.clearFault_stopBayLatched : (s.clearFault c).stopBayLatched = true ↔
    ∃ d, d ≠ c ∧ (s.fault d).latch = some .stopBay := by
  rw [stopBayLatched_iff]
  refine exists_congr fun d => ?_
  by_cases hd : d = c <;> simp [clearFault_fault, hd, FaultRec.empty]

/-- With no session open, another class latched with STOP_BAY keeps the bay FAULTED (R9). -/
theorem State.clearFault_bayState_faulted (h : s.session.record = none)
    (latched : ∃ d, d ≠ c ∧ (s.fault d).latch = some .stopBay) : (s.clearFault c).bayState = .faulted := by
  have closed : (s.clearFault c).session.record = none := by simpa using h
  rw [State.bayState_of_none _ closed, if_pos ((s.clearFault_stopBayLatched c).2 latched)]

/-- With no session open and no other class latched with STOP_BAY, the service flag decides (R9). -/
theorem State.clearFault_bayState_free (h : s.session.record = none)
    (free : ∀ d, d ≠ c → (s.fault d).latch ≠ some .stopBay) :
    (s.clearFault c).bayState = if s.session.inService then .idle else .outOfService := by
  have closed : (s.clearFault c).session.record = none := by simpa using h
  have unlatched : ¬(s.clearFault c).stopBayLatched = true := fun latched =>
    let ⟨d, other, stopBay⟩ := (s.clearFault_stopBayLatched c).1 latched
    free d other stopBay
  rw [State.bayState_of_none _ closed, if_neg unlatched]
  simp

end

/-! ### The statement -/

/-- Settles O17: the owner's answers by the class and its persisting condition, then the taken clear block by block. The
frame itself touches the U port alone, so what the clear reads stands as it stood before it. -/
theorem faultCleared : Obligations.FaultCleared := by
  intro s tag b hearing
  obtain ⟨-, -, -, tables, session, safety, meters, -⟩ := s.linkFrame_frame
  have blocked := State.clearBlocked_congr safety meters
  have fault : s.linkFrame.fault = s.fault := by unfold State.fault; rw [safety]
  have meter : s.linkFrame.meter = s.meter := by unfold State.meter; rw [meters]
  have policy : s.linkFrame.policy = s.policy := by unfold State.policy; rw [tables]
  rw [exec_clearFault_of_hearing s hearing]
  refine ⟨fun unknown => ?_, fun c known => ⟨fun persists => ?_, fun gone => ?_⟩, rfl, ?_, ?_⟩
  · rw [State.clearRequest_of_none _ (faultOf_eq_none_of_le unknown)]
  · rw [State.clearRequest_of_some _ known, blocked, if_pos persists]
  · refine ⟨s.linkFrame.clearFault c, ?_, ?_, ?_, ?_, ?_, ?_, ?_, ?_, ?_, ?_⟩
    · rw [State.clearRequest_of_some _ known, blocked, gone]
      rfl
    · rw [State.clearFault_eq]
    · rw [State.clearFault_eq, State.setFault, ← safety]
      rfl
    · rw [State.clearFault_fault, if_pos rfl]
    · intro d other
      rw [State.clearFault_fault, if_neg other, fault]
    · intro k
      rw [State.clearFault_meter, meter]
    · rw [State.clearFault_eq, policy, fault]
    · intro k
      rw [State.clearFault_armLatched, fault]
    · exact State.bayState_eq_of_open (by simp)
    · rw [← session, ← fault]
      exact ⟨State.clearFault_bayState_faulted _ c, State.clearFault_bayState_free _ c⟩
  · rintro c (rfl | rfl) <;> rfl
  · intro c notEstop notValve notUnauth
    cases c with
    | estop => exact absurd rfl notEstop
    | valve => exact absurd rfl notValve
    | unauthFlow => exact absurd rfl notUnauth
    | _ => rfl

end Sys2Proof.Machine
end

section
/-! SUPPORT and proofs. BATCH_RESUME and the keypad's RESUME: a batch operation of either source on the arm it names
(R86, R171), what an arm's change of state does, and the resume itself (R101). -/

namespace Sys2Proof.Machine

/-! ### The arm an operation names (R86) -/

theorem finOf_of_le {m n : Nat} (h : m ≤ n) : finOf m n = none := dif_neg (Nat.not_lt.2 h)

theorem finOf_of_eq {m n : Nat} {k : Fin m} (h : n = k.val) : finOf m n = some k := by
  subst h
  exact dif_pos k.isLt

theorem State.armRequest_of_le (s : State) {b : Byte} (h : 4 ≤ b.toNat) (f : Fin 4 → State × OpResult) :
    s.armRequest [b] f = (s, deny .badValue) := by
  simp [armRequest, field_singleton, finOf_of_le h]

theorem State.armRequest_of_eq (s : State) {b : Byte} {k : Fin 4} (h : b.toNat = k.val)
    (f : Fin 4 → State × OpResult) : s.armRequest [b] f = ((f k).1, opAnswer (f k).2) := by
  simp [armRequest, field_singleton, finOf_of_eq h]

theorem State.keyOp_of_le (s : State) (a : Byte) {arm : Byte} (op : BatchOp) (h : 4 ≤ arm.toNat)
    (f : Fin 4 → State × OpResult) : s.keyOp a arm op f = s.tellResult a arm op (.refused .armDisabled) := by
  simp [keyOp, finOf_of_le h]

theorem State.keyOp_of_eq (s : State) (a : Byte) {arm : Byte} {k : Fin 4} (op : BatchOp) (h : arm.toNat = k.val)
    (f : Fin 4 → State × OpResult) : s.keyOp a arm op f = (f k).1.tellResult a arm op (f k).2 := by
  simp [keyOp, finOf_of_eq h]

/-! ### A station's record (R171) -/

/-- With no error waiting in the words it reads, a part that has its supply acts on a command as it stands (R188). -/
theorem whenPowered_of_live (s : State) (h : s.live = true) (f : State → State) : whenPowered f s = .next (f s) := by
  simp only [State.live, Bool.and_eq_true, List.isEmpty_iff] at h
  obtain ⟨powered, noReads⟩ := h
  rw [whenPowered, if_pos powered, s.meet_of_live noReads]

/-- A record of the station's own role in an accepted layout goes to its block, and upward with the forward flag. -/
theorem State.offer_of_holds (s : State) {a : Byte} {i : Fin 12} {role : Role} (h : s.holds a i role)
    (record : List Byte) (block : Fin 12 → State) :
    s.offer a role true record block = s.copied (block i) i a role record := by
  obtain ⟨found, hasRole⟩ := h
  simp [offer, found, hasRole, copied]

/-- A KEY record of an operation without fields, from a keypad of the directory. -/
theorem State.keyFrom_of_holds (s : State) {a : Byte} {i : Fin 12} (h : s.holds a i .keypad) (arm : Byte) (op : BatchOp)
    (f : State) : s.keyFrom a arm op [] f = s.copied f i a .keypad (keyRecord op arm 0 0 0 0) :=
  s.offer_of_holds h _ _

/-! ### The frame of a request leaves what an operation reads (R164) -/

section
variable (s : State)

@[simp] theorem State.linkFrame_arm (k : Fin 4) : s.linkFrame.arm k = s.arm k := by simp [arm]

@[simp] theorem State.linkFrame_bayState : s.linkFrame.bayState = s.bayState := by
  simp [bayState, stopBayLatched, fault]

@[simp] theorem State.linkFrame_permitted : s.linkFrame.permitted = s.permitted := by simp [permitted, input]

/-! ### An arm's change of state (R34, R84) -/

@[simp] theorem State.arm_raise (e : Event) (k : Fin 4) : (s.raise e).arm k = s.arm k := by simp [arm]

theorem State.setArm_setArm (k : Fin 4) (a b : Arm) : (s.setArm k a).setArm k b = s.setArm k b := by
  simp [setArm, withArms, Vec.set]

theorem State.anyFlowing_iff : s.anyFlowing = true ↔ ∃ k, (s.arm k).state.flowing = true := by
  have every : ∀ k, k ∈ armIxs := by decide
  simp [anyFlowing, every]

/-- A write of an arm that keeps whether it flows keeps whether any arm flows. -/
theorem State.anyFlowing_setArm (k : Fin 4) (a : Arm) (same : a.state.flowing = (s.arm k).state.flowing) :
    (s.setArm k a).anyFlowing = s.anyFlowing := by
  rw [Bool.eq_iff_iff, anyFlowing_iff, anyFlowing_iff]
  refine exists_congr fun j => ?_
  rw [arm_setArm]
  by_cases hj : j = k
  · simp [hj, same]
  · simp [hj]

theorem State.arm_moveArm (k j : Fin 4) (st : ArmState) :
    (s.moveArm k st).arm j = if j = k then { s.arm k with state := st } else s.arm j := by
  have settled : (s.moveArm k st).arms = (s.setArm k { s.arm k with state := st }).arms := by simp [moveArm]
  rw [arm, settled]
  exact s.arm_setArm k j _

/-- The first arm to flow starts the deadman timer afresh (R34). -/
theorem State.moveArm_deadman_of_first (k : Fin 4) (st : ArmState) (flows : st.flowing = true)
    (noneFlowing : s.anyFlowing = false) : (s.moveArm k st).safety.deadman.timer = s.deadmanRestart := by
  have first : (s.setArm k { s.arm k with state := st }).anyFlowing = true :=
    (State.anyFlowing_iff _).2 ⟨k, by simp [arm_setArm, flows]⟩
  simp only [moveArm, settleIdle_frame, settleDeadman, noneFlowing, first, Bool.not_false, Bool.and_self, if_true]
  rfl

/-! ### The resume (R101) -/

/-- The arm as a resume prepares it, before it moves to LOW_START. -/
def State.rearmed (s : State) (k : Fin 4) : Arm :=
  { s.arm k with
    noFlow := 0, stopTimer := none, zeroCloses := 0
    batch := (s.arm k).batch.map fun b => { b with cause := none } }

/-- A taken resume writes the arm, moves it to LOW_START and reports the cause it cleared. -/
theorem State.takeResume_eq (k : Fin 4) : s.takeResume k =
    ((s.setArm k (s.rearmed k)).moveArm k .lowStart).raise (.armResumed k ((s.arm k).batch.bind Batch.cause)) := by
  simp only [takeResume, updBatch, setArm_setArm, arm_setArm, if_true, rearmed]

theorem State.takeResume_resumes (k : Fin 4) : s.resumes (s.takeResume k) k := by
  have arms : ∀ j, (s.takeResume k).arm j = if j = k then { s.rearmed k with state := .lowStart } else s.arm j := by
    intro j
    rw [takeResume_eq, arm_raise, arm_moveArm, arm_setArm, arm_setArm, if_pos rfl]
    split_ifs <;> rfl
  constructor
  case arm => rw [arms, if_pos rfl, rearmed]
  case valve => rw [valve, arms, if_pos rfl]; rfl
  case others =>
    intro j other
    rw [arms, if_neg other]
  case event =>
    rw [takeResume_eq, raise_uport, raise_uport]
    simp
  case deadman =>
    intro noneFlowing
    have still : (s.setArm k (s.rearmed k)).anyFlowing = false :=
      (s.anyFlowing_setArm k (s.rearmed k) rfl).trans noneFlowing
    simp only [takeResume_eq, raise_frame]
    exact State.moveArm_deadman_of_first _ k .lowStart rfl still
  case stands => simp

theorem State.resume_notNow (k : Fin 4) (h : (s.arm k).state ≠ .suspended ∨ s.bayState ≠ .session) :
    s.resume k = (s, .notNow) := by
  rw [resume, if_pos h]

theorem State.resume_permissiveOpen (k : Fin 4) (suspended : (s.arm k).state = .suspended)
    (session : s.bayState = .session) (h : s.permitted = false ∨ s.safety.deadman.expired = true) :
    s.resume k = (s, .refused .permissiveOpen) := by
  rw [resume, if_neg (by simp [suspended, session]), if_pos (by simpa using h)]

theorem State.resume_taken (k : Fin 4) (suspended : (s.arm k).state = .suspended) (session : s.bayState = .session)
    (permitted : s.permitted = true) (unexpired : s.safety.deadman.expired = false) :
    s.resume k = (s.takeResume k, .accepted) := by
  rw [resume, if_neg (by simp [suspended, session]), if_neg (by simp [permitted, unexpired])]

end

/-! ### The statement -/

/-- BATCH_RESUME at a part that hears it: the operation's answer in the one reply. -/
theorem exec_batchResume_of_hearing (s : State) (h : s.hearing = true) (tag b : Byte) :
    exec (.batchResume tag [b]) s = .next
      ((s.linkFrame.armRequest [b] s.linkFrame.resume).1.reply 0x0B tag
        (s.linkFrame.armRequest [b] s.linkFrame.resume).2) :=
  whenPowered_request_of_hearing s h 0x0B tag fun u => u.armRequest [b] u.resume

/-- RESUME from a keypad of the directory: the operation told to it, and the record copied upward. -/
theorem exec_keyResume_of_holds (s : State) (live : s.live = true) {a : Byte} {i : Fin 12}
    (station : s.holds a i .keypad) (arm : Byte) : exec (.keyResume a arm) s =
      .next (s.copied (s.keyOp a arm .resume s.resume) i a .keypad (keyRecord .resume arm 0 0 0 0)) := by
  change execKeyResume a arm s = _
  rw [execKeyResume, whenPowered_of_live s live, s.keyFrom_of_holds station, State.keyResume]

/-- Settles O34: each source hands the arm it names to the one operation of R101, whose three outcomes it answers in its
own form. The frame of a request touches the U port alone, so the operation reads what stood before it. -/
theorem batchResume : Obligations.BatchResume := by
  intro s k live
  refine ⟨fun tag b hearing outside => ?_, fun tag b hearing named => ?_, fun a arm i station outside => ?_,
    fun a arm i station named => ?_⟩
  · rw [exec_batchResume_of_hearing s hearing, State.armRequest_of_le _ outside]
  · rw [exec_batchResume_of_hearing s hearing, State.armRequest_of_eq _ named]
    refine ⟨fun wrong => ?_, fun suspended session unpermitted => ?_, fun suspended session permitted unexpired =>
      ⟨s.linkFrame.takeResume k, ?_, State.takeResume_resumes _ k⟩⟩
    · rw [State.resume_notNow _ k (by simpa using wrong), opAnswer]
    · rw [State.resume_permissiveOpen _ k (by simpa using suspended) (by simpa using session)
        (by simpa using unpermitted), opAnswer]
    · rw [State.resume_taken _ k (by simpa using suspended) (by simpa using session) (by simpa using permitted)
        (by simpa using unexpired), opAnswer]
  · rw [exec_keyResume_of_holds s live station, State.keyOp_of_le _ _ _ outside, State.tellResult]
  · rw [exec_keyResume_of_holds s live station, State.keyOp_of_eq _ _ _ named]
    refine ⟨fun wrong => ?_, fun suspended session unpermitted => ?_, fun suspended session permitted unexpired =>
      ⟨s.takeResume k, ?_, s.takeResume_resumes k⟩⟩
    · rw [s.resume_notNow k wrong, State.tellResult]
    · rw [s.resume_permissiveOpen k suspended session unpermitted, State.tellResult]
    · rw [s.resume_taken k suspended session permitted unexpired, State.tellResult]

end Sys2Proof.Machine
end

section
/-! SUPPORT and proofs. The slots of a reply (R161 to R163): what a class holds and gives, the run of draws that fills the
slots, and the reply's bytes (R159, R194). -/

namespace Sys2Proof.Machine

/-! ### The classes -/

@[simp] theorem otherClass_otherClass (c : SlotClass) : otherClass (otherClass c) = c := by cases c <;> rfl

@[simp] theorem otherClass_ne (c : SlotClass) : otherClass c ≠ c := by cases c <;> decide

/-! ### What a class holds (R161, R162) -/

/-- What a relay place gives for a slot: a reserved one gives nothing. -/
def RelayPlace.given : RelayPlace → Option SlotRec
  | .filled r => some (.relay r)
  | .reserved _ _ => none

theorem UPort.stock_relay (u : UPort) (clock : Nat) :
    u.stock clock .relay = u.relayUp.filterMap RelayPlace.given := rfl

theorem firstFilled_eq_none_iff (l : List RelayPlace) :
    firstFilled l = none ↔ l.filterMap RelayPlace.given = [] := by
  induction l with
  | nil => simp [firstFilled]
  | cons p l ih => cases p <;> simp [firstFilled, RelayPlace.given, ih]

theorem UPort.stock_relay_eq_nil_iff (u : UPort) (clock : Nat) :
    u.stock clock .relay = [] ↔ firstFilled u.relayUp = none := by
  rw [stock_relay, firstFilled_eq_none_iff]

theorem filterMap_given_of_firstFilled {l : List RelayPlace} {r : RelayRec} (h : firstFilled l = some r) :
    l.filterMap RelayPlace.given = .relay r :: (dropFilled l).filterMap RelayPlace.given := by
  induction l with
  | nil => simp [firstFilled] at h
  | cons p l ih =>
    cases p with
    | reserved t a => exact ih h
    | filled x =>
      obtain rfl : x = r := Option.some.inj h
      rfl

theorem dropFilled_sublist (l : List RelayPlace) : (dropFilled l).Sublist l := by
  induction l with
  | nil => simp [dropFilled]
  | cons p l ih => cases p <;> simp [dropFilled, ih]

theorem reserved_mem_dropFilled (t a : Byte) (l : List RelayPlace) :
    .reserved t a ∈ dropFilled l ↔ .reserved t a ∈ l := by
  induction l with
  | nil => simp [dropFilled]
  | cons p l ih => cases p <;> simp [dropFilled, ih]

theorem UPort.stock_event_eq_nil_iff (u : UPort) (clock : Nat) : u.stock clock .event = [] ↔ u.events = [] := by
  simp +contextual [stock]

/-- The head of the events leaves, and the LOST record that joins at once is the last of the class's stock. -/
theorem UPort.stock_event_of_cons {u : UPort} {e : EventRec} {l : List EventRec} (h : u.events = e :: l) (clock : Nat) :
    u.stock clock .event = .event e :: (u.popEvent clock).stock clock .event := by
  unfold popEvent
  split <;> rename_i hl <;> simp [stock, h, hl]

/-! ### What giving a record does to the port -/

/-- Nothing of the port changes but its queues, and of the relay-up queue neither the reserved places nor the order
(R161, R162). -/
structure UPort.queuesOnly (u v : UPort) : Prop where
  places : ∀ t a, .reserved t a ∈ v.relayUp ↔ .reserved t a ∈ u.relayUp
  order : v.relayUp.Sublist u.relayUp
  stands : v = { u with events := v.events, lost := v.lost, relayUp := v.relayUp }

theorem UPort.queuesOnly.refl (u : UPort) : u.queuesOnly u := ⟨fun _ _ => Iff.rfl, .refl _, rfl⟩

theorem UPort.queuesOnly.trans {u v w : UPort} (h : u.queuesOnly v) (k : v.queuesOnly w) : u.queuesOnly w where
  places t a := (k.places t a).trans (h.places t a)
  order := k.order.trans h.order
  stands := by rw [k.stands, h.stands]

/-- Class `c` gives its oldest record `r`, from port `u` to port `v`. -/
structure UPort.gives (u v : UPort) (clock : Nat) (c : SlotClass) (r : SlotRec) : Prop where
  stock : u.stock clock c = r :: v.stock clock c
  other : ∀ d, d ≠ c → v.stock clock d = u.stock clock d
  events : c ≠ .event → v.events = u.events
  lost : v.lost = if c = .event then 0 else u.lost
  queuesOnly : u.queuesOnly v

theorem UPort.take_eq_none_iff (u : UPort) (clock : Nat) (c : SlotClass) :
    u.take clock c = none ↔ u.stock clock c = [] := by
  cases c with
  | event =>
    rw [stock_event_eq_nil_iff]
    cases h : u.events <;> simp [take, h]
  | relay =>
    rw [stock_relay_eq_nil_iff]
    cases h : firstFilled u.relayUp <;> simp [take, h]

theorem UPort.popEvent_gives {u : UPort} {e : EventRec} {l : List EventRec} (h : u.events = e :: l) (clock : Nat) :
    u.gives (u.popEvent clock) clock .event (.event e) := by
  have relayUp : (u.popEvent clock).relayUp = u.relayUp := by unfold popEvent; split <;> rfl
  refine ⟨stock_event_of_cons h clock, ?other, (absurd rfl ·), ?lost, ?_, ?_, ?stands⟩
  case other =>
    intro d notEvent
    cases d with
    | event => exact absurd rfl notEvent
    | relay => rw [stock_relay, stock_relay, relayUp]
  case lost =>
    unfold popEvent
    split
    · rfl
    · exact Nat.eq_zero_of_not_pos ‹_›
  case stands => unfold popEvent; split <;> rfl
  · simp [relayUp]
  · simp [relayUp]

theorem UPort.dropFilled_gives {u : UPort} {r : RelayRec} (h : firstFilled u.relayUp = some r) (clock : Nat) :
    u.gives { u with relayUp := dropFilled u.relayUp } clock .relay (.relay r) where
  stock := by rw [stock_relay, stock_relay, filterMap_given_of_firstFilled h]
  other d notRelay := by
    cases d with
    | event => rfl
    | relay => exact absurd rfl notRelay
  events _ := rfl
  lost := rfl
  queuesOnly := ⟨fun t a => reserved_mem_dropFilled t a u.relayUp, dropFilled_sublist u.relayUp, rfl⟩

theorem UPort.gives_of_take {u v : UPort} {clock : Nat} {c : SlotClass} {r : SlotRec}
    (h : u.take clock c = some (v, r)) : u.gives v clock c r := by
  cases c with
  | event =>
    cases queue : u.events with
    | nil => simp [take, queue] at h
    | cons e l =>
      simp only [take, queue, Option.some.injEq, Prod.mk.injEq] at h
      obtain ⟨rfl, rfl⟩ := h
      exact popEvent_gives queue clock
  | relay =>
    cases filled : firstFilled u.relayUp with
    | none => simp [take, filled] at h
    | some x =>
      simp only [take, filled, Option.some.injEq, Prod.mk.injEq] at h
      obtain ⟨rfl, rfl⟩ := h
      exact dropFilled_gives filled clock

theorem UPort.gives.stock_drop {u v : UPort} {clock : Nat} {c : SlotClass} {r : SlotRec} (h : u.gives v clock c r)
    (d : SlotClass) : v.stock clock d = (u.stock clock d).drop ([c].count d) := by
  by_cases same : d = c
  · subst same
    simp [h.stock]
  · simp [h.other d same, Ne.symm same]

/-! ### One slot (R163) -/

/-- The class a slot goes to: the wanted one when it holds a record, and otherwise the other. -/
def UPort.chosen (u : UPort) (clock : Nat) (want : SlotClass) : SlotClass :=
  if u.stock clock want ≠ [] then want else otherClass want

theorem UPort.takeSlot_eq_none {u : UPort} {clock : Nat} {want : SlotClass} (h : u.takeSlot clock want = none)
    (c : SlotClass) : u.stock clock c = [] := by
  rw [takeSlot] at h
  split at h
  · simp at h
  · rename_i wanted
    split at h
    · simp at h
    · rename_i other
      rw [take_eq_none_iff] at wanted other
      cases c <;> cases want <;> assumption

theorem UPort.takeSlot_eq_some {u v : UPort} {clock : Nat} {want c : SlotClass} {r : SlotRec}
    (h : u.takeSlot clock want = some (v, r, c)) : c = u.chosen clock want ∧ u.gives v clock c r := by
  rw [takeSlot] at h
  split at h
  · rename_i wanted
    simp only [Option.some.injEq, Prod.mk.injEq] at h
    obtain ⟨rfl, rfl, rfl⟩ := h
    have given := gives_of_take wanted
    exact ⟨by simp [chosen, given.stock], given⟩
  · rename_i wanted
    rw [take_eq_none_iff] at wanted
    split at h
    · rename_i other
      simp only [Option.some.injEq, Prod.mk.injEq] at h
      obtain ⟨rfl, rfl, rfl⟩ := h
      exact ⟨by simp [chosen, wanted], gives_of_take other⟩
    · simp at h

/-! ### The slots of a reply -/

/-- A run of draws, from port `u` to port `v`: the classes and their records, the first slot wanted by `want` and each
later one by the class that did not take the one before. -/
inductive UPort.draws (clock : Nat) : UPort → SlotClass → List SlotClass → List SlotRec → UPort → Prop
  | nil (u : UPort) (want : SlotClass) : draws clock u want [] [] u
  | cons {u v w : UPort} {want c : SlotClass} {r : SlotRec} {cs : List SlotClass} {rs : List SlotRec} :
      c = u.chosen clock want → u.gives v clock c r → draws clock v (otherClass c) cs rs w →
        draws clock u want (c :: cs) (r :: rs) w

/-- The fill is such a run, of `n` slots at most; it ends before them only where neither class holds a record. -/
theorem UPort.fill_draws (clock n : Nat) (want : SlotClass) (u : UPort) :
    (∃ cs, draws clock u want cs (fill clock n want u).2 (fill clock n want u).1) ∧
      (fill clock n want u).2.length ≤ n ∧
      ((fill clock n want u).2.length < n → ∀ c, (fill clock n want u).1.stock clock c = []) := by
  induction n generalizing want u with
  | zero => exact ⟨⟨[], .nil u want⟩, Nat.le_refl 0, fun h => absurd h (Nat.lt_irrefl 0)⟩
  | succ n ih =>
    cases drawn : u.takeSlot clock want with
    | none =>
      simp only [fill, drawn]
      exact ⟨⟨[], .nil u want⟩, Nat.zero_le _, fun _ => takeSlot_eq_none drawn⟩
    | some x =>
      obtain ⟨v, r, c⟩ := x
      obtain ⟨chosen, given⟩ := takeSlot_eq_some drawn
      obtain ⟨⟨cs, draws⟩, atMost, exhausted⟩ := ih (otherClass c) v
      simp only [fill, drawn, List.length_cons, Nat.add_lt_add_iff_right, Nat.add_le_add_iff_right]
      exact ⟨⟨c :: cs, .cons chosen given draws⟩, atMost, exhausted⟩

/-- The first claim passes to the other class of the one that took the first slot. -/
theorem UPort.nextClaim_eq {u v : UPort} {clock n : Nat} {cs : List SlotClass}
    (h : draws clock u u.firstClaim cs (fill clock n u.firstClaim u).2 v) :
    u.nextClaim clock n = (cs[0]?.map otherClass).getD u.firstClaim := by
  cases n with
  | zero =>
    cases h
    rfl
  | succ n =>
    rw [nextClaim, if_neg (Nat.succ_ne_zero n)]
    cases drawn : u.takeSlot clock u.firstClaim with
    | none =>
      simp only [fill, drawn] at h
      cases h
      rfl
    | some x =>
      obtain ⟨w, r, c⟩ := x
      simp only [fill, drawn] at h
      cases h with
      | cons chosen _ _ => simp [chosen, (takeSlot_eq_some drawn).1]

/-- Of the classes up to slot `i + 1`, those of a class are the first and those of the slots after it. -/
theorem count_take_cons (c d : SlotClass) (cs : List SlotClass) (i : Nat) :
    ((c :: cs).take (i + 1)).count d = [c].count d + (cs.take i).count d := by
  rw [← List.count_append, List.take_succ_cons, List.singleton_append]

namespace UPort.draws

variable {clock : Nat} {u v : UPort} {want : SlotClass} {cs : List SlotClass} {rs : List SlotRec}

theorem length (h : draws clock u want cs rs v) : cs.length = rs.length := by
  induction h with
  | nil => rfl
  | cons _ _ _ ih => simp [ih]

theorem stock (h : draws clock u want cs rs v) (d : SlotClass) :
    v.stock clock d = (u.stock clock d).drop (cs.count d) := by
  induction h with
  | nil => simp
  | cons _ given _ ih => rw [ih, given.stock_drop, List.drop_drop, ← List.count_append, List.singleton_append]

theorem oldest (h : draws clock u want cs rs v) (i : Nat) (c : SlotClass) (at_i : cs[i]? = some c) :
    rs[i]? = (u.stock clock c)[(cs.take i).count c]? := by
  induction h generalizing i with
  | nil => simp at at_i
  | @cons u _ _ _ c₀ _ cs _ _ given _ ih =>
    cases i with
    | zero =>
      obtain rfl : c₀ = c := by simpa using at_i
      simp [given.stock]
    | succ i =>
      rw [count_take_cons, ← List.getElem?_drop (xs := u.stock clock c), ← given.stock_drop]
      exact ih i at_i

theorem first (h : draws clock u want cs rs v) (c : SlotClass) (at_0 : cs[0]? = some c) : c = u.chosen clock want := by
  cases h with
  | nil => simp at at_0
  | cons chosen _ _ => simpa [chosen] using at_0.symm

theorem alternate (h : draws clock u want cs rs v) (i : Nat) (c d : SlotClass) (at_i : cs[i]? = some c)
    (next : cs[i + 1]? = some d) : d =
      if (cs.take (i + 1)).count (otherClass c) < (u.stock clock (otherClass c)).length then otherClass c else c := by
  induction h generalizing i with
  | nil => simp at at_i
  | @cons u v _ _ c₀ _ cs _ _ given rest ih =>
    have left (e : SlotClass) : (v.stock clock e).length = (u.stock clock e).length - [c₀].count e := by
      rw [given.stock_drop, List.length_drop]
    cases i with
    | zero =>
      obtain rfl : c₀ = c := by simpa using at_i
      have other := given.other _ (otherClass_ne c₀)
      rw [rest.first d next, chosen, other, otherClass_otherClass]
      simp [(otherClass_ne c₀).symm, List.length_pos_iff]
    | succ i =>
      rw [ih i at_i next, left, count_take_cons]
      congr 1
      exact propext (by omega)

theorem events (h : draws clock u want cs rs v) (undrawn : .event ∉ cs) : v.events = u.events := by
  induction h with
  | nil => rfl
  | cons _ given _ ih =>
    rw [List.mem_cons, not_or] at undrawn
    obtain ⟨other, rest⟩ := undrawn
    rw [ih rest, given.events (Ne.symm other)]

theorem lost (h : draws clock u want cs rs v) : v.lost = if .event ∈ cs then 0 else u.lost := by
  induction h with
  | nil => rfl
  | @cons _ _ _ _ c _ _ _ _ given _ ih =>
    rw [ih, given.lost]
    cases c <;> simp

theorem queuesOnly (h : draws clock u want cs rs v) : u.queuesOnly v := by
  induction h with
  | nil u => exact .refl u
  | cons _ given _ ih => exact given.queuesOnly.trans ih

/-- A run from the first claim fills the slots; the reply writes beside it only what is not a queue. -/
theorem fills (h : draws clock u u.firstClaim cs rs v) (inHand : Option Reply) (phase : ReplyPhase) :
    u.fills { v with
      firstClaim := (cs[0]?.map otherClass).getD u.firstClaim, inHand := inHand, phase := phase } clock rs cs where
  length := h.length
  oldest := h.oldest
  first := h.first
  alternate := h.alternate
  claim := rfl
  untouched undrawn := ⟨h.events undrawn, by rw [h.lost, if_neg undrawn]⟩
  left drawn := ⟨by rw [h.lost, if_pos drawn], h.stock .event⟩
  relays := h.stock .relay
  places := h.queuesOnly.places
  order := h.queuesOnly.order
  stands := by rw [h.queuesOnly.stands]

end UPort.draws

/-! ### The bytes of a reply (R159, R194) -/

theorem be_one (n : Nat) : be 1 n = [BitVec.ofNat 8 n] := by simp [be]

theorem slotBytes_length (x : SlotRec) : (slotBytes x).length = 56 := by
  have padded (l : List Byte) : (pad 56 l).length = 56 := by simp [pad]
  cases x with
  | event r => exact padded _
  | relay r => cases r <;> exact padded _

theorem slots_flatten_length (l : List SlotRec) : (l.map slotBytes).flatten.length = 56 * l.length := by
  induction l with
  | nil => rfl
  | cons x l ih => simp [slotBytes_length, ih, Nat.mul_add, Nat.add_comm]

/-- Slot `i` begins 56 bytes for each slot before it. -/
theorem slots_flatten_slot {l : List SlotRec} {i : Nat} {x : SlotRec} (h : l[i]? = some x) :
    ((l.map slotBytes).flatten.drop (56 * i)).take 56 = slotBytes x := by
  induction l generalizing i with
  | nil => simp at h
  | cons y l ih =>
    cases i with
    | zero =>
      obtain rfl : y = x := by simpa using h
      simp [← slotBytes_length y]
    | succ i =>
      have past : 56 * (i + 1) = (slotBytes y).length + 56 * i := by rw [slotBytes_length]; omega
      rw [List.map_cons, List.flatten_cons, past, List.drop_length_add_append]
      exact ih h

/-- The header of a reply, its flags from the least significant bit: events left, relay records left, events lost. -/
def Reply.header (r : Reply) : List Byte :=
  [BitVec.ofNat 8 (answerCode r.answer.code), BitVec.ofNat 8 r.answer.detail, BitVec.ofNat 8 r.slots.length,
    BitVec.ofNat 8 ((if r.moreEvents then 1 else 0) + (if r.moreRelay then 2 else 0) + (if r.eventsLost then 4 else 0))]

theorem replyPayload_eq (r : Reply) :
    replyPayload r = r.header ++ (r.answer.data ++ (r.slots.map slotBytes).flatten) := by
  have flags : bit r.moreEvents + 2 * bit r.moreRelay + 4 * bit r.eventsLost =
      (if r.moreEvents then 1 else 0) + (if r.moreRelay then 2 else 0) + (if r.eventsLost then 4 else 0) := by
    cases r.moreEvents <;> cases r.moreRelay <;> cases r.eventsLost <;> rfl
  simp [replyPayload, Reply.header, be_one, flags]

theorem replyPayload_length (r : Reply) :
    (replyPayload r).length = 4 + r.answer.data.length + 56 * r.slots.length := by
  rw [replyPayload_eq, List.length_append, List.length_append, slots_flatten_length, Nat.add_assoc]
  rfl

/-- Data of 232 bytes at most, with the slots offered beside it, fills 240 bytes at most. -/
theorem replyPayload_length_le (r : Reply) (data : r.answer.data.length ≤ 232)
    (offered : r.slots.length ≤ slotsOffered r.answer.data.length) : (replyPayload r).length ≤ 240 := by
  unfold slotsOffered at offered
  rw [replyPayload_length]
  omega

theorem replyPayload_slot (r : Reply) {i : Nat} {x : SlotRec} (h : r.slots[i]? = some x) :
    ((replyPayload r).drop (4 + r.answer.data.length + 56 * i)).take 56 = slotBytes x := by
  have past : 4 + r.answer.data.length + 56 * i = r.header.length + (r.answer.data.length + 56 * i) := Nat.add_assoc ..
  rw [past, replyPayload_eq, List.drop_length_add_append, List.drop_length_add_append]
  exact slots_flatten_slot h

theorem replyPayload_data (r : Reply) : ((replyPayload r).drop 4).take r.answer.data.length = r.answer.data := by
  rw [replyPayload_eq]
  simp [Reply.header]

/-! ### The statement -/

/-- Settles O52: the raise by its two cases; the fill as a run of draws, from which each clause on slots and queues
follows by induction; and the payload as header, data and slots of 56 bytes. -/
theorem replySlots : Obligations.ReplySlots := by
  refine ⟨fun s e => ⟨fun room => if_pos room, fun full => if_neg (Nat.not_lt.2 full)⟩, ?_⟩
  intro s kind tag a dataLength
  let n := slotsOffered a.data.length
  obtain ⟨⟨cs, draws⟩, atMost, exhausted⟩ := UPort.fill_draws s.custody.clock n s.uport.firstClaim s.uport
  refine ⟨_, rfl, rfl, rfl, rfl, rfl, rfl, ⟨cs, ?fills⟩, atMost, replyPayload_length _,
    replyPayload_length_le _ dataLength atMost, ?header, ?flags,
    fun i x slot => ⟨slotBytes_length x, replyPayload_slot _ slot⟩, rfl, ?data, ?fewer, rfl, rfl, rfl⟩
  case fills =>
    have filled := draws.fills (s.reply kind tag a).uport.inHand (.built s.now)
    rw [← UPort.nextClaim_eq draws] at filled
    exact filled
  case header => rw [replyPayload_eq]; rfl
  case flags => rw [replyPayload_eq]; rfl
  case data => exact replyPayload_data ⟨_, _, _, a, _, _, _, _⟩
  case fewer =>
    intro short
    have empty := exhausted short
    exact ⟨(UPort.stock_event_eq_nil_iff _ _).1 (empty .event),
      (UPort.stock_relay_eq_nil_iff _ s.custody.clock).1 (empty .relay)⟩

end Sys2Proof.Machine
end

section
/-! SUPPORT. The four invariants together, and the one relation "keeps" by which each operation is read: what an
operation that leaves the watched parts, or changes one of them, keeps. -/

namespace Sys2Proof.Machine

/-! ### The invariants, clause by clause -/

/-- R115's bound for the batch on an arm that is not IDLE. -/
def Arm.dosed (a : Arm) : Prop := a.state ≠ .idle → ∀ b, a.batch = some b → ∀ d ∈ b.doses, 2000 ≤ d.interval

/-- The first half of the valve guard: set up, waiting or flowing, the bay is in SESSION. -/
def State.opensInSession (s : State) : Prop := ∀ k, openable (s.arm k).state = true → s.bayState = .session

/-- The second half of the valve guard: flowing, the three inputs stand PERMITTED. -/
def State.flowsPermitted (s : State) : Prop := ∀ k, (s.arm k).state.flowing = true → s.permitted = true

theorem State.guarded_iff (s : State) : s.guarded ↔ s.opensInSession ∧ s.flowsPermitted := forall_and

theorem openable_of_flowing {st : ArmState} (h : st.flowing = true) : openable st = true := by
  cases st <;> first | rfl | cases h

/-- Only an open session that is not closing stands as SESSION (R9). -/
theorem State.bayState_eq_session_iff (s : State) :
    s.bayState = .session ↔ ∃ r, s.session.record = some r ∧ r.closing = none := by
  cases hr : s.session.record with
  | none =>
    simp only [bayState, hr, reduceCtorEq, false_and, exists_false, iff_false]
    split_ifs <;> simp
  | some r => cases hc : r.closing <;> simp [bayState, hr, hc]

/-! ### The watched parts -/

/-- The parts of the state that the invariants read, the queue and the timebase. -/
structure Watched where
  tables : Tables
  record : Option Session
  presentation : Option Presentation
  inputs : Vector Input 4
  arms : Vector Arm 4
  waiting : List (Fin 4)
  places : List Place
  events : List EventRec
  lost : Nat
  relayUp : List RelayPlace
  relayDown : List Relay
  stations : Vector Station 12
  pending : List Instr
  now : Nat

def State.watched (s : State) : Watched :=
  ⟨s.tables, s.session.record, s.session.presentation, s.safety.inputs, s.arms, s.additive.waiting, s.custody.places,
    s.uport.events, s.uport.lost, s.uport.relayUp, s.dport.relayDown, s.dport.stations, s.pending, s.now⟩

/-- What an operation from state `s` to state `t` keeps: each of the invariants, the queue and the timebase. -/
structure State.Keeps (s t : State) : Prop where
  opens : s.opensInSession → t.opensInSession
  flows : s.flowsPermitted → t.flowsPermitted
  bounded : s.bounded → t.bounded
  canonical : s.canonical = true → t.canonical = true
  notes : s.notesSound → t.notesSound
  front : t.pending = s.pending ∧ t.now = s.now

namespace State.Keeps

theorem refl (s : State) : s.Keeps s := ⟨id, id, id, id, id, rfl, rfl⟩

theorem trans {s t u : State} (h : s.Keeps t) (g : t.Keeps u) : s.Keeps u :=
  ⟨g.opens ∘ h.opens, g.flows ∘ h.flows, g.bounded ∘ h.bounded, g.canonical ∘ h.canonical, g.notes ∘ h.notes,
    g.front.1.trans h.front.1, g.front.2.trans h.front.2⟩

theorem foldl {α : Type} {f : State → α → State} (h : ∀ (s : State) a, s.Keeps (f s a)) (l : List α) (s : State) :
    s.Keeps (l.foldl f s) := by
  induction l generalizing s with
  | nil => exact refl s
  | cons a l ih => exact (h s a).trans (ih (f s a))

theorem ite {s t u : State} {c : Prop} [Decidable c] (h : s.Keeps t) (g : s.Keeps u) :
    s.Keeps (if c then t else u) := by split_ifs <;> assumption

end State.Keeps

/-- The five invariants by name: an operation may break one on its way and mend it at its end. -/
inductive Invariant | opens | flows | bounded | canonical | notes
deriving DecidableEq

def State.meets (s : State) : Invariant → Prop
  | .opens => s.opensInSession
  | .flows => s.flowsPermitted
  | .bounded => s.bounded
  | .canonical => s.canonical = true
  | .notes => s.notesSound

/-- What an operation that may break the invariant `i` keeps. -/
def State.KeepsBut (i : Invariant) (s t : State) : Prop :=
  (∀ j, j ≠ i → s.meets j → t.meets j) ∧ t.pending = s.pending ∧ t.now = s.now

namespace State.Keeps

variable {s t : State}

theorem meets (h : s.Keeps t) : ∀ j, s.meets j → t.meets j
  | .opens => h.opens
  | .flows => h.flows
  | .bounded => h.bounded
  | .canonical => h.canonical
  | .notes => h.notes

theorem of_meets (front : t.pending = s.pending ∧ t.now = s.now) (h : ∀ j, s.meets j → t.meets j) : s.Keeps t :=
  ⟨h .opens, h .flows, h .bounded, h .canonical, h .notes, front⟩

end State.Keeps

theorem State.KeepsBut.trans {s t u : State} {i : Invariant} (h : State.KeepsBut i s t) (g : t.Keeps u) :
    State.KeepsBut i s u :=
  ⟨fun j other meets => g.meets j (h.1 j other meets), g.front.1.trans h.2.1, g.front.2.trans h.2.2⟩

theorem State.Keeps.trans_but {s t u : State} {i : Invariant} (h : s.Keeps t) (g : State.KeepsBut i t u) :
    State.KeepsBut i s u :=
  ⟨fun j other meets => g.1 j other (h.meets j meets), g.2.1.trans h.front.1, g.2.2.trans h.front.2⟩

/-- The invariant that was broken holds at the end. -/
theorem State.KeepsBut.mend {s t : State} {i : Invariant} (h : State.KeepsBut i s t) (mended : s.meets i → t.meets i) :
    s.Keeps t :=
  .of_meets h.2 fun j meets => if same : j = i then same ▸ mended (same ▸ meets) else h.1 j same meets

/-! ### The invariants read the watched parts alone -/

section
variable {s t : State}

theorem State.arm_congr (h : t.arms = s.arms) (k : Fin 4) : t.arm k = s.arm k := by rw [arm, h, ← arm]

theorem State.permitted_congr (h : t.safety.inputs = s.safety.inputs) : t.permitted = s.permitted := by
  simp [permitted, input, h]

theorem State.opensInSession_congr (arms : t.arms = s.arms) (record : t.session.record = s.session.record) :
    t.opensInSession ↔ s.opensInSession := by
  simp only [opensInSession, arm_congr arms, bayState_eq_session_iff, record]

theorem State.flowsPermitted_congr (arms : t.arms = s.arms) (inputs : t.safety.inputs = s.safety.inputs) :
    t.flowsPermitted ↔ s.flowsPermitted := by
  simp only [flowsPermitted, arm_congr arms, permitted_congr inputs]

theorem State.canonical_congr (tables : t.tables = s.tables) : t.canonical = s.canonical := by
  simp only [canonical, tables]

theorem State.notesSound_iff (s : State) : s.notesSound ↔
    s.custody.places.length ≤ 16 ∧
    (s.custody.places.filter fun p => p.state == .reserved).length = (if s.session.record.isSome then 1 else 0) ∧
    (s.session.presentation.isSome = true → s.session.record = none ∧ s.custody.places.length < 16) ∧
    ∀ r, s.session.record = some r → r.closed = false :=
  ⟨fun h => ⟨h.inUse, h.reserved, h.presented, h.unclosed⟩, fun ⟨a, b, c, d⟩ => ⟨a, b, c, d⟩⟩

theorem State.bounded_iff (s : State) : s.bounded ↔
    s.uport.events.length ≤ 32 ∧ s.uport.lost ≤ 255 ∧ s.uport.relayUp.length ≤ 8 ∧ s.dport.relayDown.length ≤ 4 ∧
    (∀ i, (s.station i).verdicts.length ≤ 4) ∧ s.additive.waiting.length ≤ 3 ∧ ∀ k, (s.arm k).dosed :=
  ⟨fun h => ⟨h.events, h.lost, h.relayUp, h.relayDown, h.verdicts, h.waiting, fun k nonIdle b => h.intervals k b nonIdle⟩,
    fun ⟨a, b, c, d, e, f, g⟩ => ⟨a, b, c, d, e, f, fun k b nonIdle => g k nonIdle b⟩⟩

/-- The invariants read neither the queue nor the timebase. -/
theorem State.meets_of_watched (h : t.watched = { s.watched with pending := t.pending, now := t.now }) (i : Invariant)
    (meets : s.meets i) : t.meets i := by
  simp only [watched, Watched.mk.injEq, and_true] at h
  obtain ⟨tables, record, presentation, inputs, arms, waiting, places, events, lost, relayUp, relayDown, stations⟩ := h
  cases i with
  | opens => exact (opensInSession_congr arms record).2 meets
  | flows => exact (flowsPermitted_congr arms inputs).2 meets
  | bounded =>
    simp only [State.meets, bounded_iff, station, arm_congr arms, events, lost, relayUp, relayDown, waiting, stations]
      at meets ⊢
    exact meets
  | canonical => exact (canonical_congr tables).trans meets
  | notes =>
    simp only [State.meets, notesSound_iff, record, presentation, places] at meets ⊢
    exact meets

/-- An operation that leaves the watched parts keeps the invariants. -/
theorem State.Keeps.of_watched (h : t.watched = s.watched) : s.Keeps t := by
  have parts := h
  simp only [watched, Watched.mk.injEq] at parts
  obtain ⟨-, -, -, -, -, -, -, -, -, -, -, -, pending, now⟩ := parts
  exact .of_meets ⟨pending, now⟩ (meets_of_watched (by rw [h, pending, now]; rfl))

/-- An arm may become `a`: set up, waiting or flowing only from such a state or in SESSION, flowing only from a flow state
or with the three inputs PERMITTED, its doses' intervals bounded. -/
structure State.admits (s : State) (k : Fin 4) (a : Arm) : Prop where
  opens : openable a.state = true → openable (s.arm k).state = true ∨ s.bayState = .session
  flows : a.state.flowing = true → (s.arm k).state.flowing = true ∨ s.permitted = true
  dosed : (s.arm k).dosed → a.dosed

/-- A change of the arms alone. -/
theorem State.Keeps.of_arms (h : t.watched = { s.watched with arms := t.arms }) (admits : ∀ k, s.admits k (t.arm k)) :
    s.Keeps t := by
  simp only [watched, Watched.mk.injEq, true_and] at h
  obtain ⟨tables, record, presentation, inputs, waiting, places, events, lost, relayUp, relayDown, stations, front⟩ := h
  refine ⟨fun opens k open_ => ?_, fun flows k flowing => ?_, ?_, (by rw [canonical_congr tables]; exact id), ?_, front⟩
  · have : s.bayState = .session := ((admits k).opens open_).elim (opens k) id
    simpa only [bayState_eq_session_iff, record] using this
  · rw [permitted_congr inputs]
    exact ((admits k).flows flowing).elim (flows k) id
  · simp only [bounded_iff, station, events, lost, relayUp, relayDown, waiting, stations]
    rintro ⟨h1, h2, h3, h4, h5, h6, dosed⟩
    exact ⟨h1, h2, h3, h4, h5, h6, fun k => (admits k).dosed (dosed k)⟩
  · simp only [notesSound_iff, record, presentation, places]
    exact id

/-- A change of the inputs alone. -/
theorem State.KeepsBut.of_inputs (h : t.watched = { s.watched with inputs := t.safety.inputs }) :
    State.KeepsBut .flows s t := by
  simp only [watched, Watched.mk.injEq, true_and] at h
  obtain ⟨tables, record, presentation, arms, waiting, places, events, lost, relayUp, relayDown, stations, front⟩ := h
  refine ⟨?_, front⟩
  rintro (_ | _) other
  · exact (opensInSession_congr arms record).2
  · exact absurd rfl other
  · simp only [meets, bounded_iff, station, arm_congr arms, events, lost, relayUp, relayDown, waiting, stations]
    exact id
  · simp only [meets, canonical_congr tables]
    exact id
  · simp only [meets, notesSound_iff, record, presentation, places]
    exact id

/-- A change of the inputs alone, under which PERMITTED stands. -/
theorem State.Keeps.of_inputs (h : t.watched = { s.watched with inputs := t.safety.inputs })
    (stands : s.permitted = true → t.permitted = true) : s.Keeps t := by
  refine (KeepsBut.of_inputs h).mend fun flows k flowing => stands (flows k ?_)
  simp only [watched, Watched.mk.injEq] at h
  rwa [← arm_congr h.2.2.2.2.1]

/-- A change of the tables alone. -/
theorem State.Keeps.of_tables (h : t.watched = { s.watched with tables := t.tables })
    (canonical : s.canonical = true → t.canonical = true) : s.Keeps t := by
  simp only [watched, Watched.mk.injEq, true_and] at h
  obtain ⟨record, presentation, inputs, arms, waiting, places, events, lost, relayUp, relayDown, stations, front⟩ := h
  refine ⟨(opensInSession_congr arms record).2, (flowsPermitted_congr arms inputs).2, ?_, canonical, ?_, front⟩
  · simp only [bounded_iff, station, arm_congr arms, events, lost, relayUp, relayDown, waiting, stations]
    exact id
  · simp only [notesSound_iff, record, presentation, places]
    exact id

/-- A change of the queues alone: events, relays, verdicts and the waiting list. -/
theorem State.Keeps.of_queues (h : t.watched = { s.watched with
      waiting := t.additive.waiting, events := t.uport.events, lost := t.uport.lost, relayUp := t.uport.relayUp
      relayDown := t.dport.relayDown, stations := t.dport.stations })
    (bounded : s.bounded → t.bounded) : s.Keeps t := by
  simp only [watched, Watched.mk.injEq, true_and, and_true] at h
  obtain ⟨tables, record, presentation, inputs, arms, places, front⟩ := h
  refine ⟨(opensInSession_congr arms record).2, (flowsPermitted_congr arms inputs).2, bounded,
    (by rw [canonical_congr tables]; exact id), ?_, front⟩
  simp only [notesSound_iff, record, presentation, places]
  exact id

/-- A change of the session record, the presentation and the note places alone. -/
theorem State.KeepsBut.of_session (h : t.watched = { s.watched with
      record := t.session.record, presentation := t.session.presentation, places := t.custody.places })
    (notes : s.notesSound → t.notesSound) : State.KeepsBut .opens s t := by
  simp only [watched, Watched.mk.injEq, true_and] at h
  obtain ⟨tables, inputs, arms, waiting, events, lost, relayUp, relayDown, stations, front⟩ := h
  refine ⟨?_, front⟩
  rintro (_ | _) other
  · exact absurd rfl other
  · exact (flowsPermitted_congr arms inputs).2
  · simp only [meets, bounded_iff, station, arm_congr arms, events, lost, relayUp, relayDown, waiting, stations]
    exact id
  · simp only [meets, canonical_congr tables]
    exact id
  · exact notes

theorem State.Keeps.of_session (h : t.watched = { s.watched with
      record := t.session.record, presentation := t.session.presentation, places := t.custody.places })
    (opens : s.opensInSession → t.opensInSession) (notes : s.notesSound → t.notesSound) : s.Keeps t :=
  (KeepsBut.of_session h notes).mend opens

/-- A change of the note places alone, by which their number does not grow and the RESERVED ones stay. -/
theorem State.Keeps.of_places (h : t.watched = { s.watched with places := t.custody.places })
    (fewer : t.custody.places.length ≤ s.custody.places.length)
    (reserved : (t.custody.places.filter fun p => p.state == .reserved).length =
      (s.custody.places.filter fun p => p.state == .reserved).length) : s.Keeps t := by
  have h' := h
  simp only [watched, Watched.mk.injEq, true_and] at h
  obtain ⟨-, record, presentation, inputs, arms, -⟩ := h
  refine .of_session (by rw [h']; simp [watched, record, presentation]) (opensInSession_congr arms record).2 ?_
  simp only [notesSound_iff, record, presentation, reserved]
  rintro ⟨inUse, one, presented, unclosed⟩
  exact ⟨fewer.trans inUse, one, fun p => ⟨(presented p).1, fewer.trans_lt (presented p).2⟩, unclosed⟩

end

end Sys2Proof.Machine
end

section
/-! SUPPORT. What the updates of the blocks and the operations of the session unit keep (chapter 1). -/

namespace Sys2Proof.Machine

/-! ### Updates that touch no watched part -/

section
variable (s : State)

theorem State.setMeter_keeps (k : Fin 4) (m : Meter) : s.Keeps (s.setMeter k m) := .of_watched rfl
theorem State.setVol_keeps (k : Fin 4) (v : VolArm) : s.Keeps (s.setVol k v) := .of_watched rfl
theorem State.setInj_keeps (j : Fin 6) (x : Injector) : s.Keeps (s.setInj j x) := .of_watched rfl
theorem State.setDeadman_keeps (d : Deadman) : s.Keeps (s.setDeadman d) := .of_watched rfl
theorem State.setFault_keeps (c : FaultClass) (r : FaultRec) : s.Keeps (s.setFault c r) := .of_watched rfl
theorem State.creditGross_keeps (k : Fin 4) (x : Nat) : s.Keeps (s.creditGross k x) := .of_watched rfl
theorem State.creditStandard_keeps (k : Fin 4) (x : Nat) : s.Keeps (s.creditStandard k x) := .of_watched rfl
theorem State.creditAdditive_keeps (j : Fin 6) (x : Nat) : s.Keeps (s.creditAdditive j x) := .of_watched rfl
theorem State.freeInj_keeps (j : Fin 6) : s.Keeps (s.freeInj j) := .of_watched rfl

theorem State.settleIdle_keeps : s.Keeps s.settleIdle :=
  .of_watched (by unfold settleIdle watched; split_ifs <;> rfl)

/-! ### Events and verdicts (R160, R170) -/

/-- The U port with an event raised. -/
def UPort.raised (u : UPort) (clock : Nat) (e : Event) : UPort :=
  if u.events.length < 32 then { u with events := u.events ++ [⟨e, clock⟩] }
  else { u with lost := bump 255 u.lost }

/-- A raise reads and writes the U port, and reads the clock, alone. -/
theorem State.raise_eq_raised (e : Event) : s.raise e = { s with uport := s.uport.raised s.custody.clock e } := by
  unfold raise UPort.raised
  split <;> rfl

theorem State.raise_keeps (e : Event) : s.Keeps (s.raise e) := by
  refine .of_queues (by unfold raise; split <;> rfl) ?_
  simp only [bounded_iff, station, arm_congr (s.raise_frame e).2.2.2.2.2.2.2.2.1, raise_frame]
  rintro ⟨events, lost, rest⟩
  refine ⟨s.raise_events_le e events, ?_, ?_⟩
  · rw [raise_uport]
    split_ifs <;> simp [lost]
  · rw [raise_uport]
    split_ifs <;> exact rest

theorem State.pushVerdict_keeps (i : Option (Fin 12)) (v : Verdict) : s.Keeps (s.pushVerdict i v) := by
  have down : (s.pushVerdict i v).dport.relayDown = s.dport.relayDown := by
    unfold pushVerdict
    (repeat' split) <;> rfl
  refine .of_queues (by simp [watched]) ?_
  simp only [bounded_iff, arm_congr (t := s.pushVerdict i v) (s := s) (by simp), pushVerdict_frame, down]
  rintro ⟨events, lost, up, down, verdicts, waiting, dosed⟩
  exact ⟨events, lost, up, down, s.pushVerdict_le i v verdicts, waiting, dosed⟩

theorem State.tellReader_keeps (v : Verdict) : s.Keeps (s.tellReader v) := s.pushVerdict_keeps _ v

theorem State.tellKeypad_keeps (a : Byte) (v : Verdict) : s.Keeps (s.tellKeypad a v) := s.pushVerdict_keeps _ v

/-! ### Arms -/

variable {s} in
theorem State.setArm_keeps {k : Fin 4} {a : Arm} (h : s.admits k a) : s.Keeps (s.setArm k a) := by
  refine .of_arms rfl fun j => ?_
  rw [arm_setArm]
  split_ifs with same
  · exact same ▸ h
  · exact ⟨.inl, .inl, id⟩

/-- A write that keeps an arm's state and batch. -/
theorem State.setArm_keeps_of_same {k : Fin 4} {a : Arm} (state : a.state = (s.arm k).state)
    (batch : a.batch = (s.arm k).batch) : s.Keeps (s.setArm k a) :=
  setArm_keeps ⟨fun h => .inl (state ▸ h), fun h => .inl (state ▸ h), fun h => by
    unfold Arm.dosed at h ⊢; rwa [state, batch]⟩

/-- A write that drops an arm's batch. -/
theorem State.setArm_keeps_of_none {k : Fin 4} {a : Arm} (state : a.state = (s.arm k).state)
    (batch : a.batch = none) : s.Keeps (s.setArm k a) :=
  setArm_keeps ⟨fun h => .inl (state ▸ h), fun h => .inl (state ▸ h), fun _ _ b hb => by simp [batch] at hb⟩

/-- A change of a batch under which its doses' intervals stay bounded. -/
theorem State.updBatch_keeps_of_dosed (k : Fin 4) {f : Batch → Batch} (h : ∀ b, (∀ d ∈ b.doses, 2000 ≤ d.interval) →
    ∀ d ∈ (f b).doses, 2000 ≤ d.interval) : s.Keeps (s.updBatch k f) := by
  refine setArm_keeps ⟨.inl, .inl, fun dosed nonIdle b hb => ?_⟩
  obtain ⟨x, hx, rfl⟩ := Option.map_eq_some_iff.1 hb
  exact h x (dosed nonIdle x hx)

/-- A change of a batch that leaves its doses. -/
theorem State.updBatch_keeps (k : Fin 4) {f : Batch → Batch} (h : ∀ b, (f b).doses = b.doses) :
    s.Keeps (s.updBatch k f) :=
  s.updBatch_keeps_of_dosed k fun b dosed => by rwa [h b]

theorem State.updDose_keeps (k : Fin 4) (i : Nat) {f : DoseRec → DoseRec} (h : ∀ d, (f d).interval = d.interval) :
    s.Keeps (s.updDose k i f) := by
  refine s.updBatch_keeps_of_dosed k fun b dosed d hd => ?_
  obtain ⟨j, hj⟩ := List.getElem?_of_mem hd
  rw [List.getElem?_modify] at hj
  obtain ⟨x, hx, rfl⟩ := Option.map_eq_some_iff.1 hj
  have := dosed x (List.mem_of_getElem? hx)
  split_ifs <;> simp [h, this]

theorem State.moveArm_watched (k : Fin 4) (st : ArmState) :
    (s.moveArm k st).watched = (s.setArm k { s.arm k with state := st }).watched := by
  have : ((s.setArm k { s.arm k with state := st }).settleDeadman s.anyFlowing).session =
      (s.setArm k { s.arm k with state := st }).session := by simp
  have idle : ∀ t : State, t.settleIdle.session.presentation = t.session.presentation := fun t => by
    unfold settleIdle
    split_ifs <;> rfl
  simp [moveArm, watched, idle]

variable {s} in
theorem State.moveArm_keeps {k : Fin 4} {st : ArmState} (h : s.admits k { s.arm k with state := st }) :
    s.Keeps (s.moveArm k st) :=
  (setArm_keeps h).trans (.of_watched (s.moveArm_watched k st))

theorem State.moveArm_idle_keeps (k : Fin 4) : s.Keeps (s.moveArm k .idle) :=
  moveArm_keeps ⟨nofun, nofun, fun _ h => absurd rfl h⟩

/-- An arm that holds a batch may stop or be suspended. -/
theorem State.moveArm_closed_keeps {k : Fin 4} {st : ArmState} (closed : openable st = false)
    (nonIdle : (s.arm k).state ≠ .idle) : s.Keeps (s.moveArm k st) := by
  refine moveArm_keeps ⟨fun opens => ?_, fun flows => ?_, fun dosed _ => dosed nonIdle⟩
  · cases closed.symm.trans opens
  · cases closed.symm.trans (openable_of_flowing flows)

theorem State.unwait_keeps (k : Fin 4) : s.Keeps (s.unwait k) := by
  refine .of_queues rfl ?_
  rw [bounded_iff, bounded_iff]
  rintro ⟨h1, h2, h3, h4, h5, waiting, h7⟩
  exact ⟨h1, h2, h3, h4, h5, (List.length_filter_le _ _).trans waiting, h7⟩

/-- A change of an arm's batch and timers, the arm then moving. -/
theorem State.rearm_keeps {k : Fin 4} {a : Arm} {st : ArmState} (state : a.state = (s.arm k).state)
    {f : Batch → Batch} (batch : a.batch = (s.arm k).batch.map f) (doses : ∀ b, (f b).doses = b.doses)
    (closed : openable st = false) (nonIdle : (s.arm k).state ≠ .idle) : s.Keeps ((s.setArm k a).moveArm k st) := by
  refine .trans (setArm_keeps ⟨fun h => .inl (state ▸ h), fun h => .inl (state ▸ h), fun dosed _ b hb => ?_⟩)
    (moveArm_closed_keeps _ closed ?_)
  · rw [batch] at hb
    obtain ⟨x, hx, rfl⟩ := Option.map_eq_some_iff.1 hb
    rw [doses x]
    exact dosed nonIdle x hx
  · rwa [arm_setArm, if_pos rfl, state]

/-- R103: an entry to STOPPING writes the arm and moves it. -/
theorem State.enterStopping_eq (k : Fin 4) (r : EndReason) : s.enterStopping k r =
    (s.setArm k { s.arm k with
      stopTimer := some (s.now + (s.armEntry k).stopTimeout * 1000), zeroCloses := 0
      batch := (s.arm k).batch.map fun b => { b with endReason := some r, atStopping := some b.delivered }
      }).moveArm k .stopping := by
  simp only [enterStopping, updBatch, setArm_setArm, arm_setArm, if_true]

theorem State.enterStopping_keeps {k : Fin 4} (r : EndReason) (nonIdle : (s.arm k).state ≠ .idle) :
    s.Keeps (s.enterStopping k r) := by
  rw [enterStopping_eq]
  exact s.rearm_keeps rfl rfl (fun _ => rfl) rfl nonIdle

/-- The move of a suspension (R98). -/
theorem State.suspend_eq {k : Fin 4} (flowing : (s.arm k).state.flowing = true) (c : SuspendCause) : s.suspend k c =
    let t := (s.setArm k { s.arm k with
      stopTimer := some (s.now + (s.armEntry k).stopTimeout * 1000), zeroCloses := 0
      batch := (s.arm k).batch.map fun b => { b with cause := some c } }).moveArm k .suspended
    match (s.arm k).batch with
    | some b => t.raise (.armSuspended k c (b.delivered / 1000) (b.remaining / 1000))
    | none => t := by
  simp only [suspend, flowing, if_true, updBatch, setArm_setArm, arm_setArm] <;> rfl

theorem State.suspend_keeps (k : Fin 4) (c : SuspendCause) : s.Keeps (s.suspend k c) := by
  by_cases flowing : (s.arm k).state.flowing = true
  · have nonIdle : (s.arm k).state ≠ .idle := fun idle => by simp [idle, ArmState.flowing] at flowing
    have moved := s.rearm_keeps (k := k) (st := .suspended) (a := { s.arm k with
      stopTimer := some (s.now + (s.armEntry k).stopTimeout * 1000), zeroCloses := 0
      batch := (s.arm k).batch.map fun b => { b with cause := some c } }) rfl rfl (fun _ => rfl) rfl nonIdle
    rw [s.suspend_eq flowing]
    dsimp only
    split
    · exact moved.trans (raise_keeps _ _)
    · exact moved
  · rw [suspend, if_neg flowing]
    exact .refl s

/-! ### The session record -/

/-- A change of the session record that keeps how it closes. -/
theorem State.updSession_keeps {f : Session → Session} (closing : ∀ r, (f r).closing = r.closing)
    (closed : ∀ r, (f r).closed = r.closed) : s.Keeps (s.updSession f) := by
  refine .of_session rfl (fun opens k open_ => ?_) ?_
  · obtain ⟨r, hr, going⟩ := s.bayState_eq_session_iff.1 (opens k open_)
    exact (bayState_eq_session_iff _).2 ⟨f r, by simp [updSession, setRecord, hr], (closing r).trans going⟩
  · rw [notesSound_iff, notesSound_iff]
    rintro ⟨inUse, one, presented, unclosed⟩
    refine ⟨inUse, by simpa [updSession, setRecord] using one, fun p => ?_, fun r hr => ?_⟩
    · obtain ⟨none, fewer⟩ := presented p
      exact ⟨by simp [updSession, setRecord, none], fewer⟩
    · obtain ⟨x, hx, rfl⟩ := Option.map_eq_some_iff.1 hr
      exact (closed x).trans (unclosed x hx)

theorem State.reserve_keeps (l : Nat) : s.Keeps (s.reserve l) := s.updSession_keeps (fun _ => rfl) fun _ => rfl
theorem State.unreserve_keeps (l : Nat) : s.Keeps (s.unreserve l) := s.updSession_keeps (fun _ => rfl) fun _ => rfl
theorem State.claim_keeps (c : Fin 8) (k : Fin 4) : s.Keeps (s.claim c k) :=
  s.updSession_keeps (fun _ => rfl) fun _ => rfl
theorem State.unclaim_keeps (c : Fin 8) : s.Keeps (s.unclaim c) := s.updSession_keeps (fun _ => rfl) fun _ => rfl

/-! ### Table entries that the part writes -/

theorem State.canonical_iff : s.canonical = true ↔
    tabWf emptyPermit s.tables.permits = true ∧ tabWf emptyVehicle s.tables.vehicles = true ∧
    tabWf emptyProduct s.tables.products = true ∧ tabWf emptyRecipe s.tables.recipes = true ∧
    tabWf emptyInjector s.tables.injectors = true ∧ tabWf emptyArm s.tables.arms = true ∧
    tabWf emptyDevice s.tables.devices = true := by
  simp only [canonical, Bool.and_eq_true, and_assoc]

theorem State.setPermit_keeps (i : Nat) (f : PermitEntry → PermitEntry) : s.Keeps (s.setPermit i f) := by
  unfold setPermit
  refine .ite (.refl s) (.of_tables rfl ?_)
  rw [canonical_iff, canonical_iff]
  rintro ⟨permits, rest⟩
  exact ⟨tabSet_wf _ permits _ _, rest⟩

theorem State.setLastProduct_keeps (i : Nat) (c : Fin 8) (p : Fin 16) : s.Keeps (s.setLastProduct i c p) := by
  unfold setLastProduct
  refine .ite (.refl s) (.of_tables rfl ?_)
  rw [canonical_iff, canonical_iff]
  rintro ⟨permits, vehicles, rest⟩
  exact ⟨permits, tabSet_wf _ vehicles _ _, rest⟩

theorem State.outOfService_keeps (j : Fin 6) : s.Keeps (s.outOfService j) := by
  unfold outOfService
  refine .ite (.refl s) (.of_tables rfl ?_)
  rw [canonical_iff, canonical_iff]
  rintro ⟨h1, h2, h3, h4, injectors, rest⟩
  exact ⟨h1, h2, h3, h4, tabSet_wf _ injectors _ _, rest⟩

/-! ### Presentations (R9 to R14) -/

theorem State.countRefusal_keeps (card : Nat) (r : SessionReason) : s.Keeps (s.countRefusal card r) := by
  unfold countRefusal
  split
  · split
    · exact s.setPermit_keeps _ _
    · exact .refl s
  · exact .refl s

theorem State.refuse_keeps (card tag : Nat) (r : SessionReason) (v : Nat) : s.Keeps (s.refuse card tag r v) :=
  ((s.tellReader_keeps _).trans (raise_keeps _ _)).trans (countRefusal_keeps _ _ _)

theorem State.unpresent_keeps : s.Keeps s.unpresent := by
  refine .of_session rfl (fun opens => (opensInSession_congr rfl rfl).2 opens) ?_
  rw [notesSound_iff, notesSound_iff]
  rintro ⟨inUse, one, -, unclosed⟩
  exact ⟨inUse, one, nofun, unclosed⟩

theorem State.settlePresentation_keeps : s.Keeps s.settlePresentation := by
  unfold settlePresentation
  split
  · exact .ite (.refl s) (s.unpresent_keeps.trans (refuse_keeps _ _ _ _ _))
  · exact .refl s

/-! ### Opening and closing a session (R16, R24) -/

theorem State.reserveRecord_keeps (r : Session) (closing : r.closing = none) (closed : r.closed = false)
    (number : Nat) (none : s.session.record = none) (unpresented : s.session.presentation = .none)
    (fewer : s.custody.places.length < 16) : s.Keeps ((s.setRecord (some r)).reservePlace number) := by
  have reserved : s.Keeps ((s.setRecord (some r)).withCustody { s.custody with
      places := s.custody.places ++ [⟨number, .reserved, .none, [], false, false⟩] }) := by
    refine .of_session rfl (fun opens k open_ => ?_) ?_
    · exact (bayState_eq_session_iff _).2 ⟨r, rfl, closing⟩
    · rw [notesSound_iff, notesSound_iff]
      rintro ⟨-, one, -, -⟩
      simp only [none, Option.isSome_none, Bool.false_eq_true, if_false] at one
      refine ⟨by simp; omega, ?_, ?_, ?_⟩
      · simp [List.filter_append, one, setRecord]
      · simp [setRecord, unpresented]
      · intro x hx
        obtain rfl : r = x := Option.some.inj hx
        exact closed
  unfold reservePlace
  exact .ite (reserved.trans (raise_keeps _ _)) reserved

theorem State.openSession_keeps (o : Opening) (none : s.session.record = none)
    (unpresented : s.session.presentation = .none) (fewer : s.custody.places.length < 16) :
    s.Keeps (s.openSession o) := by
  have opened := s.reserveRecord_keeps (s.newSession o) rfl rfl (s.newSession o).number none unpresented fewer
  unfold openSession
  refine .trans ?_ (((tellReader_keeps _ _).trans (raise_keeps _ _)).trans (settleIdle_keeps _))
  split
  · exact opened.trans (setPermit_keeps _ _ _)
  · exact opened

theorem fillReserved_length (x : Place) (l : List Place) : (fillReserved x l).length = l.length := by
  induction l with
  | nil => rfl
  | cons p l ih => unfold fillReserved; split <;> simp [ih]

/-- The note takes one RESERVED place. -/
theorem fillReserved_reserved {x : Place} (hx : x.state ≠ .reserved) {l : List Place}
    (h : (l.filter fun p => p.state == .reserved).length ≤ 1) :
    (fillReserved x l).filter (fun p => p.state == .reserved) = [] := by
  induction l with
  | nil => rfl
  | cons p l ih =>
    by_cases hp : p.state = .reserved
    · simp only [fillReserved, hp, if_true]
      simp only [List.filter_cons, hp, beq_self_eq_true, if_true, List.length_cons] at h
      have none : (l.filter fun p => p.state == .reserved) = [] := List.eq_nil_of_length_eq_zero (by omega)
      simp [none, hx]
    · simp only [fillReserved, hp, if_false]
      simp only [List.filter_cons, hp, beq_iff_eq, if_false] at h ⊢
      exact ih h

/-- With no arm set up, waiting or flowing, the session record may go with its RESERVED place. -/
theorem State.dropRecord_keeps {s t : State} {r : Session} (shut : ∀ k, openable (s.arm k).state = false)
    (open_ : s.session.record = some r) (watched : t.watched = { s.watched with
      record := none, places := t.custody.places })
    (fewer : t.custody.places.length ≤ s.custody.places.length)
    (free : (s.custody.places.filter fun p => p.state == .reserved).length = 1 →
      (t.custody.places.filter fun p => p.state == .reserved) = []) : s.Keeps t := by
  have parts := watched
  simp only [State.watched, Watched.mk.injEq, true_and] at parts
  obtain ⟨-, record, presentation, -, arms, -⟩ := parts
  refine .of_session (by rw [watched]; simp [State.watched, record, presentation]) (fun _ k opens => ?_) ?_
  · rw [arm_congr arms, shut] at opens
    cases opens
  · rw [notesSound_iff, notesSound_iff]
    rintro ⟨inUse, one, presented, -⟩
    refine ⟨fewer.trans inUse, ?_, ?_, ?_⟩
    · rw [free (by simpa [open_] using one)]
      simp [record]
    · rw [presentation]
      exact fun p => absurd (presented p).1 (by simp [open_])
    · simp [record]

/-- The custody store after a close (R134, R139): the note in its place, or the place freed. -/
def State.closedCustody (s : State) (r : Session) (reason : CloseReason) : CustodyBlk :=
  if r.lines = [] then { s.custody with places := s.custody.places.filter fun p => p.state != .reserved }
  else { s.custody with
    counter := s.custody.counter.pass r.number
    places := fillReserved ⟨r.number, if r.damaged then .damaged else .ready, some (s.noteOf r reason),
      noteForm (s.noteOf r reason), false, false⟩ s.custody.places }

/-- The events of a close (R24, R134). -/
def State.closeRaised (s : State) (r : Session) (reason : CloseReason) : State :=
  (if r.lines = [] then s else s.raise (.noteReady r.number reason r.lines.length
    (r.lines.filter fun l => anyFlag l.flags).length s.custody.places.length)).raise
      (.sessionClosed r.number reason r.lines.length)

theorem State.settleIdle_of_none (h : s.session.record = none) :
    s.settleIdle = s.withSession { s.session with idleTimer := none } := by
  have closed : ¬(s.bayState = .session ∧ s.allIdle = true) := fun ⟨going, _⟩ => by
    obtain ⟨r, hr, -⟩ := s.bayState_eq_session_iff.1 going
    simp [h] at hr
  rw [settleIdle, if_neg closed]

/-- R24: what a close writes. -/
theorem State.closeSession_eq {r : Session} (open_ : s.session.record = some r) (reason : CloseReason) :
    s.closeSession reason = { s with
      session := { s.session with record := none, idleTimer := none }, custody := s.closedCustody r reason
      uport := (s.closeRaised r reason).uport } := by
  unfold closeSession closedCustody closeRaised
  simp only [open_, List.isEmpty_iff]
  rw [settleIdle_of_none _ (by simp [setRecord])]
  by_cases noLines : r.lines = []
  · simp only [if_pos noLines, raise_eq_raised]
    rfl
  · simp only [if_neg noLines, writeNote, raise_eq_raised, setRecord, withSession, withCustody, fillReserved_length]

theorem State.closedCustody_places_le (r : Session) (reason : CloseReason) :
    (s.closedCustody r reason).places.length ≤ s.custody.places.length := by
  unfold closedCustody
  by_cases noLines : r.lines = []
  · simpa only [if_pos noLines] using List.length_filter_le _ _
  · simp only [if_neg noLines, fillReserved_length, Nat.le_refl]

theorem State.closedCustody_unreserved (r : Session) (reason : CloseReason)
    (one : (s.custody.places.filter fun p => p.state == .reserved).length = 1) :
    (s.closedCustody r reason).places.filter (fun p => p.state == .reserved) = [] := by
  unfold closedCustody
  by_cases noLines : r.lines = []
  · simp [noLines]
  · simp only [if_neg noLines]
    exact fillReserved_reserved (by dsimp only; split <;> simp) (Nat.le_of_eq one)

/-- With no arm set up, waiting or flowing, a session may close. -/
theorem State.closeSession_keeps (reason : CloseReason) (shut : ∀ k, openable (s.arm k).state = false) :
    s.Keeps (s.closeSession reason) := by
  cases open_ : s.session.record with
  | none => rw [closeSession, open_]; exact .refl s
  | some r =>
    have raised : s.Keeps (s.closeRaised r reason) := by
      unfold closeRaised
      split_ifs
      · exact s.raise_keeps _
      · exact (s.raise_keeps _).trans (raise_keeps _ _)
    have stands : s.closeRaised r reason = { s with uport := (s.closeRaised r reason).uport } := by
      unfold closeRaised
      split_ifs <;> simp only [raise_eq_raised]
    rw [s.closeSession_eq open_]
    refine raised.trans (dropRecord_keeps (r := r) ?_ ?_ ?_ ?_ ?_)
    · rw [stands]; exact shut
    · rw [stands]; exact open_
    · rw [stands]; rfl
    · rw [stands]; exact s.closedCustody_places_le r reason
    · rw [stands]; exact s.closedCustody_unreserved r reason

end

end Sys2Proof.Machine
end

section
/-! SUPPORT. What the arm movements, the aborts and the faults keep (chapters 1 and 2). -/

namespace Sys2Proof.Machine

/-! ### What the arm movements make of the arms -/

section
variable (s : State)

theorem State.arm_enterStopping (k j : Fin 4) (r : EndReason) :
    (s.enterStopping k r).arm j = if j = k then s.stopped k r else s.arm j := by
  rw [enterStopping_eq, arm_moveArm, arm_setArm, arm_setArm, if_pos rfl]
  split_ifs <;> rfl

theorem State.arm_suspend (k j : Fin 4) (c : SuspendCause) :
    (s.suspend k c).arm j = if j = k ∧ (s.arm k).state.flowing = true then s.suspended k c else s.arm j := by
  by_cases flowing : (s.arm k).state.flowing = true
  · simp only [flowing, and_true]
    have moved (t : State) (h : t.arms = ((s.setArm k { s.arm k with
        stopTimer := some (s.now + (s.armEntry k).stopTimeout * 1000), zeroCloses := 0
        batch := (s.arm k).batch.map fun b => { b with cause := some c } }).moveArm k .suspended).arms) :
        t.arm j = if j = k then s.suspended k c else s.arm j := by
      rw [arm_congr h, arm_moveArm, arm_setArm, arm_setArm, if_pos rfl]
      split_ifs <;> rfl
    rw [s.suspend_eq flowing]
    dsimp only
    split
    · exact moved _ (by simp)
    · exact moved _ rfl
  · simp [suspend, flowing]

/-- A cancelled batch gives up its place in the waiting list, its reserved volume and its claim (R107). -/
def State.uncommitted (s : State) (k : Fin 4) : State :=
  let t := if (s.arm k).state = .waitInjector then s.unwait k else s
  match (s.arm k).batch with
  | some b => (if (s.arm k).state = .waitInjector then t.unreserve b.preset else t).unclaim b.compartment
  | none => t

theorem State.uncommitted_arms (k : Fin 4) : (s.uncommitted k).arms = s.arms := by
  unfold uncommitted
  dsimp only
  split <;> split_ifs <;> simp

theorem State.setArm_self {t : State} {k : Fin 4} {a : Arm} (h : a = t.arm k) : t.setArm k a = t := by
  rw [h, setArm, arm, Vec.set_get_self]
  rfl

theorem State.cancel_eq (k : Fin 4) :
    s.cancel k = ((s.uncommitted k).setArm k { s.arm k with batch := none }).moveArm k .idle := by
  have same := arm_congr (s.uncommitted_arms k) k
  unfold uncommitted at *
  unfold cancel
  cases batch : (s.arm k).batch with
  | none =>
    simp only [batch] at same ⊢
    rw [setArm_self]
    rw [same, ← batch]
  | some b =>
    simp only [batch] at same ⊢
    rw [same]

theorem State.arm_cancel (k j : Fin 4) :
    (s.cancel k).arm j = if j = k then { s.arm k with state := .idle, batch := none } else s.arm j := by
  rw [cancel_eq, arm_moveArm, arm_setArm, arm_setArm, if_pos rfl, arm_congr (s.uncommitted_arms k)]
  split_ifs <;> rfl

theorem State.uncommitted_keeps (k : Fin 4) : s.Keeps (s.uncommitted k) := by
  unfold uncommitted
  dsimp only
  have unwaited : s.Keeps (if (s.arm k).state = .waitInjector then s.unwait k else s) := .ite (s.unwait_keeps k) (.refl s)
  split
  · exact unwaited.trans ((Keeps.ite (unreserve_keeps _ _) (.refl _)).trans (unclaim_keeps _ _))
  · exact unwaited

theorem State.cancel_keeps (k : Fin 4) : s.Keeps (s.cancel k) := by
  rw [cancel_eq]
  refine ((s.uncommitted_keeps k).trans (setArm_keeps_of_none _ ?_ rfl)).trans (moveArm_idle_keeps _ k)
  rw [arm_congr (s.uncommitted_arms k)]

theorem State.cancelReady_keeps (k : Fin 4) : s.Keeps (s.cancelReady k) := by
  unfold cancelReady
  split
  · exact s.cancel_keeps k
  · exact s.cancel_keeps k
  · exact .refl s

theorem State.abortArm_keeps (e : EndReason) (k : Fin 4) : s.Keeps (s.abortArm e k) := by
  unfold abortArm
  split
  · exact s.enterStopping_keeps e (by simp [*])
  · exact s.enterStopping_keeps e (by simp [*])
  · exact s.enterStopping_keeps e (by simp [*])
  · exact s.enterStopping_keeps e (by simp [*])
  · exact s.cancel_keeps k
  · exact s.cancel_keeps k
  · exact .refl s
  · exact .refl s

end

/-! ### A fold over the arms -/

/-- A step that makes `g` of its own arm and leaves the others makes it of every arm when folded over them; what `g` makes
of an arm the steps of the others leave. -/
theorem State.arm_foldl {f : State → Fin 4 → State} {g : State → Fin 4 → Arm}
    (own : ∀ s j k, (f s j).arm k = if k = j then g s k else s.arm k)
    (stable : ∀ s j k, k ≠ j → g (f s j) k = g s k) (s : State) (k : Fin 4) : (armIxs.foldl f s).arm k = g s k := by
  have each : ∀ (l : List (Fin 4)) (t : State), l.Nodup →
      (l.foldl f t).arm k = if k ∈ l then g t k else t.arm k := by
    intro l
    induction l with
    | nil => simp
    | cons j l ih =>
      intro t distinct
      obtain ⟨fresh, distinct⟩ := List.nodup_cons.1 distinct
      rw [List.foldl_cons, ih _ distinct, own]
      by_cases same : k = j
      · subst same; simp [fresh]
      · simp [same, stable _ _ _ same]
  have every : ∀ k, k ∈ armIxs := by decide
  rw [each armIxs s (by decide), if_pos (every k)]

/-! ### Aborts (R23) -/

/-- What an abort makes of an arm. -/
def State.abortedArm (s : State) (e : EndReason) (k : Fin 4) : Arm :=
  match (s.arm k).state with
  | .lowStart | .full | .slowdown | .suspended => s.stopped k e
  | .ready | .waitInjector => { s.arm k with state := .idle, batch := none }
  | .idle | .stopping => s.arm k

/-- What an orderly close makes of an arm that is not running. -/
def State.cancelledArm (s : State) (k : Fin 4) : Arm :=
  match (s.arm k).state with
  | .ready | .waitInjector => { s.arm k with state := .idle, batch := none }
  | _ => s.arm k

section
variable (s : State)

theorem State.arm_abortArm (e : EndReason) (j k : Fin 4) :
    (s.abortArm e j).arm k = if k = j then s.abortedArm e k else s.arm k := by
  unfold abortArm abortedArm
  by_cases same : k = j
  · subst same
    split <;> simp [arm_enterStopping, arm_cancel, *]
  · split <;> simp [arm_enterStopping, arm_cancel, same]

theorem State.arm_cancelReady (j k : Fin 4) :
    (s.cancelReady j).arm k = if k = j then s.cancelledArm k else s.arm k := by
  unfold cancelReady cancelledArm
  by_cases same : k = j
  · subst same
    split <;> simp [arm_cancel, *]
  · split <;> simp [arm_cancel, same]

theorem State.stopped_congr {s t : State} (now : t.now = s.now) (tables : t.tables = s.tables) {k : Fin 4}
    (arm : t.arm k = s.arm k) (r : EndReason) : t.stopped k r = s.stopped k r := by
  simp only [stopped, now, arm, armEntry, tables]

theorem State.arm_foldl_abortArm (e : EndReason) (k : Fin 4) :
    (armIxs.foldl (abortArm e) s).arm k = s.abortedArm e k := by
  refine arm_foldl (fun s j k => s.arm_abortArm e j k) (fun s j k other => ?_) s k
  have same : (s.abortArm e j).arm k = s.arm k := by rw [arm_abortArm, if_neg other]
  simp only [abortedArm, same, stopped_congr (t := s.abortArm e j) (s := s) (by simp) (by simp) same]

theorem State.arm_foldl_cancelReady (k : Fin 4) : (armIxs.foldl cancelReady s).arm k = s.cancelledArm k := by
  refine arm_foldl (fun s j k => s.arm_cancelReady j k) (fun s j k other => ?_) s k
  simp only [cancelledArm, arm_cancelReady, if_neg other]

theorem State.abortedArm_shut (e : EndReason) (k : Fin 4) : openable (s.abortedArm e k).state = false := by
  unfold abortedArm
  split <;> simp [stopped, openable, *]

theorem State.opensInSession_of_shut (shut : ∀ k, openable (s.arm k).state = false) : s.opensInSession :=
  fun k opens => by simp [shut k] at opens

theorem State.allIdle_iff : s.allIdle = true ↔ ∀ k, (s.arm k).state = .idle := by
  have every : ∀ k, k ∈ armIxs := by decide
  simp [allIdle, every]

theorem State.noneRunning_iff : s.noneRunning = true ↔ ∀ k, (s.arm k).state.running = false := by
  have every : ∀ k, k ∈ armIxs := by decide
  simp [noneRunning, every]

theorem State.closeIfDone_keeps : s.Keeps s.closeIfDone := by
  unfold closeIfDone
  split
  · split
    · split_ifs with idle
      · exact s.closeSession_keeps _ fun k => by rw [s.allIdle_iff.1 idle k]; rfl
      · exact .refl s
    · exact .refl s
  · exact .refl s

/-- A session that takes a close reason stays open and unclosed. -/
theorem State.setClosing_keepsBut (reason : CloseReason) :
    KeepsBut .opens s (s.updSession fun r => { r with closing := some reason }) := by
  refine .of_session rfl ?_
  simp only [notesSound_iff, updSession, setRecord, withSession, Option.isSome_map, Option.map_eq_none_iff]
  rintro ⟨inUse, one, presented, unclosed⟩
  refine ⟨inUse, one, presented, fun r hr => ?_⟩
  obtain ⟨x, hx, rfl⟩ := Option.map_eq_some_iff.1 hr
  exact unclosed x hx

/-- An abort leaves no arm set up, waiting or flowing, and only then the session may close. -/
theorem State.abort_keeps (reason : CloseReason) (e : EndReason) : s.Keeps (s.abort reason e) := by
  refine ((s.setClosing_keepsBut reason).trans (.foldl (fun t k => t.abortArm_keeps e k) armIxs _)).mend
    (fun _ => ?_) |>.trans (closeIfDone_keeps _)
  exact opensInSession_of_shut _ fun k => by rw [arm_foldl_abortArm, abortedArm_shut]

theorem State.orderlyClose_keeps (reason : CloseReason) (noneRunning : s.noneRunning = true) :
    s.Keeps (s.orderlyClose reason) := by
  refine (Keeps.foldl (fun t k => t.cancelReady_keeps k) armIxs s).trans (closeSession_keeps _ _ fun k => ?_)
  have still := s.noneRunning_iff.1 noneRunning k
  rw [arm_foldl_cancelReady]
  unfold cancelledArm
  cases state : (s.arm k).state <;> simp [state, openable] <;> simp [state, ArmState.running] at still

end

/-! ### Faults (chapter 2) -/

section
variable (s : State)

theorem State.faultArm_keeps (k : Fin 4) : s.Keeps (s.faultArm k) := by
  unfold faultArm
  split <;> first | exact s.enterStopping_keeps _ (by simp [*]) | exact .refl s

theorem State.stopArmResponse_keeps (c : FaultClass) (k : Option (Fin 4)) : s.Keeps (s.stopArmResponse c k) := by
  unfold stopArmResponse
  dsimp only
  split
  · exact (s.setFault_keeps _ _).trans (faultArm_keeps _ _)
  · exact s.setFault_keeps _ _

/-- A closing session has no arm set up, waiting or flowing, so its reason may change. -/
theorem State.setClosing_keeps (closing : s.bayState = .closing) (reason : CloseReason) :
    s.Keeps (s.updSession fun r => { r with closing := some reason }) :=
  (s.setClosing_keepsBut reason).mend fun opens k open_ => by cases closing.symm.trans (opens k open_)

@[simp] theorem State.setFault_bayState_closing (c : FaultClass) (r : FaultRec) :
    (s.setFault c r).bayState = .closing ↔ s.bayState = .closing := by
  cases record : s.session.record with
  | none =>
    rw [bayState_of_none _ record, bayState_of_none _ (by simpa using record)]
    split_ifs <;> simp
  | some r => rw [bayState_eq_of_open (s := s) (by simp) (by simp [record])]

theorem State.stopBayResponse_keeps (c : FaultClass) : s.Keeps (s.stopBayResponse c) := by
  have latched := s.setFault_keeps c { s.fault c with latch := some .stopBay }
  unfold stopBayResponse
  dsimp only
  split
  · exact latched.trans (abort_keeps _ _ _)
  · exact latched.trans (setClosing_keeps _ (by simpa) _)
  all_goals exact latched.trans (settlePresentation_keeps _)

theorem State.respond_keeps (c : FaultClass) (k : Option (Fin 4)) (m : ResponseMode) : s.Keeps (s.respond c k m) := by
  unfold respond
  split
  · exact .refl s
  · exact .refl s
  · exact s.stopArmResponse_keeps c k
  · exact s.stopBayResponse_keeps c

theorem State.flagMeter_keeps (c : FaultClass) (k : Option (Fin 4)) : s.Keeps (s.flagMeter c k) := by
  unfold flagMeter
  split
  · exact .ite (s.updBatch_keeps _ fun _ => rfl) (.refl s)
  · exact .ite (s.updBatch_keeps _ fun _ => rfl) (.refl s)
  · exact .refl s

theorem State.reportFault_keeps (c : FaultClass) (k : Option (Fin 4)) (x : Subject) (drill : Bool) (m : ResponseMode) :
    s.Keeps (s.reportFault c k x drill m) :=
  .ite (s.setFault_keeps c _) ((s.setFault_keeps c _).trans (raise_keeps _ _))

theorem State.raiseFault_keeps (c : FaultClass) (k : Option (Fin 4)) (x : Subject) (drill : Bool)
    (action : Option FailureAction) : s.Keeps (s.raiseFault c k x drill action) := by
  unfold raiseFault
  exact ((s.flagMeter_keeps c k).trans (reportFault_keeps _ _ _ _ _ _)).trans (respond_keeps _ _ _ _)

theorem State.armFault_keeps (c : FaultClass) (k : Fin 4) : s.Keeps (s.armFault c k) := by
  unfold armFault
  exact s.raiseFault_keeps c _ _ _ _

theorem State.raiseDose_keeps (k : Fin 4) (d : DoseRec) : s.Keeps (s.raiseDose k d) := by
  unfold raiseDose
  refine .trans ?_ (raiseFault_keeps _ _ _ _ _ _)
  exact s.updBatch_keeps k fun _ => rfl

theorem State.clearFault_keeps (c : FaultClass) : s.Keeps (s.clearFault c) := by
  rw [clearFault_eq]
  have raised : s.Keeps (if (s.policy c).mask then s else s.raise (.faultCleared c (s.fault c).count)) :=
    .ite (.refl s) (s.raise_keeps _)
  refine raised.trans (.of_watched ?_)
  rw [raise_eq_raised]
  split_ifs <;> rfl

end

end Sys2Proof.Machine
end

section
/-! SUPPORT. What the additive unit, the batch operations and the meter channels keep (chapters 3 to 6). -/

namespace Sys2Proof.Machine

/-! ### Grants and starts (R90 to R93, R115 to R118) -/

section
variable (s : State)

theorem State.grantDose_keeps (k : Fin 4) (r : RecipeEntry) (d : Dose) : s.Keeps (State.grantDose k r s d) := by
  unfold grantDose
  split
  case h_1 j found =>
    have fit : 2000 ≤ doseInterval (s.injEntry j).stroke d.rate := by
      have := List.find?_some found
      simp only [fit, Bool.and_eq_true, decide_eq_true_eq] at this
      exact this.1.2
    refine (s.setInj_keeps j _).trans (updBatch_keeps_of_dosed _ k fun b dosed x hx => ?_)
    rcases List.mem_append.1 hx with old | new
    · exact dosed x old
    · rw [List.mem_singleton.1 new]
      exact fit
  case h_2 => exact .refl s

theorem State.grant_keeps (k : Fin 4) (recipe : Option (Fin 16)) : s.Keeps (s.grant k recipe) := by
  unfold grant
  split
  · exact .foldl (fun t d => t.grantDose_keeps k _ d) _ s
  · exact .refl s

/-- A grant leaves every arm's state. -/
theorem State.grant_arm_state (k j : Fin 4) (recipe : Option (Fin 16)) :
    ((s.grant k recipe).arm j).state = (s.arm j).state := by
  have one (r : RecipeEntry) (t : State) (d : Dose) : ((State.grantDose k r t d).arm j).state = (t.arm j).state := by
    unfold grantDose
    split
    · simp only [updBatch, arm_setArm]
      split_ifs with same
      · subst same; rfl
      · rfl
    · rfl
  unfold grant
  split
  case h_1 i =>
    generalize s.recipe i = r
    generalize r.doses = l
    induction l generalizing s with
    | nil => rfl
    | cons d l ih => rw [List.foldl_cons, ih, one]
  case h_2 => rfl

theorem State.revoke_keeps (k : Fin 4) : s.Keeps (s.revoke k) := by
  unfold revoke
  split
  · exact (Keeps.foldl (fun t (d : DoseRec) => t.freeInj_keeps d.injector) _ s).trans
      (updBatch_keeps_of_dosed _ k fun _ _ _ hx => absurd hx List.not_mem_nil)
  · exact .refl s

theorem State.revoke_arm_state (k j : Fin 4) : ((s.revoke k).arm j).state = (s.arm j).state := by
  have freed (l : List DoseRec) (t : State) : (l.foldl (fun t d => t.freeInj d.injector) t).arm j = t.arm j := by
    induction l generalizing t with
    | nil => rfl
    | cons d l ih => rw [List.foldl_cons, ih]; rfl
  unfold revoke
  split
  · simp only [updBatch, arm_setArm]
    split_ifs with same
    · subst same; rw [freed]
    · rw [freed]
  · rfl

theorem State.permitted_of_startRefusal {k : Fin 4} (h : s.startRefusal k = none) : s.permitted = true := by
  unfold startRefusal at h
  by_contra open_
  rw [Bool.not_eq_true] at open_
  rw [open_] at h
  split_ifs at h
  simp at *

variable {s} in
/-- An arm that is set up, waits or flows may move on, to a flow state while the inputs stand PERMITTED. -/
theorem State.moveArm_open_keeps {k : Fin 4} {st : ArmState} (opens : openable (s.arm k).state = true)
    (permitted : st.flowing = true → s.permitted = true) : s.Keeps (s.moveArm k st) := by
  refine moveArm_keeps ⟨fun _ => .inl opens, fun flows => .inr (permitted flows), fun dosed _ => dosed fun idle => ?_⟩
  rw [idle] at opens
  cases opens

theorem State.arm_updBatch (k j : Fin 4) (f : Batch → Batch) :
    (s.updBatch k f).arm j = if j = k then { s.arm k with batch := (s.arm k).batch.map f } else s.arm j :=
  s.arm_setArm k j _

theorem State.permitted_setArm (k : Fin 4) (a : Arm) : (s.setArm k a).permitted = s.permitted := permitted_congr rfl

theorem State.permitted_updBatch (k : Fin 4) (f : Batch → Batch) : (s.updBatch k f).permitted = s.permitted :=
  permitted_congr rfl

variable {s} in
/-- An arm that is set up or waits may start to flow while the inputs stand PERMITTED. -/
theorem State.enterFlow_keeps {k : Fin 4} (opens : openable (s.arm k).state = true) (permitted : s.permitted = true) :
    s.Keeps (s.enterFlow k) := by
  unfold enterFlow
  dsimp only
  have opens' := s.arm_updBatch k k fun b => b.started (Vec.get s.custody.gross k)
  have permitted' := s.permitted_updBatch k fun b => b.started (Vec.get s.custody.gross k)
  have started := s.updBatch_keeps k (f := fun b => b.started (Vec.get s.custody.gross k)) fun _ => rfl
  generalize (s.updBatch k fun b => b.started (Vec.get s.custody.gross k)) = t at opens' permitted' started ⊢
  rw [if_pos rfl] at opens'
  have cleared : t.Keeps (t.setArm k { t.arm k with noFlow := 0 }) := setArm_keeps_of_same _ rfl rfl
  have moved : s.Keeps ((t.setArm k { t.arm k with noFlow := 0 }).moveArm k .lowStart) := by
    refine (started.trans cleared).trans (moveArm_open_keeps ?_ fun _ => ?_)
    · rwa [arm_setArm, if_pos rfl, opens']
    · rwa [permitted_setArm, permitted']
  split
  · exact moved.trans (raise_keeps _ _)
  · exact moved

theorem State.refuseGrant_keeps (k : Fin 4) (source : StartSource) (r : BatchReason) :
    s.Keeps (s.refuseGrant k source r) := by
  unfold refuseGrant
  dsimp only
  split
  · exact (s.raise_keeps _).trans (tellKeypad_keeps _ _ _)
  · exact s.raise_keeps _

theorem State.tellStarted_keeps (k : Fin 4) (source : StartSource) : s.Keeps (s.tellStarted k source) := by
  unfold tellStarted
  split
  · exact s.tellKeypad_keeps _ _
  · exact .refl s

variable {s} in
theorem State.backToReady_keeps {k : Fin 4} (preset : Nat) (opens : openable (s.arm k).state = true) :
    s.Keeps (s.backToReady k preset) := by
  have moved : s.Keeps (s.moveArm k .ready) := moveArm_open_keeps opens nofun
  exact moved.trans (unreserve_keeps _ _)

theorem State.scanArm_keeps (k : Fin 4) : s.Keeps (s.scanArm k) := by
  have unwaited := s.unwait_keeps k
  unfold scanArm
  split
  case h_2 => exact .refl s
  case h_1 b waits _ =>
    have opens : openable ((s.unwait k).arm k).state = true := by
      show openable (s.arm k).state = true
      rw [waits]; rfl
    split
    · exact .refl s
    · exact (unwaited.trans (backToReady_keeps _ opens)).trans (refuseGrant_keeps _ _ _ _)
    · have granted := unwaited.trans (grant_keeps _ k b.recipe)
      rw [← (s.unwait k).grant_arm_state k k b.recipe] at opens
      dsimp only
      split
      · refine ((granted.trans (revoke_keeps _ k)).trans (backToReady_keeps _ ?_)).trans (refuseGrant_keeps _ _ _ _)
        rwa [revoke_arm_state]
      case h_2 allowed =>
        exact (granted.trans (enterFlow_keeps opens (permitted_of_startRefusal _ allowed))).trans (tellStarted_keeps _ _ _)

theorem State.scan_keeps : s.Keeps s.scan := .foldl (fun t k => t.scanArm_keeps k) _ s

/-! ### Injections and doses (R120 to R128) -/

theorem State.openInjection_keeps (k : Fin 4) (i : Nat) (d : DoseRec) : s.Keeps (s.openInjection k i d) :=
  .of_watched rfl

theorem State.demand_keeps (k : Fin 4) (i : Nat) : s.Keeps (State.demand k i s) := by
  unfold demand
  split
  · exact .refl s
  · have due := s.updDose_keeps k i (f := fun x => { x with nextDue := x.nextDue + x.interval }) fun _ => rfl
    have owe := due.trans (updDose_keeps _ k i (f := fun x => { x with owed := x.owed + 1 }) fun _ => rfl)
    dsimp only
    split
    · exact .ite owe due
    · split
      · exact due.trans (openInjection_keeps _ _ _ _)
      · refine .ite owe (.ite due ((due.trans (updDose_keeps _ k i ?_)).trans (raiseDose_keeps _ _ _)))
        exact fun _ => rfl
      · exact due

theorem State.doseDemands_keeps (k : Fin 4) (gross i : Nat) : s.Keeps (State.doseDemands k gross s i) := by
  unfold doseDemands
  split
  · exact .foldl (fun t _ => t.demand_keeps k i) _ s
  · exact .refl s

theorem State.demands_keeps (k : Fin 4) : s.Keeps (s.demands k) := by
  unfold demands
  split
  · exact .foldl (fun t i => t.doseDemands_keeps k _ i) _ s
  · exact .refl s

theorem State.injectorFailed_keeps (j : Fin 6) (owner : Option (Fin 4 × Nat)) : s.Keeps (s.injectorFailed j owner) := by
  unfold injectorFailed
  dsimp only
  refine .trans ?_ (scan_keeps _)
  have freed := ((s.raiseFault_keeps .injector (s.inj j).claimant (.injector j) false none).trans
    (outOfService_keeps _ j)).trans (freeInj_keeps _ j)
  split
  case h_2 => exact freed
  case h_1 k i =>
    have lost := (freed.trans (updDose_keeps _ k i (f := fun d => { d with claimLost := true }) fun _ => rfl)).trans
      (updBatch_keeps _ k (f := fun b => { b with flags := { b.flags with injectorLost := true } }) fun _ => rfl)
    split
    · exact lost.trans (raiseDose_keeps _ _ _)
    · exact lost

theorem State.doseCheck_keeps (k : Fin 4) (i : Nat) : s.Keeps (s.doseCheck k i) := by
  unfold doseCheck
  have inTolerance := s.updDose_keeps k i (f := fun x => { x with outCount := 0 }) fun _ => rfl
  split
  · dsimp only
    refine .ite (.refl s) (.ite (.ite ?_ ?_) inTolerance)
    · exact (inTolerance.trans (raise_keeps _ _)).trans (raiseDose_keeps _ _ _)
    · exact s.updDose_keeps k i fun _ => rfl
  · exact .refl s

theorem State.continueDose_keeps (j : Fin 6) (k : Fin 4) (i : Nat) : s.Keeps (s.continueDose j k i) := by
  unfold continueDose
  split
  · refine .trans (.ite ?_ ?_) (doseCheck_keeps _ _ _)
    · exact (s.openInjection_keeps _ _ _).trans (updDose_keeps _ _ _ fun _ => rfl)
    · exact s.setInj_keeps _ _
  · exact s.setInj_keeps _ _

theorem State.closeInjection_keeps (j : Fin 6) (onTimeout : Bool) : s.Keeps (s.closeInjection j onTimeout) := by
  unfold closeInjection
  extract_lets x miss n s1 s2
  have closed : s.Keeps s1 := s.setInj_keeps _ _
  have counted : s.Keeps s2 := by
    unfold s2
    split
    · exact closed.trans (updDose_keeps _ _ _ fun _ => rfl)
    · exact closed
  clear_value s2
  split
  · exact counted.trans (injectorFailed_keeps _ _ _)
  · split
    · exact counted.trans (continueDose_keeps _ _ _ _)
    · exact (counted.trans (freeInj_keeps _ _)).trans (scan_keeps _)

theorem State.feedback_keeps (j : Fin 6) : s.Keeps (s.feedback j) := by
  unfold feedback
  extract_lets x share inc s1 s2
  have credited : s.Keeps s1 := (s.setInj_keeps _ _).trans (creditAdditive_keeps _ _ _)
  have measured : s.Keeps s2 := by
    unfold s2
    split
    · exact credited.trans (updDose_keeps _ _ _ fun _ => rfl)
    · exact credited
  clear_value s2
  exact .ite (.ite (measured.trans (closeInjection_keeps _ _ _)) measured) (s.setInj_keeps _ _)

theorem State.finaliseDose_keeps (k : Fin 4) (gross i : Nat) : s.Keeps (State.finaliseDose k gross s i) := by
  unfold finaliseDose
  split
  · exact (s.setInj_keeps _ _).trans (updDose_keeps _ _ _ fun _ => rfl)
  · exact .refl s

theorem State.releaseDoses_keeps (k : Fin 4) (inReset : Bool) : s.Keeps (s.releaseDoses k inReset) := by
  unfold releaseDoses
  split
  case h_1 b _ =>
    have finalised := Keeps.foldl (fun (t : State) i => t.finaliseDose_keeps k b.gross i) (List.range b.doses.length) s
    exact .ite finalised (finalised.trans (scan_keeps _))
  · exact .refl s

/-! ### Temperature samples (R68 to R70) -/

theorem State.badSample_keeps (k : Fin 4) : s.Keeps (s.badSample k) := s.setVol_keeps _ _

theorem State.goodSample_keeps (k : Fin 4) (t : Int) : s.Keeps (s.goodSample k t) := by
  unfold goodSample
  dsimp only
  refine (s.setVol_keeps k _).trans (updBatch_keeps _ k ?_)
  exact fun _ => rfl

theorem State.goStale_keeps (k : Fin 4) : s.Keeps (s.goStale k) := by
  unfold goStale
  exact (s.setVol_keeps k _).trans (raise_keeps _ _)

/-! ### The batch operations (R86 to R102) -/

/-- The checks of a setup that is taken: the arm is IDLE and the bay in SESSION. -/
theorem State.setupCheck_ok {k : Fin 4} {f : SetupFields} {p : SetupPlan} (h : s.setupCheck k f = .ok p) :
    (s.arm k).state = .idle ∧ s.bayState = .session := by
  unfold setupCheck at h
  split_ifs at h with busy closed
  exact ⟨not_not.1 busy, not_not.1 closed⟩

theorem State.setup_keeps (k : Fin 4) (f : SetupFields) (source : StartSource) : s.Keeps (s.setup k f source).1 := by
  unfold setup
  split
  · exact .refl s
  case h_2 p checked =>
    obtain ⟨idle, session⟩ := s.setupCheck_ok checked
    have newDoses : ∀ b, some (s.newBatch k f source p) = some b → b.doses = [] := fun b hb => by
      rw [← Option.some.inj hb]; rfl
    have placed : s.Keeps (s.setArm k { s.arm k with batch := some (s.newBatch k f source p) }) :=
      setArm_keeps ⟨.inl, .inl, fun _ nonIdle => absurd idle nonIdle⟩
    refine (placed.trans (claim_keeps _ _ _)).trans (moveArm_keeps ⟨fun _ => .inr ?_, nofun, fun _ _ b hb => ?_⟩)
    · obtain ⟨r, hr, going⟩ := s.bayState_eq_session_iff.1 session
      refine (bayState_eq_session_iff _).2 ⟨{ r with claims := Vec.set r.claims f.compartment (some k) }, ?_, going⟩
      simp [claim, updSession, setRecord, hr]
    · simp [claim, updSession, setRecord, arm, setArm] at hb
      rw [newDoses b (by rw [hb])]
      nofun

theorem State.joinWaiting_keeps {k : Fin 4} (recipe : Option (Fin 16)) (opens : openable (s.arm k).state = true)
    (fewer : s.additive.waiting.length < 3) : s.Keeps (s.joinWaiting k recipe) := by
  have joined : s.Keeps (s.withAdditive { s.additive with waiting := s.additive.waiting ++ [k] }) := by
    refine .of_queues rfl ?_
    rw [bounded_iff, bounded_iff]
    rintro ⟨h1, h2, h3, h4, h5, -, h7⟩
    refine ⟨h1, h2, h3, h4, h5, ?_, h7⟩
    simp only [withAdditive, List.length_append, List.length_singleton]
    exact fewer
  unfold joinWaiting
  have moved := moveArm_open_keeps (s := s.withAdditive { s.additive with waiting := s.additive.waiting ++ [k] })
    (k := k) (st := .waitInjector) opens (fun flows => by cases flows)
  exact (joined.trans moved).trans (raise_keeps _ _)

theorem State.takeStart_keeps {k : Fin 4} (b : Batch) (source : StartSource) (wait : Bool)
    (opens : openable (s.arm k).state = true) (permitted : s.permitted = true)
    (fewer : wait = true → s.additive.waiting.length < 3) : s.Keeps (s.takeStart k b source wait).1 := by
  unfold takeStart
  extract_lets s1
  have sourced : s.Keeps (s.updBatch k fun b => { b with source := source }) := s.updBatch_keeps k fun _ => rfl
  have reserved : s.Keeps s1 := sourced.trans (reserve_keeps _ _)
  have opens1 : openable (s1.arm k).state = true := by
    rw [arm_congr (t := s1) (s := s.updBatch k fun b => { b with source := source }) rfl k, arm_updBatch, if_pos rfl]
    exact opens
  have permitted1 : s1.permitted = true := (permitted_congr rfl).trans permitted
  have fewer1 : wait = true → s1.additive.waiting.length < 3 := fewer
  clear_value s1
  split
  case isTrue waits => exact reserved.trans (joinWaiting_keeps _ _ opens1 (fewer1 waits))
  case isFalse =>
    refine (reserved.trans (grant_keeps _ k b.recipe)).trans (enterFlow_keeps ?_ ?_)
    · rwa [grant_arm_state]
    · rwa [permitted_congr (s := s1) (by simp)]

theorem State.start_keeps (k : Fin 4) (source : StartSource) : s.Keeps (s.start k source).1 := by
  unfold start
  split
  case h_2 => exact .refl s
  case h_1 ready _ =>
    have opens : openable (s.arm k).state = true := by rw [ready]; rfl
    split
    · exact .refl s
    case h_2 allowed =>
      have permitted := s.permitted_of_startRefusal allowed
      split
      · exact .refl s
      · split_ifs with full
        · exact .refl s
        · exact s.takeStart_keeps _ _ _ opens permitted fun _ => by omega
      · exact s.takeStart_keeps _ _ _ opens permitted nofun

theorem State.stop_keeps (k : Fin 4) : s.Keeps (s.stop k).1 := by
  unfold stop
  split
  · exact s.enterStopping_keeps _ (by simp [*])
  · exact s.enterStopping_keeps _ (by simp [*])
  · exact s.enterStopping_keeps _ (by simp [*])
  · exact s.enterStopping_keeps _ (by simp [*])
  · exact .refl s
  case h_6 waits =>
    have opens : openable ((s.unwait k).arm k).state = true := by
      show openable (s.arm k).state = true
      rw [waits]; rfl
    split
    · exact (s.unwait_keeps k).trans (backToReady_keeps _ opens)
    · exact (s.unwait_keeps k).trans (moveArm_open_keeps opens nofun)
  · exact s.cancel_keeps k
  · exact .refl s

theorem State.suspendOp_keeps (k : Fin 4) : s.Keeps (s.suspendOp k).1 := by
  unfold suspendOp
  split
  · exact s.suspend_keeps _ _
  · exact s.suspend_keeps _ _
  · exact s.suspend_keeps _ _
  all_goals exact .refl s

variable {s} in
/-- An arm that holds a batch may move to any state in SESSION while the inputs stand PERMITTED. -/
theorem State.moveArm_session_keeps {k : Fin 4} {st : ArmState} (nonIdle : (s.arm k).state ≠ .idle)
    (session : s.bayState = .session) (permitted : s.permitted = true) : s.Keeps (s.moveArm k st) :=
  moveArm_keeps ⟨fun _ => .inr session, fun _ => .inr permitted, fun dosed _ => dosed nonIdle⟩

theorem State.takeResume_keeps {k : Fin 4} (suspended : (s.arm k).state = .suspended) (session : s.bayState = .session)
    (permitted : s.permitted = true) : s.Keeps (s.takeResume k) := by
  unfold takeResume
  extract_lets cause s1
  have uncaused : s.Keeps s1 := by
    refine s.updBatch_keeps k ?_
    exact fun _ => rfl
  have stands : (s1.arm k).state = .suspended := by
    rw [arm_updBatch, if_pos rfl]
    exact suspended
  have session1 : s1.bayState = .session := (bayState_eq_session_iff _).2 (s.bayState_eq_session_iff.1 session)
  have permitted1 : s1.permitted = true := (permitted_congr rfl).trans permitted
  clear_value s1
  have cleared : s1.Keeps (s1.setArm k { s1.arm k with noFlow := 0, stopTimer := none, zeroCloses := 0 }) :=
    setArm_keeps_of_same _ rfl rfl
  refine ((uncaused.trans cleared).trans (moveArm_session_keeps ?_ ?_ ?_)).trans (raise_keeps _ _)
  · rw [arm_setArm, if_pos rfl]
    exact fun idle => by cases stands.symm.trans idle
  · exact (bayState_eq_session_iff _).2 (s1.bayState_eq_session_iff.1 session1)
  · rwa [permitted_setArm]

theorem State.resume_keeps (k : Fin 4) : s.Keeps (s.resume k).1 := by
  unfold resume
  split_ifs with elsewhere blocked
  · exact .refl s
  · exact .refl s
  · simp only [not_or, not_not] at elsewhere
    simp only [Bool.or_eq_true, not_or, Bool.not_eq_true, Bool.not_eq_false'] at blocked
    exact s.takeResume_keeps elsewhere.1 elsewhere.2 blocked.1

/-! ### Batch end (R105, R106) -/

theorem State.charge_keeps (l : Nat) : s.Keeps (s.charge l) := by
  unfold charge
  split
  · split
    · exact s.updSession_keeps (fun _ => rfl) fun _ => rfl
    · exact s.setPermit_keeps _ _
    · exact .refl s
  · exact .refl s

theorem State.markProduct_keeps (b : Batch) : s.Keeps (s.markProduct b) := by
  unfold markProduct
  split
  · exact .ite (s.setLastProduct_keeps _ _ _) (.refl s)
  · exact .refl s

theorem State.dropBatch_keeps (k : Fin 4) : s.Keeps (s.dropBatch k) := by
  unfold dropBatch
  extract_lets a s1
  have dropped : s.Keeps s1 := s.setArm_keeps_of_none rfl rfl
  exact (dropped.trans (setVol_keeps _ k _)).trans (moveArm_idle_keeps _ k)

theorem State.recordEnd_keeps (k : Fin 4) (b : Batch) (reason : EndReason) : s.Keeps (s.recordEnd k b reason) := by
  unfold recordEnd
  dsimp only
  refine .trans (.trans ((((s.unreserve_keeps _).trans (charge_keeps _ _)).trans (markProduct_keeps _ _)).trans
    (unclaim_keeps _ _)) (updSession_keeps _ ?_ ?_)) (raise_keeps _ _)
  · exact fun _ => rfl
  · exact fun _ => rfl

theorem State.batchEnd_keeps (k : Fin 4) (reason : EndReason) (inReset : Bool) :
    s.Keeps (s.batchEnd k reason inReset) := by
  unfold batchEnd
  dsimp only
  refine (s.releaseDoses_keeps k inReset).trans ?_
  split
  · exact (recordEnd_keeps _ _ _ _).trans (dropBatch_keeps _ _)
  · exact dropBatch_keeps _ _

theorem State.observeOverrun_keeps (k : Fin 4) : s.Keeps (s.observeOverrun k) := by
  unfold observeOverrun
  split
  · extract_lets o s1 a s2
    have stored : s.Keeps s1 := s.updBatch_keeps k fun _ => rfl
    have joined : s.Keeps s2 := .ite (stored.trans (setArm_keeps_of_same _ rfl rfl)) stored
    clear_value s2
    exact .ite (joined.trans (armFault_keeps _ _ _)) joined
  · exact .refl s

end

end Sys2Proof.Machine
end

section
/-! SUPPORT. What the meter channels and the two ports keep (chapters 3 and 8). -/

namespace Sys2Proof.Machine

/-! ### The meter channels (R48 to R62, R94 to R99, R104) -/

section
variable (s : State)

theorem State.aEdge_keeps (k : Fin 4) : s.Keeps (s.aEdge k) := by
  unfold aEdge
  extract_lets _ m c
  refine .ite (s.setMeter_keeps _ _) (.ite (s.setMeter_keeps _ _) (.ite (s.setMeter_keeps _ _) ?_))
  exact (s.setMeter_keeps _ _).trans (armFault_keeps _ _ _)

theorem State.discrepancy_keeps (k : Fin 4) : s.Keeps (s.discrepancy k) := by
  unfold discrepancy
  extract_lets m d h c
  exact .ite ((s.setMeter_keeps _ _).trans (armFault_keeps _ _ _)) (s.setMeter_keeps _ _)

theorem State.creditBatch_keeps {k : Fin 4} {b : Batch} (held : (s.arm k).batch = some b) (f : Nat) :
    s.Keeps (s.creditBatch k b f) := by
  unfold creditBatch
  extract_lets m g x a t
  have credited : s.Keeps (s.setArm k { s.arm k with batch := some (b.credited (s.vol k).temp g.1 g.2) }) :=
    setArm_keeps ⟨.inl, .inl, fun dosed nonIdle c hc => by
      rw [← Option.some.inj hc]
      exact dosed nonIdle b held⟩
  have totalled : s.Keeps t := (credited.trans (creditGross_keeps _ _ _)).trans (creditStandard_keeps _ _ _)
  exact .ite totalled (totalled.trans (demands_keeps _ _))

theorem State.creditUnauth_keeps (k : Fin 4) (f : Nat) : s.Keeps (s.creditUnauth k f) := by
  unfold creditUnauth
  extract_lets m g
  exact ((s.setVol_keeps k _).trans (setMeter_keeps _ _ _)).trans (creditGross_keeps _ _ _)

theorem State.credit_keeps (k : Fin 4) : s.Keeps (s.credit k) := by
  unfold credit
  extract_lets v f s1
  have selected : s.Keeps s1 := s.setVol_keeps _ _
  split
  case h_1 held => exact selected.trans (s1.creditBatch_keeps held _)
  case h_2 => exact selected.trans (creditUnauth_keeps _ _ _)

theorem State.unauthCheck_keeps (k : Fin 4) : s.Keeps (s.unauthCheck k) := by
  unfold unauthCheck
  exact .ite ((s.setMeter_keeps _ _).trans (armFault_keeps _ _ _)) (.refl s)

theorem State.noFlow_keeps (k : Fin 4) (n : Nat) : s.Keeps (s.noFlow k n) := by
  unfold noFlow
  extract_lets t a s1
  have timed : s.Keeps s1 := s.setArm_keeps_of_same rfl rfl
  exact .ite (timed.trans (suspend_keeps _ _ _)) timed

theorem State.examineFlow_keeps {k : Fin 4} (b : Batch) (n : Nat) (flowing : (s.arm k).state.flowing = true) :
    s.Keeps (s.examineFlow k b n) := by
  have nonIdle : (s.arm k).state ≠ .idle := fun idle => by rw [idle] at flowing; cases flowing
  unfold examineFlow
  split
  · exact s.enterStopping_keeps _ nonIdle
  · split
    · exact moveArm_keeps ⟨fun _ => .inl (openable_of_flowing flowing), fun _ => .inl flowing, fun dosed _ => dosed nonIdle⟩
    · exact s.noFlow_keeps _ _

theorem State.examineSuspended_keeps (k : Fin 4) (n : Nat) : s.Keeps (s.examineSuspended k n) := by
  unfold examineSuspended
  exact .ite (s.setArm_keeps_of_same rfl rfl) (.ite (s.setArm_keeps_of_same rfl rfl) (s.setArm_keeps_of_same rfl rfl))

theorem State.endStopped_keeps (k : Fin 4) : s.Keeps (s.endStopped k) := by
  unfold endStopped
  extract_lets a s1
  have untimed : s.Keeps (s.setArm k { s.arm k with stopTimer := none }) := s.setArm_keeps_of_same rfl rfl
  have observed : s.Keeps s1 := untimed.trans (observeOverrun_keeps _ _)
  exact (observed.trans (batchEnd_keeps _ _ _ _)).trans (closeIfDone_keeps _)

theorem State.examineStopping_keeps (k : Fin 4) (n : Nat) : s.Keeps (s.examineStopping k n) := by
  unfold examineStopping
  extract_lets a s1
  have counted : s.Keeps s1 := s.setArm_keeps_of_same rfl rfl
  exact .ite (.ite (counted.trans (endStopped_keeps _ _)) counted) (s.setArm_keeps_of_same rfl rfl)

theorem State.examine_keeps (k : Fin 4) : s.Keeps (s.examine k) := by
  unfold examine
  extract_lets n
  split
  case h_1 state _ => exact s.examineFlow_keeps _ _ (by rw [state]; rfl)
  case h_2 state _ => exact s.examineFlow_keeps _ _ (by rw [state]; rfl)
  case h_3 state _ => exact s.examineFlow_keeps _ _ (by rw [state]; rfl)
  case h_4 => exact s.examineSuspended_keeps _ _
  case h_5 => exact s.examineStopping_keeps _ _
  case h_6 => exact .refl s

theorem State.closeWindow_keeps (k : Fin 4) : s.Keeps (s.closeWindow k) := by
  unfold closeWindow
  exact .ite (((((s.setMeter_keeps _ _).trans (discrepancy_keeps _ _)).trans (credit_keeps _ _)).trans
    (unauthCheck_keeps _ _)).trans (examine_keeps _ _)) (.refl s)

theorem State.startChannel_keeps (k : Fin 4) (a b n : Nat) : s.Keeps (s.startChannel k a b n) := .of_watched rfl

theorem State.restartArm_keeps (k : Fin 4) : s.Keeps (s.restartArm k) := by
  unfold restartArm
  extract_lets a s1 s2
  have emptied : s.Keeps (s.setArm k { s.arm k with history := [] }) := s.setArm_keeps_of_same rfl rfl
  have closed : s.Keeps s1 := emptied.trans (closeWindow_keeps _ _)
  exact (closed.trans (startChannel_keeps _ _ _ _ _)).trans (setVol_keeps _ _ _)

end

/-! ### The U port (R156 to R164) -/

/-- The bounds of the U port's queues. -/
structure UPort.within (u : UPort) : Prop where
  events : u.events.length ≤ 32
  lost : u.lost ≤ 255
  relayUp : u.relayUp.length ≤ 8

section
variable {s : State}

/-- A change of the U port that keeps its bounds. -/
theorem State.withUport_keeps {u : UPort} (h : s.uport.within → u.within) : s.Keeps (s.withUport u) := by
  refine .of_queues rfl ?_
  rw [bounded_iff, bounded_iff]
  rintro ⟨events, lost, relayUp, rest⟩
  obtain ⟨events, lost, relayUp⟩ := h ⟨events, lost, relayUp⟩
  exact ⟨events, lost, relayUp, rest⟩

/-- A change of the D port that keeps its stations and the bound of its relays. -/
theorem State.withDport_keeps {d : DPort} (relayDown : s.dport.relayDown.length ≤ 4 → d.relayDown.length ≤ 4)
    (stations : d.stations = s.dport.stations) : s.Keeps (s.withDport d) := by
  refine .of_queues rfl ?_
  rw [bounded_iff, bounded_iff]
  rintro ⟨h1, h2, h3, down, verdicts, rest⟩
  refine ⟨h1, h2, h3, relayDown down, ?_, rest⟩
  simpa only [station, withDport, stations] using verdicts

theorem State.setStation_keeps {i : Fin 12} {x : Station}
    (h : (s.station i).verdicts.length ≤ 4 → x.verdicts.length ≤ 4) : s.Keeps (s.setStation i x) := by
  refine .of_queues rfl ?_
  rw [bounded_iff, bounded_iff]
  rintro ⟨h1, h2, h3, h4, verdicts, rest⟩
  refine ⟨h1, h2, h3, h4, fun j => ?_, rest⟩
  rw [station_setStation]
  split_ifs
  · exact h (verdicts i)
  · exact verdicts j

end

theorem UPort.within.take {u v : UPort} {clock : Nat} {c : SlotClass} {r : SlotRec} (h : u.within)
    (taken : u.take clock c = some (v, r)) : v.within := by
  obtain ⟨events, lost, relayUp⟩ := h
  cases c with
  | event =>
    cases queue : u.events with
    | nil => simp [UPort.take, queue] at taken
    | cons e l =>
      simp only [UPort.take, queue, Option.some.injEq, Prod.mk.injEq] at taken
      rw [queue, List.length_cons] at events
      rw [← taken.1, popEvent]
      split_ifs
      · exact ⟨by simp [queue]; omega, Nat.zero_le _, relayUp⟩
      · exact ⟨by simp [queue]; omega, lost, relayUp⟩
  | relay =>
    cases first : firstFilled u.relayUp with
    | none => simp [UPort.take, first] at taken
    | some x =>
      simp only [UPort.take, first, Option.some.injEq, Prod.mk.injEq] at taken
      rw [← taken.1]
      exact ⟨events, lost, (dropFilled_sublist u.relayUp).length_le.trans relayUp⟩

theorem UPort.within.fill {u : UPort} (h : u.within) (clock n : Nat) (want : SlotClass) :
    (UPort.fill clock n want u).1.within := by
  induction n generalizing u want with
  | zero => exact h
  | succ n ih =>
    unfold UPort.fill
    split
    · exact h
    case h_2 v r c slot =>
      have gave : v.within := by
        unfold takeSlot at slot
        split at slot
        case h_1 taken =>
          cases slot
          exact h.take taken
        case h_2 =>
          split at slot
          case h_1 taken =>
            cases slot
            exact h.take taken
          case h_2 => cases slot
      exact ih gave _

section
variable (s : State)

theorem State.linkFrame_keeps : s.Keeps s.linkFrame := by
  unfold linkFrame
  extract_lets u s1
  have heard : s.Keeps s1 := withUport_keeps fun h => ⟨h.events, h.lost, h.relayUp⟩
  refine .ite (.trans ?_ (raise_keeps _ _)) heard
  exact heard.trans (withUport_keeps fun h => ⟨h.events, h.lost, h.relayUp⟩)

theorem State.reply_keeps (kind tag : Byte) (a : Answer) : s.Keeps (s.reply kind tag a) := by
  unfold reply
  extract_lets n x r
  refine withUport_keeps fun h => ?_
  obtain ⟨events, lost, relayUp⟩ := h.fill s.custody.clock n s.uport.firstClaim
  exact ⟨events, lost, relayUp⟩

theorem State.countOverlap_keeps : s.Keeps s.countOverlap :=
  withUport_keeps fun h => ⟨h.events, h.lost, h.relayUp⟩

/-- A request keeps what its owner does. -/
theorem State.request_keeps (kind tag : Byte) (lengthOk : Bool) {owner : State → State × Answer}
    (h : ∀ t : State, t.Keeps (owner t).1) : s.Keeps (s.request kind tag lengthOk owner) := by
  unfold request
  extract_lets s1 x
  have heard : s.Keeps s1 := s.linkFrame_keeps
  refine .ite (.refl s) (.ite s.countOverlap_keeps (.ite (.refl s) (.ite ?_ ?_)))
  · exact (heard.trans (h s1)).trans (reply_keeps _ _ _ _)
  · exact heard.trans (reply_keeps _ _ _ _)

/-! ### The D port (R165 to R173) -/

theorem State.countUnexpected_keeps : s.Keeps s.countUnexpected := .of_watched rfl

variable {s} in
theorem State.pushRelayUp_keeps (p : RelayPlace) (fewer : s.uport.relayUp.length < 8) : s.Keeps (s.pushRelayUp p) :=
  withUport_keeps fun h => ⟨h.events, h.lost, by simpa using fewer⟩

theorem State.forwardCopy_keeps (a : Byte) (role : Role) (record : List Byte) :
    s.Keeps (s.forwardCopy a role record) := by
  unfold forwardCopy
  split_ifs with fewer
  · exact pushRelayUp_keeps _ fewer
  · exact withDport_keeps id rfl

theorem State.stationResponded_keeps (i : Fin 12) : s.Keeps (s.stationResponded i) := by
  unfold stationResponded
  extract_lets x s1 e
  have online : s.Keeps s1 := setStation_keeps id
  exact .ite (online.trans (raise_keeps _ _)) online

theorem State.dropVerdicts_keeps (i : Fin 12) : s.Keeps (s.dropVerdicts i) :=
  (setStation_keeps fun _ => Nat.zero_le _).trans (withDport_keeps id rfl)

theorem State.dropCandidate_keeps (r : Option Role) : s.Keeps (s.dropCandidate r) := .ite (.of_watched rfl) (.refl s)

theorem State.goOffline_keeps (i : Fin 12) : s.Keeps (s.goOffline i) := by
  unfold goOffline
  extract_lets e x s1 s2
  have left : s.Keeps (s.setStation i { s.station i with state := .offline, misses := 3 }) := setStation_keeps id
  have offline : s.Keeps s1 := left.trans (raise_keeps _ _)
  have reported : s.Keeps s2 := by
    unfold s2
    split
    · exact offline.trans (raiseFault_keeps _ _ _ _ _ _)
    · exact offline.trans (raiseFault_keeps _ _ _ _ _ _)
    · exact offline.trans (raiseFault_keeps _ _ _ _ _ _)
    · exact offline
    · exact offline
  exact (reported.trans (dropVerdicts_keeps _ _)).trans (dropCandidate_keeps _ _)

theorem State.stationMissed_keeps (i : Fin 12) : s.Keeps (s.stationMissed i) :=
  .ite (.refl s) (.ite (s.goOffline_keeps i) (setStation_keeps id))

theorem State.advance_keeps : s.Keeps s.advance := by
  unfold advance
  split
  · split
    · exact withDport_keeps id rfl
    · exact withDport_keeps id rfl
  · exact .refl s

theorem State.settleCursor_keeps : s.Keeps s.settleCursor := by
  unfold settleCursor
  split
  · exact .refl s
  · exact .ite (.refl s) s.advance_keeps
  · exact withDport_keeps id rfl

theorem State.beginTurn_keeps (kind : TurnKind) (a : Byte) (payload : List Byte) :
    s.Keeps (s.beginTurn kind a payload) := .of_watched rfl

theorem State.verdictTurn_keeps (i : Fin 12) : s.Keeps (s.verdictTurn i) := by
  have carried : s.Keeps (s.setStation i { s.station i with carried := (s.station i).verdicts.length }) :=
    setStation_keeps id
  exact carried.trans (beginTurn_keeps _ _ _ _)

variable {s} in
theorem State.passRelay_keeps (r : Relay) (o : RelayOutcome) (fewer : s.uport.relayUp.length < 8) :
    s.Keeps (s.passRelay r o) :=
  (pushRelayUp_keeps _ fewer).trans (withDport_keeps id rfl)

/-- A relay is handled while a place of the relay-up queue is free. -/
theorem State.handleRelay_keeps (fewer : s.uport.relayUp.length < 8) : s.Keeps s.handleRelay := by
  unfold handleRelay
  split
  case h_2 => exact .refl s
  case h_1 r l queue =>
    extract_lets d s1
    have shorter : s.Keeps s1 := withDport_keeps (fun h => (Nat.le_succ _).trans (by rwa [queue] at h)) rfl
    split
    · exact shorter.trans (passRelay_keeps _ _ fewer)
    · exact .ite (shorter.trans (passRelay_keeps _ _ fewer))
        ((shorter.trans (pushRelayUp_keeps _ fewer)).trans (beginTurn_keeps _ _ _ _))

theorem State.relayOutcome_keeps (o : RelayOutcome) (payload : List Byte) : s.Keeps (s.relayOutcome o payload) :=
  withUport_keeps fun h => ⟨h.events, h.lost, by simpa using h.relayUp⟩

theorem State.clearTurn_keeps : s.Keeps s.clearTurn := .of_watched rfl

theorem State.dropCarried_keeps (i : Fin 12) : s.Keeps (s.dropCarried i) :=
  setStation_keeps fun h => by simp only [List.length_drop]; omega

theorem State.turnAnswered_keeps (t : Turn) (payload : List Byte) : s.Keeps (s.turnAnswered t payload) := by
  unfold turnAnswered
  extract_lets s1 s2
  have cleared : s.Keeps s1 := s.clearTurn_keeps
  have responded : s.Keeps s2 := by
    unfold s2
    split
    · extract_lets s2
      have online : s.Keeps s2 := cleared.trans (stationResponded_keeps _ _)
      exact .ite (online.trans (dropCarried_keeps _ _)) online
    · exact cleared
  exact .ite (responded.trans (relayOutcome_keeps _ _ _)) (responded.trans (advance_keeps _))

theorem State.turnMissed_keeps (t : Turn) : s.Keeps (s.turnMissed t) := by
  unfold turnMissed
  extract_lets s1 s2
  have cleared : s.Keeps s1 := s.clearTurn_keeps
  have missed : s.Keeps s2 := by
    unfold s2
    split
    · refine (cleared.trans ?_).trans (stationMissed_keeps _ _)
      exact setStation_keeps id
    · exact cleared
  exact .ite (missed.trans (relayOutcome_keeps _ _ _)) (missed.trans (advance_keeps _))

theorem State.endOverdue_keeps : s.Keeps s.endOverdue := by
  unfold endOverdue
  split
  · exact .ite (s.turnMissed_keeps _) (.refl s)
  · exact .refl s

theorem State.unexpectedFrame_keeps : s.Keeps s.unexpectedFrame := by
  unfold unexpectedFrame
  refine .ite (.refl s) (.trans (.trans ?_ (countUnexpected_keeps _)) (endOverdue_keeps _))
  exact withDport_keeps id rfl

end

end Sys2Proof.Machine
end

section
/-! SUPPORT. What the session unit's entries and the safety inputs keep (chapters 1 and 2). -/

namespace Sys2Proof.Machine

section
variable (s : State)

/-! ### Presentations and sessions (R12 to R16, R21, R23) -/

variable {s} in
/-- A change of the session record, the presentation and the note places that lets no arm stand without a session. -/
theorem State.KeepsBut.of_session_opens {t : State} (h : t.watched = { s.watched with
      record := t.session.record, presentation := t.session.presentation, places := t.custody.places })
    (opens : s.opensInSession → t.opensInSession) : KeepsBut .notes s t := by
  simp only [watched, Watched.mk.injEq, true_and] at h
  obtain ⟨tables, inputs, arms, waiting, events, lost, relayUp, relayDown, stations, front⟩ := h
  refine ⟨?_, front⟩
  rintro (_ | _) other
  · exact opens
  · exact (flowsPermitted_congr arms inputs).2
  · simp only [meets, bounded_iff, station, arm_congr arms, events, lost, relayUp, relayDown, waiting, stations]
    exact id
  · simp only [meets, canonical_congr tables]
    exact id
  · exact absurd rfl other

/-- An opening keeps all but the note queue's soundness, whatever stood before it. -/
theorem State.openSession_keepsBut (o : Opening) : KeepsBut .notes s (s.openSession o) := by
  have reserved : KeepsBut .notes s ((s.setRecord (some (s.newSession o))).reservePlace (s.newSession o).number) := by
    unfold reservePlace
    extract_lets c t
    have placed : KeepsBut .notes s t := .of_session_opens rfl fun _ k _ => (bayState_eq_session_iff _).2 ⟨_, rfl, rfl⟩
    split
    · exact placed.trans (raise_keeps _ _)
    · exact placed
  unfold openSession
  refine .trans ?_ (((tellReader_keeps _ _).trans (raise_keeps _ _)).trans (settleIdle_keeps _))
  split
  · exact reserved.trans (setPermit_keeps _ _ _)
  · exact reserved

/-- With a presentation pending, a sound note queue has no session and a free place. -/
theorem State.notesSound.unpresented {s : State} {p : Presentation} (sound : s.notesSound)
    (pending : s.session.presentation = some p) : s.session.record = none ∧ s.custody.places.length < 16 :=
  sound.presented (by rw [pending]; rfl)

/-- A session opened for the pending card. -/
theorem State.unpresent_openSession_keeps {p : Presentation} (pending : s.session.presentation = some p) (o : Opening) :
    s.Keeps (s.unpresent.openSession o) := by
  by_cases sound : s.notesSound
  · obtain ⟨none, fewer⟩ := sound.unpresented pending
    exact s.unpresent_keeps.trans (openSession_keeps _ o none rfl fewer)
  · exact KeepsBut.mend (s.unpresent_keeps.trans_but (s.unpresent.openSession_keepsBut o))
      fun meets => absurd meets sound

theorem State.idle_record (idle : s.bayState = .idle) : s.session.record = none := by
  cases record : s.session.record with
  | none => rfl
  | some r =>
    cases closing : r.closing <;> simp [bayState, record, closing] at idle

theorem State.present_keeps (card tag vehicle : Nat) (none : s.session.record = none)
    (fewer : s.custody.places.length < 16) : s.Keeps (s.present card tag vehicle) := by
  unfold present
  refine .trans ?_ (raise_keeps _ _)
  refine .of_session rfl ?_ ?_
  · exact fun opens => (opensInSession_congr rfl rfl).2 opens
  · rw [notesSound_iff, notesSound_iff]
    rintro ⟨inUse, one, -, unclosed⟩
    exact ⟨inUse, one, fun _ => ⟨none, fewer⟩, unclosed⟩

theorem State.placeFree_of_admissible {tag i : Nat} (h : s.admissible tag = .ok i) : s.custody.places.length < 16 := by
  unfold admissible at h
  split at h
  · cases h
  · split_ifs at h with free
    simp only [placeFree, Bool.and_eq_true, decide_eq_true_eq] at free
    exact free.1

theorem State.localDecision_keeps (card tag vehicle shown : Nat) (none : s.session.record = none)
    (unpresented : s.session.presentation = .none) (fewer : s.custody.places.length < 16) :
    s.Keeps (s.localDecision card tag vehicle shown) := by
  unfold localDecision
  split
  · exact s.refuse_keeps _ _ _ _
  · exact s.openSession_keeps _ none unpresented fewer

theorem State.newPresentation_keeps (card : Nat) (none : s.session.record = none)
    (unpresented : s.session.presentation = .none) : s.Keeps (s.newPresentation card) := by
  unfold newPresentation
  split
  · exact s.refuse_keeps _ _ _ _
  · split
    · exact s.refuse_keeps _ _ _ _
    case h_2 admitted =>
      have fewer := s.placeFree_of_admissible admitted
      exact .ite (s.present_keeps _ _ _ none fewer) (s.localDecision_keeps _ _ _ _ none unpresented fewer)

theorem State.ownCard_keeps : s.Keeps s.ownCard := by
  unfold ownCard
  split_ifs with still
  · exact (s.orderlyClose_keeps _ still).trans (tellReader_keeps _ _)
  · exact s.tellReader_keeps _

theorem State.takeCard_keeps (card : Nat) : s.Keeps (s.takeCard card) := by
  unfold takeCard
  split
  · exact .ite s.ownCard_keeps (s.refuse_keeps _ _ _ _)
  · exact .ite (.refl s) (s.refuse_keeps _ _ _ _)
  case h_3 idle unpresented => exact s.newPresentation_keeps _ (s.idle_record idle) unpresented
  · exact s.refuse_keeps _ _ _ _

theorem State.pendingOf_eq {card : Nat} {p : Presentation} (h : s.pendingOf card = some p) :
    s.session.presentation = some p := by
  unfold pendingOf at h
  split at h
  · split_ifs at h
    rwa [← h]
  · cases h

theorem State.authorise_keeps (card : Nat) (products : BitVec 16) (quota : Nat) :
    s.Keeps (s.authorise card products quota).1 := by
  unfold authorise
  split
  · exact .refl s
  · split
    · exact .refl s
    case h_2 pending =>
      extract_lets s1
      split
      · exact s.unpresent_keeps.trans (refuse_keeps _ _ _ _ _)
      · exact s.unpresent_openSession_keeps (s.pendingOf_eq pending) _

theorem State.denyCard_keeps (card serverReason : Nat) : s.Keeps (s.denyCard card serverReason).1 := by
  unfold denyCard
  split
  · exact .refl s
  · dsimp only
    exact s.unpresent_keeps.trans (refuse_keeps _ _ _ _ _)

theorem State.deadlinePassed_keeps : s.Keeps s.deadlinePassed := by
  unfold deadlinePassed
  split
  · exact s.unpresent_keeps.trans (refuse_keeps _ _ _ _ _)
  · exact .refl s

theorem State.decideLocally_keeps : s.Keeps s.decideLocally := by
  unfold decideLocally
  split
  case h_2 => exact .refl s
  case h_1 pending =>
    unfold localDecision
    split
    · exact s.unpresent_keeps.trans (refuse_keeps _ _ _ _ _)
    · exact s.unpresent_openSession_keeps pending _

theorem State.linkSilent_keeps : s.Keeps s.linkSilent := by
  unfold linkSilent
  extract_lets u s1
  have stopped : s.Keeps s1 := withUport_keeps fun h => ⟨h.events, h.lost, h.relayUp⟩
  refine .ite (.trans (.trans (stopped.trans ?_) (raise_keeps _ _)) (decideLocally_keeps _)) stopped
  exact withUport_keeps fun h => ⟨h.events, h.lost, h.relayUp⟩

theorem State.sessionEnd_keeps : s.Keeps s.sessionEnd.1 := by
  unfold sessionEnd
  split_ifs with h
  · exact s.orderlyClose_keeps _ h.2
  · exact .refl s

theorem State.sessionAbort_keeps : s.Keeps s.sessionAbort.1 := by
  unfold sessionAbort
  split
  · exact s.abort_keeps _ _
  all_goals exact .refl s

/-! ### Tags (R7, R8) -/

theorem State.suspendFlowing_keeps (c : SuspendCause) : s.Keeps (s.suspendFlowing c) :=
  .foldl (fun t k => t.suspend_keeps k c) _ s

theorem State.confirmTag_keeps (tag : Nat) : s.Keeps (s.confirmTag tag) := by
  unfold confirmTag
  extract_lets b s1 s2
  have recorded : s.Keeps s1 := .of_watched rfl
  have raised : s.Keeps s2 := recorded.trans (raise_keeps _ _)
  exact .ite (.refl s) (.ite recorded (.ite (raised.trans (suspendFlowing_keeps _ _)) raised))

theorem State.takeTag_keeps (tag : Nat) : s.Keeps (s.takeTag tag) := by
  unfold takeTag
  split
  · exact .of_watched rfl
  · exact .ite (s.confirmTag_keeps _) (.of_watched rfl)

/-! ### Safety inputs (R28 to R36) -/

/-- The arms after a suspension of every flowing arm (R31, R36). -/
theorem State.arm_suspendFlowing (c : SuspendCause) (k : Fin 4) : (s.suspendFlowing c).arm k =
    if (s.arm k).state.flowing = true then s.suspended k c else s.arm k := by
  refine arm_foldl (f := fun t j => t.suspend j c)
    (g := fun t k => if (t.arm k).state.flowing = true then t.suspended k c else t.arm k)
    (fun t j k => ?_) (fun t j k other => ?_) s k
  · rw [arm_suspend]
    split_ifs <;> simp_all
  · have same : (t.suspend j c).arm k = t.arm k := by rw [arm_suspend, if_neg fun h => other h.1]
    simp only [same, suspended, armEntry, suspend_frame]

theorem State.suspendFlowing_still (c : SuspendCause) (k : Fin 4) :
    ((s.suspendFlowing c).arm k).state.flowing = false := by
  rw [arm_suspendFlowing]
  split_ifs with flowing
  · rfl
  · exact Bool.eq_false_iff.2 flowing

theorem State.flowsPermitted_of_still (still : ∀ k, (s.arm k).state.flowing = false) : s.flowsPermitted :=
  fun k flowing => by rw [still k] at flowing; cases flowing

theorem State.acceptFall_keepsBut (i : SafetyInput) : KeepsBut .flows s (s.acceptFall i) := by
  unfold acceptFall
  extract_lets x s1
  have fell : KeepsBut .flows s s1 := .of_inputs rfl
  split
  · exact fell
  · exact fell.trans (raise_keeps _ _)

/-- The deadman input's level is none of the permissives'. -/
theorem State.acceptFall_deadman_keeps : s.Keeps (s.acceptFall .deadman) := by
  unfold acceptFall
  rw [if_pos rfl]
  refine .of_inputs rfl fun permitted => ?_
  simpa only [State.permitted, input_setInput, reduceCtorEq, if_false] using permitted

theorem State.estopArm_keeps (k : Fin 4) : s.Keeps (s.estopArm k) := by
  unfold estopArm
  split
  · exact s.enterStopping_keeps _ (by simp [*])
  · exact s.enterStopping_keeps _ (by simp [*])
  · exact s.enterStopping_keeps _ (by simp [*])
  · exact s.enterStopping_keeps _ (by simp [*])
  · exact s.updBatch_keeps k fun b => by split <;> rfl
  all_goals exact .refl s

/-- What ESTOP's second step makes of an arm (R32). -/
def State.estoppedArm (s : State) (k : Fin 4) : Arm :=
  match (s.arm k).state with
  | .lowStart | .full | .slowdown | .suspended => s.stopped k .estop
  | .stopping => { s.arm k with
    batch := (s.arm k).batch.map fun b => if b.endReason = some .complete then b else { b with endReason := some .estop } }
  | .idle | .ready | .waitInjector => s.arm k

theorem State.arm_estopArm (j k : Fin 4) : (s.estopArm j).arm k = if k = j then s.estoppedArm k else s.arm k := by
  unfold estopArm estoppedArm
  by_cases same : k = j
  · subst same
    split <;> simp [arm_enterStopping, arm_updBatch, *]
  · split <;> simp [arm_enterStopping, arm_updBatch, same]

theorem State.arm_foldl_estopArm (k : Fin 4) : (armIxs.foldl estopArm s).arm k = s.estoppedArm k := by
  refine arm_foldl (fun s j k => s.arm_estopArm j k) (fun s j k other => ?_) s k
  have same : (s.estopArm j).arm k = s.arm k := by rw [arm_estopArm, if_neg other]
  simp only [estoppedArm, same, stopped_congr (t := s.estopArm j) (s := s) (by simp) (by simp) same]

theorem State.estoppedArm_still (k : Fin 4) : (s.estoppedArm k).state.flowing = false := by
  unfold estoppedArm
  split <;> simp [stopped, ArmState.flowing, *]

/-- An ESTOP fall: no arm flows once its arms are stopped. -/
theorem State.estopFall_keeps : s.Keeps (s.acceptFall .estop).estopEffect := by
  unfold estopEffect
  refine (KeepsBut.mend (i := .flows) ?_ fun _ => ?_).trans (raiseFault_keeps _ _ _ _ _ _)
  · exact (s.acceptFall_keepsBut _).trans (.foldl (fun t k => t.estopArm_keeps k) _ _)
  · exact flowsPermitted_of_still _ fun k => by rw [arm_foldl_estopArm, estoppedArm_still]

/-- A fall of GROUND or OVERFILL: no arm flows once they are suspended. -/
theorem State.permissiveFall_keeps (i : SafetyInput) (c : SuspendCause) : s.Keeps ((s.acceptFall i).suspendFlowing c) :=
  ((s.acceptFall_keepsBut i).trans (suspendFlowing_keeps _ _)).mend fun _ =>
    flowsPermitted_of_still _ (suspendFlowing_still _ _)

theorem State.press_keeps : s.Keeps s.press := by
  unfold press
  extract_lets d e
  exact .ite (s.setDeadman_keeps _) (.ite (s.setDeadman_keeps _) (s.setDeadman_keeps _))

/-- A rise of an input, or a change that leaves its level. -/
theorem State.setInput_keeps {i : SafetyInput} {x : Input} (h : (s.input i).level = true → x.level = true) :
    s.Keeps (s.setInput i x) := by
  refine .of_inputs rfl fun permitted => ?_
  simp only [State.permitted, input_setInput, Bool.and_eq_true] at permitted ⊢
  refine ⟨⟨?_, ?_⟩, ?_⟩ <;> split_ifs with same <;> simp_all

theorem State.debounced_keeps (i : SafetyInput) : s.Keeps (s.debounced i) := by
  unfold debounced
  extract_lets x s1
  have rose : s.Keeps s1 := s.setInput_keeps fun _ => rfl
  exact .ite (.ite (rose.trans (press_keeps _)) (rose.trans (raise_keeps _ _))) (s.setInput_keeps id)

theorem State.seenHigh_keeps (i : SafetyInput) : s.Keeps (s.seenHigh i) := by
  unfold seenHigh
  exact .ite (s.setInput_keeps id) (s.setInput_keeps id)

theorem State.deadmanOut_keeps : s.Keeps s.deadmanOut := by
  unfold deadmanOut
  exact (s.setDeadman_keeps _).trans (suspendFlowing_keeps _ _)

end

end Sys2Proof.Machine
end

section
/-! SUPPORT. What the retention controller and the owners of the management requests keep (chapters 7 and 9). -/

namespace Sys2Proof.Machine

theorem Vec.get_ofFn {α : Type} {n : Nat} (f : Fin n → α) (k : Fin n) : Vec.get (Vector.ofFn f) k = f k := by
  simp [Vec.get]

theorem Vec.get_replicate {α : Type} {n : Nat} (x : α) (k : Fin n) : Vec.get (Vector.replicate n x) k = x := by
  simp [Vec.get]

section
variable (s : State)

/-! ### Retention (R144, R145, R187 to R189) -/

theorem State.countCorrection_keeps : s.Keeps s.countCorrection := .ite (.of_watched rfl) (.of_watched rfl)

theorem State.raiseRetention_keeps (scan : Bool) (item : RetItem) : s.Keeps (s.raiseRetention scan item) := by
  unfold raiseRetention
  extract_lets s1
  exact .ite ((s.reportFault_keeps _ _ _ _ _).trans (setFault_keeps _ _ _)) (s.raiseFault_keeps _ _ _ _ _)

variable {s} in
theorem State.withTables_keeps {t : Tables} (h : s.canonical = true → (s.withTables t).canonical = true) :
    s.Keeps (s.withTables t) := .of_tables rfl h

theorem State.damage_canonical (id : TableId) (i : Nat) (h : s.canonical = true) :
    (s.withTables (s.tables.damage id i)).canonical = true := by
  rw [canonical_iff] at h ⊢
  obtain ⟨permits, vehicles, products, recipes, injectors, arms, devices⟩ := h
  cases id with
  | permit => exact ⟨tabSet_wf _ permits _ _, vehicles, products, recipes, injectors, arms, devices⟩
  | vehicle => exact ⟨permits, tabSet_wf _ vehicles _ _, products, recipes, injectors, arms, devices⟩
  | compat => exact ⟨permits, vehicles, products, recipes, injectors, arms, devices⟩
  | product => exact ⟨permits, vehicles, tabSet_wf _ products _ _, recipes, injectors, arms, devices⟩
  | recipe => exact ⟨permits, vehicles, products, tabSet_wf _ recipes _ _, injectors, arms, devices⟩
  | injector => exact ⟨permits, vehicles, products, recipes, tabSet_wf _ injectors _ _, arms, devices⟩
  | arm => exact ⟨permits, vehicles, products, recipes, injectors, tabSet_wf _ arms _ _, devices⟩
  | device => exact ⟨permits, vehicles, products, recipes, injectors, arms, tabSet_wf _ devices _ _⟩
  | faultPolicy =>
    simp only [withTables, Tables.damage]
    split <;> exact ⟨permits, vehicles, products, recipes, injectors, arms, devices⟩
  | bay => exact ⟨permits, vehicles, products, recipes, injectors, arms, devices⟩

theorem State.arm_clearHistories (k : Fin 4) : s.clearHistories.arm k = { s.arm k with history := [] } := by
  simp only [clearHistories, arm, withArms, Vec.get_ofFn]

theorem State.clearHistories_keeps : s.Keeps s.clearHistories :=
  .of_arms rfl fun k => by
    rw [arm_clearHistories]
    exact ⟨.inl, .inl, id⟩

theorem State.damageEntry_keeps (scan : Bool) (id : TableId) (i : Nat) : s.Keeps (s.damageEntry scan id i) := by
  unfold damageEntry
  extract_lets s1
  have marked : s.Keeps s1 := withTables_keeps (s.damage_canonical id i)
  exact .ite (.refl s)
    (.ite (.trans (.ite (marked.trans (clearHistories_keeps _)) marked) (raiseRetention_keeps _ _ _)) marked)

/-- A batch rewritten as read keeps its doses' intervals. -/
theorem mergeBatch_dosed {x b : Batch} (h : ∀ d ∈ b.doses, 2000 ≤ d.interval) :
    ∀ d ∈ (mergeBatch x b).doses, 2000 ≤ d.interval := by
  intro d hd
  simp only [mergeBatch] at hd
  split_ifs at hd
  · obtain ⟨i, hi, rfl⟩ := List.getElem_of_mem hd
    simp only [List.getElem_zipWith, mergeDose]
    exact h _ (List.getElem_mem _)
  · exact h d hd

theorem State.rewriteSession_keeps (img : SessionImage) : s.Keeps (s.rewriteSession img) := by
  unfold rewriteSession
  split
  case h_2 => exact .refl s
  case h_1 r open_ =>
    extract_lets _ r'
    have rewritten : s.Keeps (s.setRecord (some r')) := by
      refine .of_session rfl (fun opens k open1 => ?_) ?_
      · obtain ⟨x, hx, going⟩ := s.bayState_eq_session_iff.1 (opens k open1)
        obtain rfl : r = x := Option.some.inj (open_.symm.trans hx)
        exact (bayState_eq_session_iff _).2 ⟨r', rfl, going⟩
      · rw [notesSound_iff, notesSound_iff]
        rintro ⟨inUse, one, presented, unclosed⟩
        refine ⟨inUse, ?_, fun pending => ?_, fun x hx => ?_⟩
        · simpa [open_, setRecord] using one
        · cases open_.symm.trans (presented pending).1
        · obtain rfl : r' = x := Option.some.inj hx
          exact unclosed r open_
    refine rewritten.trans (.of_arms rfl fun k => ?_)
    have merged : ((s.setRecord (some r')).withArms (Vector.ofFn fun k =>
        mergeArm (Vec.get img.batches k) (Vec.get s.arms k))).arm k = mergeArm (Vec.get img.batches k) (s.arm k) := by
      simp only [arm, withArms, Vec.get_ofFn]
    rw [merged]
    unfold mergeArm
    split
    case h_2 => exact ⟨.inl, .inl, id⟩
    case h_1 b _ held =>
      exact ⟨.inl, .inl, fun dosed nonIdle c hc => by
        rw [← Option.some.inj hc]
        exact mergeBatch_dosed (dosed nonIdle b held)⟩

theorem hurt_reserved (p : Place) (offset : Nat) (word : List Byte) :
    ((p.hurt offset word).state == .reserved) = (p.state == .reserved) := by
  unfold Place.hurt
  split_ifs with h
  · rfl
  · simp [h]

/-- A change of one place that keeps whether it is RESERVED. -/
theorem filter_modify_length {α : Type} {q : α → Bool} {f : α → α} (h : ∀ a, q (f a) = q a) (l : List α) (n : Nat) :
    ((l.modify n f).filter q).length = (l.filter q).length := by
  induction l generalizing n with
  | nil => cases n <;> rfl
  | cons a l ih =>
    cases n with
    | zero =>
      rw [List.modify_zero_cons, List.filter_cons, List.filter_cons, h]
      split_ifs <;> rfl
    | succ n =>
      rw [List.modify_succ_cons, List.filter_cons, List.filter_cons]
      split_ifs <;> simp [ih]

theorem sortPlaces_perm (l : List Place) : (sortPlaces l).Perm l := by
  have each : ∀ (l m : List Place), (l.foldl (fun m p => insertPlace p m) m).Perm (l ++ m) := by
    intro l
    induction l with
    | nil => exact fun m => .refl m
    | cons p l ih =>
      intro m
      refine (ih (insertPlace p m)).trans ?_
      exact ((insertPlace_perm p m).append_left l).trans List.perm_middle
  simpa [sortPlaces] using each l []

/-- The places that a rebuild keeps. -/
def State.keptPlaces (s : State) : List Place :=
  sortPlaces ((s.custody.places.filter fun p => p.state != .reserved && !p.headerBad).map Place.rebuilt)

theorem State.keptPlaces_unreserved : s.keptPlaces.filter (fun p => p.state == .reserved) = [] := by
  rw [List.filter_eq_nil_iff]
  intro p hp
  obtain ⟨q, -, rfl⟩ := List.mem_map.1 ((sortPlaces_perm _).mem_iff.1 hp)
  simp only [Place.rebuilt]
  split_ifs <;> simp

theorem State.keptPlaces_length : s.keptPlaces.length +
    (s.custody.places.filter fun p => p.state == .reserved).length ≤ s.custody.places.length := by
  rw [keptPlaces, (sortPlaces_perm _).length_eq, List.length_map]
  induction s.custody.places with
  | nil => simp
  | cons p l ih =>
    rw [List.filter_cons, List.filter_cons, List.length_cons]
    by_cases hp : p.state = .reserved
    · simp only [hp, bne_self_eq_false, Bool.false_and, Bool.false_eq_true, if_false, beq_self_eq_true, if_true,
        List.length_cons]
      omega
    · simp only [beq_iff_eq, hp, if_false]
      split_ifs
      · rw [List.length_cons]; omega
      · omega

/-- R145: the list holds the kept notes and the open session's place. -/
theorem State.rebuildPlaces_keeps : s.Keeps s.rebuildPlaces := by
  refine .of_session rfl (fun opens => (opensInSession_congr rfl rfl).2 opens) ?_
  have places : s.rebuildPlaces.custody.places = s.keptPlaces ++ s.ownPlace := rfl
  rw [notesSound_iff, notesSound_iff, places, List.filter_append, keptPlaces_unreserved, List.nil_append,
    List.length_append]
  rintro ⟨inUse, one, presented, unclosed⟩
  have kept := s.keptPlaces_length
  change _ ∧ _ = (if s.session.record.isSome then 1 else 0) ∧ (s.session.presentation.isSome = true →
    s.session.record = none ∧ _) ∧ ∀ r, s.session.record = some r → r.closed = false
  unfold ownPlace
  cases record : s.session.record with
  | none =>
    simp only [record, Option.isSome_none, Bool.false_eq_true, if_false] at one
    refine ⟨by simp; omega, rfl, fun pending => ⟨rfl, ?_⟩, nofun⟩
    have := (presented pending).2
    simp only [List.length_nil]
    omega
  | some r =>
    have unclosed := unclosed r record
    simp only [record, Option.isSome_some, if_true] at one
    simp only [unclosed, Bool.false_eq_true, if_false, List.length_singleton]
    refine ⟨by omega, rfl, fun pending => ?_, fun x hx => ?_⟩
    · cases record.symm.trans (presented pending).1
    · rw [← Option.some.inj hx]; exact unclosed

theorem State.damageTotalizer_keeps (t : TotalizerId) (asRead : Nat) : s.Keeps (s.damageTotalizer t asRead) := by
  cases t <;> exact .of_watched rfl

theorem State.uncorrectable_keeps (scan : Bool) (item : RetItem) : s.Keeps (s.uncorrectable scan item) := by
  unfold uncorrectable
  split
  case h_1 => exact s.damageEntry_keeps _ _ _
  case h_2 => exact (s.rewriteSession_keeps _).trans (raiseRetention_keeps _ _ _)
  case h_3 =>
    refine .trans ?_ (raiseRetention_keeps _ _ _)
    exact .of_watched rfl
  case h_4 n offset asRead =>
    refine .of_places rfl ?_ ?_
    · simp [withCustody]
    · exact filter_modify_length (fun p => hurt_reserved p offset asRead) _ n
  case h_5 => exact .trans (.ite s.rebuildPlaces_keeps (.refl s)) (raiseRetention_keeps _ _ _)
  case h_6 =>
    refine .trans (.ite ?_ (.refl s)) (raiseRetention_keeps _ _ _)
    exact .of_watched rfl
  case h_7 => exact (s.damageTotalizer_keeps _ _).trans (raiseRetention_keeps _ _ _)
  case h_8 => exact (s.setFault_keeps _ _).trans (raiseRetention_keeps _ _ _)
  all_goals
    refine .trans ?_ (raiseRetention_keeps _ _ _)
    exact .of_watched rfl

theorem State.readWord_keeps (scan : Bool) (f : Finding) : s.Keeps (State.readWord scan s f) := by
  unfold readWord
  split
  · exact .refl s
  · exact s.countCorrection_keeps
  · exact s.uncorrectable_keeps _ _

theorem State.readWords_keeps (l : List Finding) : s.Keeps (s.readWords l) :=
  .foldl (fun t f => t.readWord_keeps false f) l s

theorem State.meet_keeps : s.Keeps s.meet := by
  unfold meet
  refine .trans ?_ (readWords_keeps _ _)
  exact .of_watched rfl

theorem State.scrubNext_keeps : s.Keeps s.scrubNext := .ite (.of_watched rfl) (.of_watched rfl)

/-! ### Tables (R177 to R179) -/

variable {s} in
theorem State.writeIf_keeps {α : Type} {content : Option α} {inUse : Bool} {store : α → State}
    (h : ∀ e, s.Keeps (store e)) : s.Keeps (s.writeIf content inUse store).1 := by
  unfold writeIf
  split
  · exact .refl s
  · split
    · exact .refl s
    · exact h _

/-- A taken write of a sparse table, one `tabSet`. -/
theorem State.writePermit_keeps (i : Nat) (p : List Byte) : s.Keeps (s.writePermit i p).1 :=
  writeIf_keeps fun e => withTables_keeps fun h => by
    rw [canonical_iff] at h ⊢
    exact ⟨tabSet_wf _ h.1 _ _, h.2⟩

theorem State.writeVehicle_keeps (i : Nat) (p : List Byte) : s.Keeps (s.writeVehicle i p).1 :=
  writeIf_keeps fun e => withTables_keeps fun h => by
    rw [canonical_iff] at h ⊢
    obtain ⟨permits, vehicles, rest⟩ := h
    exact ⟨permits, tabSet_wf _ vehicles _ _, rest⟩

theorem State.writeProduct_keeps (i : Nat) (p : List Byte) : s.Keeps (s.writeProduct i p).1 :=
  writeIf_keeps fun e => withTables_keeps fun h => by
    rw [canonical_iff] at h ⊢
    obtain ⟨permits, vehicles, products, rest⟩ := h
    exact ⟨permits, vehicles, tabSet_wf _ products _ _, rest⟩

theorem State.writeRecipe_keeps (i : Nat) (p : List Byte) : s.Keeps (s.writeRecipe i p).1 :=
  writeIf_keeps fun e => withTables_keeps fun h => by
    rw [canonical_iff] at h ⊢
    obtain ⟨permits, vehicles, products, recipes, rest⟩ := h
    exact ⟨permits, vehicles, products, tabSet_wf _ recipes _ _, rest⟩

theorem State.injectorWritten_keeps (j : Fin 6) : s.Keeps (s.injectorWritten j) :=
  (s.setInj_keeps _ _).trans (scan_keeps _)

theorem State.writeInjector_keeps (j : Fin 6) (p : List Byte) : s.Keeps (s.writeInjector j p).1 :=
  writeIf_keeps fun e => .trans (withTables_keeps fun h => by
    rw [canonical_iff] at h ⊢
    obtain ⟨permits, vehicles, products, recipes, injectors, rest⟩ := h
    exact ⟨permits, vehicles, products, recipes, tabSet_wf _ injectors _ _, rest⟩) (injectorWritten_keeps _ _)

theorem State.writeArm_keeps (k : Fin 4) (p : List Byte) : s.Keeps (s.writeArm k p).1 :=
  writeIf_keeps fun e => .trans (withTables_keeps fun h => by
    rw [canonical_iff] at h ⊢
    obtain ⟨permits, vehicles, products, recipes, injectors, arms, devices⟩ := h
    exact ⟨permits, vehicles, products, recipes, injectors, tabSet_wf _ arms _ _, devices⟩) (restartArm_keeps _ _)

theorem State.writeDevice_keeps (i : Fin 12) (p : List Byte) : s.Keeps (s.writeDevice i p).1 :=
  writeIf_keeps fun e => .trans (withTables_keeps fun h => by
    rw [canonical_iff] at h ⊢
    obtain ⟨permits, vehicles, products, recipes, injectors, arms, devices⟩ := h
    exact ⟨permits, vehicles, products, recipes, injectors, arms, tabSet_wf _ devices _ _⟩)
    (setStation_keeps fun _ => Nat.zero_le _)

theorem State.writePolicy_keeps (c : Fin 11) (p : List Byte) : s.Keeps (s.writePolicy c p).1 :=
  writeIf_keeps fun _ => withTables_keeps id

theorem State.storeBay_keeps (e : BayEntry) : s.Keeps (s.storeBay e) := by
  unfold storeBay
  extract_lets t s1
  have stored : s.Keeps s1 := withTables_keeps id
  exact .ite (stored.trans (clearHistories_keeps _)) stored

theorem State.writeBay_keeps (p : List Byte) : s.Keeps (s.writeBay p).1 := writeIf_keeps s.storeBay_keeps

theorem State.writeCompat_keeps (p : List Byte) : s.Keeps (s.writeCompat p).1 := withTables_keeps id

theorem State.writeEntry_keeps (id : TableId) (i : Nat) (p : List Byte) : s.Keeps (s.writeEntry id i p).1 := by
  unfold writeEntry
  split
  · exact .refl s
  · cases id with
    | permit => exact s.writePermit_keeps _ _
    | vehicle => exact s.writeVehicle_keeps _ _
    | compat => exact s.writeCompat_keeps _
    | product => exact s.writeProduct_keeps _ _
    | recipe => exact s.writeRecipe_keeps _ _
    | injector => cases finOf 6 i with
      | none => exact .refl s
      | some j => exact s.writeInjector_keeps _ _
    | arm => cases finOf 4 i with
      | none => exact .refl s
      | some k => exact s.writeArm_keeps _ _
    | device => cases finOf 12 i with
      | none => exact .refl s
      | some k => exact s.writeDevice_keeps _ _
    | faultPolicy => cases finOf 11 i with
      | none => exact .refl s
      | some c => exact s.writePolicy_keeps _ _
    | bay => exact s.writeBay_keeps _

theorem State.tableWrite_keeps (p : List Byte) : s.Keeps (s.tableWrite p).1 := by
  unfold tableWrite
  split
  · exact .refl s
  · exact s.writeEntry_keeps _ _ _

theorem State.clearTable_keeps (id : TableId) : s.Keeps (s.clearTable id) := by
  have canonical (h : s.canonical = true) := s.canonical_iff.1 h
  unfold clearTable
  cases id with
  | permit => exact withTables_keeps fun h => (canonical_iff _).2 ⟨rfl, (canonical h).2⟩
  | vehicle =>
    refine withTables_keeps fun h => (canonical_iff _).2 ?_
    obtain ⟨permits, -, rest⟩ := canonical h
    exact ⟨permits, rfl, rest⟩
  | compat => exact withTables_keeps fun h => h
  | product =>
    refine withTables_keeps fun h => (canonical_iff _).2 ?_
    obtain ⟨permits, vehicles, -, rest⟩ := canonical h
    exact ⟨permits, vehicles, rfl, rest⟩
  | recipe =>
    refine withTables_keeps fun h => (canonical_iff _).2 ?_
    obtain ⟨permits, vehicles, products, -, rest⟩ := canonical h
    exact ⟨permits, vehicles, products, rfl, rest⟩
  | injector =>
    refine .trans (withTables_keeps fun h => (canonical_iff _).2 ?_) (scan_keeps _)
    obtain ⟨permits, vehicles, products, recipes, -, rest⟩ := canonical h
    exact ⟨permits, vehicles, products, recipes, rfl, rest⟩
  | arm =>
    refine .trans (withTables_keeps fun h => (canonical_iff _).2 ?_) (.foldl (fun t k => t.restartArm_keeps k) _ _)
    obtain ⟨permits, vehicles, products, recipes, injectors, -, devices⟩ := canonical h
    exact ⟨permits, vehicles, products, recipes, injectors, rfl, devices⟩
  | device =>
    extract_lets t s1
    have cleared : s.Keeps s1 := withTables_keeps fun h => (canonical_iff _).2 (by
      obtain ⟨permits, vehicles, products, recipes, injectors, arms, -⟩ := canonical h
      exact ⟨permits, vehicles, products, recipes, injectors, arms, rfl⟩)
    refine cleared.trans (.of_queues rfl ?_)
    rw [bounded_iff, bounded_iff]
    rintro ⟨h1, h2, h3, h4, -, rest⟩
    refine ⟨h1, h2, h3, h4, fun i => ?_, rest⟩
    simp [station, withDport, Vec.get, Station.powerOn]
  | faultPolicy => exact withTables_keeps fun h => h
  | bay => exact s.storeBay_keeps _

theorem State.tableClear_keeps (p : List Byte) : s.Keeps (s.tableClear p).1 := by
  unfold tableClear
  split
  · exact .refl s
  · split
    · exact .refl s
    · exact s.clearTable_keeps _

theorem State.tableRead_keeps (p : List Byte) (reads : List Finding) : s.Keeps (s.tableRead p reads).1 := by
  unfold tableRead
  split
  · exact .refl s
  · extract_lets i s1
    have read : s.Keeps s1 := s.readWords_keeps reads
    split
    · exact .refl s
    · split <;> exact read

/-! ### Notes, faults, relays, the clock and the service flag -/

theorem State.noteList_keeps (reads : List Finding) : s.Keeps (s.noteList reads).1 := s.readWords_keeps reads

theorem State.noteRead_keeps (p : List Byte) (reads : List Finding) : s.Keeps (s.noteRead p reads).1 := by
  unfold noteRead
  extract_lets s1 k
  have read : s.Keeps s1 := s.readWords_keeps reads
  split
  · exact read
  · split <;> exact read

theorem State.noteRelease_keeps (p : List Byte) (reads : List Finding) : s.Keeps (s.noteRelease p reads).1 := by
  unfold noteRelease
  extract_lets s1
  have read : s.Keeps s1 := s.readWords_keeps reads
  split
  · exact read
  · refine read.trans (.of_places rfl (List.length_filter_le _ _) ?_)
    dsimp only [withCustody]
    rw [List.filter_filter]
    congr 1
    exact List.filter_congr fun p _ => by cases p.state <;> simp

theorem State.clearRequest_keeps (p : List Byte) : s.Keeps (s.clearRequest p).1 := by
  unfold clearRequest
  split
  · exact .refl s
  · split
    · exact .refl s
    · exact s.clearFault_keeps _

theorem State.drill_keeps (c : FaultClass) (k : Option (Fin 4)) : s.Keeps (s.drill c k).1 := by
  unfold drill
  split
  · exact s.raiseFault_keeps _ _ _ _ _
  · exact s.raiseFault_keeps _ _ _ _ _
  · exact s.raiseFault_keeps _ _ _ _ _
  all_goals exact .refl s

theorem State.drillRequest_keeps (p : List Byte) : s.Keeps (s.drillRequest p).1 := by
  unfold drillRequest
  split
  · exact s.drill_keeps _ _
  · exact s.drill_keeps _ _
  · exact .refl s

theorem State.relay_keeps (p : List Byte) : s.Keeps (s.relay p).1 := by
  unfold relay
  extract_lets a r d s1
  split
  · exact .refl s
  · split_ifs with locked full
    · exact .refl s
    · exact .refl s
    · exact withDport_keeps (fun _ => by rw [List.length_append, List.length_singleton]; omega) rfl

theorem State.rollover_keeps : s.Keeps s.rollover := by
  unfold rollover
  extract_lets t s1 b
  have cleared : s.Keeps s1 := withTables_keeps fun h => by
    rw [canonical_iff] at h ⊢
    refine ⟨?_, h.2⟩
    exact tabMap_wf (fun e : PermitEntry => { e with usedToday := 0 }) _ h.1
  refine .trans (cleared.trans ?_) (raise_keeps _ _)
  exact .of_watched rfl

theorem State.owedRollover_keeps : s.Keeps s.owedRollover := by
  unfold owedRollover
  refine .ite (.trans ?_ (rollover_keeps _)) (.refl s)
  exact .of_watched rfl

theorem State.clockSet_keeps (p : List Byte) : s.Keeps (s.clockSet p).1 := by
  unfold clockSet
  extract_lets v s0 c s1
  have owed : s.Keeps s0 := s.owedRollover_keeps
  have set_ : s.Keeps s1 := owed.trans (.of_watched rfl)
  split
  · exact .refl s
  · split
    · exact .refl s
    · exact .ite (set_.trans (rollover_keeps _)) set_

theorem State.bayCommand_keeps (p : List Byte) : s.Keeps (s.bayCommand p).1 := by
  unfold bayCommand
  split
  · exact .refl s
  · exact .of_watched rfl
  · split
    · exact .refl s
    · refine .trans ?_ (settlePresentation_keeps _)
      exact .of_watched rfl

theorem State.armRequest_keeps (p : List Byte) {f : Fin 4 → State × OpResult} (h : ∀ k, s.Keeps (f k).1) :
    s.Keeps (s.armRequest p f).1 := by
  unfold armRequest
  split
  · exact .refl s
  · exact h _

theorem State.setupRequest_keeps (p : List Byte) : s.Keeps (s.setupRequest p).1 := by
  unfold setupRequest
  split
  · exact .refl s
  · exact s.armRequest_keeps p fun k => s.setup_keeps _ _ _

end

end Sys2Proof.Machine
end

section
/-! SUPPORT. What station records, read-outs and the resets keep (chapters 8 and 9). -/

namespace Sys2Proof.Machine

section
variable (s : State)

/-! ### Station records (R68, R86, R171) -/

theorem State.tellResult_keeps (a arm : Byte) (op : BatchOp) (r : OpResult) : s.Keeps (s.tellResult a arm op r) := by
  cases r with
  | refused r => exact (s.raise_keeps _).trans (tellKeypad_keeps _ _ _)
  | notNow => exact s.tellKeypad_keeps _ _
  | setUp p c => exact s.tellKeypad_keeps _ _
  | started => exact s.tellKeypad_keeps _ _
  | waiting => exact s.tellKeypad_keeps _ _
  | accepted => exact s.tellKeypad_keeps _ _

theorem State.keyOp_keeps (a arm : Byte) (op : BatchOp) {f : Fin 4 → State × OpResult} (h : ∀ k, s.Keeps (f k).1) :
    s.Keeps (s.keyOp a arm op f) := by
  unfold keyOp
  split
  · exact s.tellResult_keeps _ _ _ _
  · exact (h _).trans (tellResult_keeps _ _ _ _ _)

theorem State.offer_keeps (a : Byte) (role : Role) (ok : Bool) (record : List Byte) {block : Fin 12 → State}
    (h : ∀ i, s.Keeps (block i)) : s.Keeps (s.offer a role ok record block) := by
  unfold offer
  split
  · exact .ite (.ite ((h _).trans (forwardCopy_keeps _ _ _ _)) (h _)) s.countUnexpected_keeps
  · exact s.countUnexpected_keeps

theorem State.cardFrom_keeps (a : Byte) (n : BitVec 40) : s.Keeps (s.cardFrom a n) :=
  s.offer_keeps _ _ _ _ fun _ => s.takeCard_keeps _

theorem State.tagFrom_keeps (a : Byte) (n : BitVec 32) : s.Keeps (s.tagFrom a n) :=
  s.offer_keeps _ _ _ _ fun _ => s.takeTag_keeps _

theorem State.takeTemp_keeps (i : Fin 12) (t : BitVec 16) (good : Bool) : s.Keeps (s.takeTemp i t good) := by
  unfold takeTemp
  split
  · exact .ite (s.goodSample_keeps _ _) (s.badSample_keeps _)
  · exact .refl s

theorem State.tempFrom_keeps (a : Byte) (t : BitVec 16) (quality : Byte) : s.Keeps (s.tempFrom a t quality) :=
  s.offer_keeps _ _ _ _ fun _ => s.takeTemp_keeps _ _ _

theorem State.keySetupFrom_keeps (a arm compartment product : Byte) (preset : BitVec 24) (recipe : Byte) :
    s.Keeps (s.keySetupFrom a arm compartment product preset recipe) := by
  refine s.offer_keeps _ _ _ _ fun _ => s.keyOp_keeps _ _ _ fun k => ?_
  split
  · exact .refl s
  · exact s.setup_keeps _ _ _

theorem State.keyFrom_keeps (a arm : Byte) (op : BatchOp) (record : List Byte) {f : State} (h : s.Keeps f) :
    s.Keeps (s.keyFrom a arm op record f) := s.offer_keeps _ _ _ _ fun _ => h

theorem State.keyStart_keeps (a arm : Byte) : s.Keeps (s.keyStart a arm) := s.keyOp_keeps _ _ _ fun k => s.start_keeps k _
theorem State.keyStop_keeps (a arm : Byte) : s.Keeps (s.keyStop a arm) := s.keyOp_keeps _ _ _ fun k => s.stop_keeps k
theorem State.keySuspend_keeps (a arm : Byte) : s.Keeps (s.keySuspend a arm) :=
  s.keyOp_keeps _ _ _ fun k => s.suspendOp_keeps k
theorem State.keyResume_keeps (a arm : Byte) : s.Keeps (s.keyResume a arm) :=
  s.keyOp_keeps _ _ _ fun k => s.resume_keeps k

theorem State.route_keeps (a kind : Byte) (p : List Byte) : s.Keeps (s.route a kind p) := by
  unfold route
  refine .ite s.countUnexpected_keeps ?_
  split
  · exact .refl s
  · exact s.cardFrom_keeps _ _
  · exact s.tagFrom_keeps _ _
  · exact s.tempFrom_keeps _ _ _
  · exact s.keySetupFrom_keeps _ _ _ _ _ _
  · exact s.keyFrom_keeps _ _ _ _ (s.keyStart_keeps _ _)
  · exact s.keyFrom_keeps _ _ _ _ (s.keyStop_keeps _ _)
  · exact s.keyFrom_keeps _ _ _ _ (s.keySuspend_keeps _ _)
  · exact s.keyFrom_keeps _ _ _ _ (s.keyResume_keeps _ _)
  · exact s.countUnexpected_keeps

theorem State.stationFrame_keeps (source kind : Byte) (p : List Byte) : s.Keeps (s.stationFrame source kind p) := by
  unfold stationFrame
  split
  · extract_lets d s1
    have received : s.Keeps s1 := withDport_keeps id rfl
    exact .ite (received.trans (turnAnswered_keeps _ _ _))
      ((received.trans (turnAnswered_keeps _ _ _)).trans (route_keeps _ _ _ _))
  · exact s.unexpectedFrame_keeps

theorem State.relayAnswered_keeps (source : Byte) (p : List Byte) : s.Keeps (s.relayAnswered source p) := by
  unfold relayAnswered
  split
  · extract_lets d s1
    have received : s.Keeps s1 := withDport_keeps id rfl
    exact .ite (received.trans (turnAnswered_keeps _ _ _))
      ((received.trans (turnAnswered_keeps _ _ _)).trans (countUnexpected_keeps _))
  · exact s.unexpectedFrame_keeps

/-! ### Read-outs (R181, R183) -/

theorem State.statusRead_keeps (p : List Byte) : s.Keeps (s.statusRead p).1 := by
  unfold statusRead
  split <;> exact .refl s

/-- A clear of the safety counters changes chatter and press counts alone. -/
theorem State.clearSafety_keeps : s.Keeps (s.withSafety s.safety.clearCounts) := by
  refine .of_inputs rfl fun permitted => ?_
  have level (i : SafetyInput) : ((s.withSafety s.safety.clearCounts).input i).level = (s.input i).level := by
    simp only [input, withSafety, SafetyBlk.clearCounts, Vec.get_ofFn]
  simpa only [State.permitted, level] using permitted

theorem State.clearGroup_keeps (n : Nat) : s.Keeps (s.clearGroup n) := by
  unfold clearGroup
  split
  · exact s.clearSafety_keeps
  · exact .of_watched rfl
  · exact .of_watched rfl
  · exact .of_watched rfl
  · exact .of_watched rfl
  · exact .of_watched rfl
  · exact .refl s

theorem State.counterRead_keeps (p : List Byte) : s.Keeps (s.counterRead p).1 := by
  unfold counterRead
  split
  · exact .ite (s.clearGroup_keeps _) (.refl s)
  · exact .refl s

/-! ### Resets (R186, R190) -/

/-- A state with every arm IDLE: the valve guard holds, and the batches have no bound to keep. -/
theorem State.Keeps.of_idle {s t : State} (front : t.pending = s.pending ∧ t.now = s.now) (idle : ∀ k, (t.arm k).state = .idle)
    (queues : s.bounded → t.uport.events.length ≤ 32 ∧ t.uport.lost ≤ 255 ∧ t.uport.relayUp.length ≤ 8 ∧
      t.dport.relayDown.length ≤ 4 ∧ (∀ i, (t.station i).verdicts.length ≤ 4) ∧ t.additive.waiting.length ≤ 3)
    (canonical : s.canonical = true → t.canonical = true) (notes : s.notesSound → t.notesSound) : s.Keeps t where
  opens _ k opens := by rw [idle k] at opens; cases opens
  flows _ k flows := by rw [idle k] at flows; cases flows
  bounded bounded := by
    obtain ⟨h1, h2, h3, h4, h5, h6⟩ := queues bounded
    exact (bounded_iff _).2 ⟨h1, h2, h3, h4, h5, h6, fun k nonIdle => absurd (idle k) nonIdle⟩
  canonical := canonical
  notes := notes
  front := front

/-- Without a presentation the note queue is as sound as it was. -/
theorem State.notesSound.of_unpresented {s t : State} (sound : s.notesSound) (places : t.custody.places = s.custody.places)
    (record : t.session.record = s.session.record) (unpresented : t.session.presentation = none) : t.notesSound := by
  rw [notesSound_iff, places, record, unpresented]
  exact ⟨sound.inUse, sound.reserved, nofun, sound.unclosed⟩

/-- The blocks blanked, the ports and what retention holds standing. -/
theorem State.Keeps.of_blank {s t : State} (front : t.pending = s.pending ∧ t.now = s.now) (idle : ∀ k,
    (t.arm k).state = .idle) (tables : t.tables = s.tables)
    (uport : t.uport = s.uport) (dport : t.dport = s.dport) (waiting : t.additive.waiting = [])
    (places : t.custody.places = s.custody.places) (record : t.session.record = s.session.record)
    (unpresented : t.session.presentation = none) : s.Keeps t := by
  refine .of_idle front idle (fun h => ?_) (fun h => by rwa [canonical_congr tables])
    fun sound => sound.of_unpresented places record unpresented
  simp only [station, uport, dport, waiting]
  exact ⟨h.events, h.lost, h.relayUp, h.relayDown, h.verdicts, Nat.zero_le _⟩

theorem State.freshStations_verdicts (i : Fin 12) : (Vec.get s.freshStations i).verdicts = [] := by
  rw [freshStations, Vec.get_ofFn]
  rfl

theorem State.freshDirectory_verdicts (i : Fin 12) : (s.freshDirectory.station i).verdicts.length ≤ 4 := by
  show (Vec.get s.freshStations i).verdicts.length ≤ 4
  rw [freshStations_verdicts]
  exact Nat.zero_le _

theorem State.freshDirectory_keeps : s.Keeps s.freshDirectory := by
  refine .of_queues rfl ?_
  rw [bounded_iff, bounded_iff]
  rintro ⟨h1, h2, h3, h4, -, rest⟩
  exact ⟨h1, h2, h3, h4, s.freshDirectory_verdicts, rest⟩

theorem State.portsOn_keeps : s.Keeps s.portsOn := by
  unfold portsOn
  refine .trans ?_ (freshDirectory_keeps _)
  refine .of_queues rfl ?_
  rw [bounded_iff, bounded_iff]
  rintro ⟨-, -, -, -, -, rest⟩
  refine ⟨Nat.zero_le _, Nat.zero_le _, Nat.zero_le _, Nat.zero_le _, fun i => ?_, rest⟩
  simp [station, withDport, DPort.powerOn, Vec.get_replicate, Station.powerOn]

theorem State.portsReset_keeps : s.Keeps s.portsReset := by
  unfold portsReset
  extract_lets u d u1 d1
  refine .trans ?_ (freshDirectory_keeps _)
  refine .of_queues rfl ?_
  rw [bounded_iff, bounded_iff]
  rintro ⟨events, lost, -, -, -, rest⟩
  refine ⟨events, lost, Nat.zero_le _, Nat.zero_le _, fun i => ?_, rest⟩
  simp [station, withDport, d1, DPort.powerOn, Vec.get_replicate, Station.powerOn]

theorem State.withRetention_keeps (r : RetCtl) : s.Keeps (s.withRetention r) := .of_watched rfl

theorem State.withPowered_keeps (b : Bool) : s.Keeps (s.withPowered b) := .of_watched rfl

theorem State.withMeters_keeps (m : Vector Meter 4) : s.Keeps (s.withMeters m) := .of_watched rfl

theorem State.startChannels_keeps : s.Keeps s.startChannels := .foldl (fun t _ => t.startChannel_keeps _ _ _ _) _ s

theorem State.watchPins_keeps : s.Keeps s.watchPins :=
  .foldl (fun t i => .ite (t.seenHigh_keeps i) (.refl t)) _ s

theorem State.arm_blankVolatile (k : Fin 4) :
    s.blankVolatile.arm k = Arm.powerOn ((s.arm k).batch.map retainedBatch) := by
  show Vec.get (Vector.ofFn fun k => Arm.powerOn ((Vec.get s.arms k).batch.map retainedBatch)) k = _
  rw [Vec.get_ofFn]
  rfl

theorem State.blankVolatile_keeps : s.Keeps s.blankVolatile := by
  unfold blankVolatile
  extract_lets s1 s2 s3 s4 c s5
  have blank : s.Keeps s5 := by
    refine .of_blank ⟨by simp [s1, s2, s3, s4, s5], by simp [s1, s2, s3, s4, s5]⟩ (fun k => ?_) (by simp [s1, s2, s3,
      s4, s5]) (by simp [s1, s2, s3, s4, s5]) (by simp [s1, s2, s3, s4, s5]) rfl (by simp [s5, c])
      (by simp [s1, s2, s3, s4, s5, SessionBlk.loseVolatile]) rfl
    show (Vec.get (Vector.ofFn fun k => Arm.powerOn ((Vec.get s.arms k).batch.map retainedBatch)) k).state = .idle
    rw [Vec.get_ofFn]
    rfl
  exact (blank.trans (portsOn_keeps _)).trans (withRetention_keeps _ _)

theorem State.loseVolatile_idle (k : Fin 4) : (s.loseVolatile.arm k).state = .idle := by
  rw [loseVolatile, arm_blankVolatile]
  rfl

theorem State.loseVolatile_keeps : s.Keeps s.loseVolatile := s.owedRollover_keeps.trans (blankVolatile_keeps _)

theorem State.cutLines_keeps : s.Keeps s.cutLines :=
  .trans (withUport_keeps fun _ => ⟨Nat.zero_le _, Nat.zero_le _, Nat.zero_le _⟩) (withDport_keeps id rfl)

/-! ### The arms at a reset -/

theorem State.updBatch_arm_state (k j : Fin 4) (f : Batch → Batch) :
    ((s.updBatch k f).arm j).state = (s.arm j).state := by
  rw [arm_updBatch]
  split_ifs with same
  · rw [same]
  · rfl

theorem State.finaliseDose_arm (k : Fin 4) (gross i : Nat) (j : Fin 4) :
    ((State.finaliseDose k gross s i).arm j).state = (s.arm j).state := by
  unfold finaliseDose
  split
  · exact (updBatch_arm_state _ k j _).trans rfl
  · rfl

theorem State.releaseDoses_arm_state (k j : Fin 4) : ((s.releaseDoses k true).arm j).state = (s.arm j).state := by
  unfold releaseDoses
  split
  · simp only [true_or, if_true]
    exact foldl_frame (p := fun t => (t.arm j).state) (fun t i => t.finaliseDose_arm k _ i j) _ s
  · rfl

theorem State.dropBatch_arm_state (k j : Fin 4) :
    ((s.dropBatch k).arm j).state = if j = k then .idle else (s.arm j).state := by
  unfold dropBatch
  rw [arm_moveArm]
  split_ifs with same
  · rfl
  · simp [same, arm, setVol, setArm]

theorem State.batchEnd_arm_state (k j : Fin 4) (r : EndReason) :
    ((s.batchEnd k r true).arm j).state = if j = k then .idle else (s.arm j).state := by
  unfold batchEnd
  extract_lets s1
  have released : (s1.arm j).state = (s.arm j).state := s.releaseDoses_arm_state k j
  split
  · rw [dropBatch_arm_state, arm_congr (s := s1) (by simp), released]
  · rw [dropBatch_arm_state, released]

theorem State.resetArm_keeps (k : Fin 4) : s.Keeps (s.resetArm k) := by
  unfold resetArm
  split
  · exact s.batchEnd_keeps _ _ _
  · exact s.batchEnd_keeps _ _ _
  · exact s.batchEnd_keeps _ _ _
  · exact s.batchEnd_keeps _ _ _
  · exact s.batchEnd_keeps _ _ _
  · exact s.cancel_keeps _
  · exact s.cancel_keeps _
  · exact .refl s

theorem State.resetArm_arm_state (k j : Fin 4) :
    ((s.resetArm k).arm j).state = if j = k then .idle else (s.arm j).state := by
  have cancelled : ((s.cancel k).arm j).state = if j = k then .idle else (s.arm j).state := by
    rw [arm_cancel]
    split_ifs <;> rfl
  unfold resetArm
  split
  case h_8 idle =>
    split_ifs with same
    · rw [same, idle]
    · rfl
  case h_6 => exact cancelled
  case h_7 => exact cancelled
  all_goals exact s.batchEnd_arm_state k j _

/-- A step that leaves its own arm IDLE and the others' states leaves every arm IDLE when folded over them. -/
theorem State.foldl_idle {f : State → Fin 4 → State}
    (h : ∀ s k j, ((f s k).arm j).state = if j = k then .idle else (s.arm j).state) (s : State) (k : Fin 4) :
    ((armIxs.foldl f s).arm k).state = .idle := by
  have each : ∀ (l : List (Fin 4)) (t : State), (k ∈ l ∨ (t.arm k).state = .idle) →
      ((l.foldl f t).arm k).state = .idle := by
    intro l
    induction l with
    | nil => exact fun t idle => idle.resolve_left List.not_mem_nil
    | cons j l ih =>
      intro t reached
      refine ih _ ?_
      rw [h]
      split_ifs with same
      · exact .inr rfl
      · exact reached.imp_left fun mem => (List.mem_cons.1 mem).resolve_left same
  have every : ∀ k, k ∈ armIxs := by decide
  exact each _ s (.inl (every k))

/-- With every arm IDLE a session may close. -/
theorem State.closeSession_idle_keeps (reason : CloseReason) (idle : ∀ k, (s.arm k).state = .idle) :
    s.Keeps (s.closeSession reason) :=
  s.closeSession_keeps reason fun k => by rw [idle k]; rfl

theorem State.resetSession_keeps : s.Keeps s.resetSession :=
  (Keeps.foldl (fun t k => t.resetArm_keeps k) armIxs s).trans
    (closeSession_idle_keeps _ _ (foldl_idle (fun t k j => t.resetArm_arm_state k j) s))

theorem State.resetBlocks_keeps : s.Keeps s.resetBlocks := by
  unfold resetBlocks
  extract_lets s1 s2 s3 s4 r s5
  have blank : s.Keeps s4 := by
    refine .of_blank ⟨by simp [s1, s2, s3, s4], by simp [s1, s2, s3, s4]⟩ (fun k => ?_) (by simp [s1, s2, s3, s4])
      (by simp [s1, s2, s3, s4]) (by simp [s1, s2, s3, s4]) rfl (by simp [s1, s2, s3, s4])
      (by simp [s1, s2, s3, s4, SessionBlk.loseVolatile]) rfl
    show (Vec.get (Vector.replicate 4 (Arm.powerOn none)) k).state = .idle
    rw [Vec.get_replicate]
    rfl
  have ports : s4.Keeps s5 := (portsReset_keeps _).trans (withRetention_keeps _ _)
  exact ((blank.trans ports).trans (startChannels_keeps _)).trans (watchPins_keeps _)

theorem State.bayReset_keeps : s.Keeps s.bayReset :=
  (s.cutLines_keeps.trans (resetSession_keeps _)).trans (resetBlocks_keeps _)

/-! ### Power (R190, R191) -/

theorem State.powerLossArm_keeps (k : Fin 4) : s.Keeps (s.powerLossArm k) := by
  unfold powerLossArm
  split
  · exact .ite (s.batchEnd_keeps _ _ _) (s.dropBatch_keeps _)
  · exact .refl s

variable {s} in
theorem State.powerLossArm_idle (idle : ∀ j, (s.arm j).state = .idle) (k j : Fin 4) :
    ((s.powerLossArm k).arm j).state = .idle := by
  unfold powerLossArm
  split
  · split
    · rw [batchEnd_arm_state, idle, ite_self]
    · rw [dropBatch_arm_state, idle, ite_self]
  · exact idle j

theorem State.powerLossArms_idle {s : State} (l : List (Fin 4)) (idle : ∀ j, (s.arm j).state = .idle) (j : Fin 4) :
    ((l.foldl powerLossArm s).arm j).state = .idle := by
  induction l generalizing s with
  | nil => exact idle j
  | cons k l ih => exact ih (powerLossArm_idle idle k)

/-- Start-up finds no session marked closed, and every arm IDLE. -/
theorem State.powerLossClose_keeps (idle : ∀ k, (s.arm k).state = .idle) : s.Keeps s.powerLossClose := by
  unfold powerLossClose
  split
  case h_2 => exact .refl s
  case h_1 r record =>
    split
    case isTrue closed =>
      refine .of_idle ⟨rfl, rfl⟩ idle (fun bounded => ?_) id fun sound => ?_
      · exact ⟨bounded.events, bounded.lost, bounded.relayUp, bounded.relayDown, bounded.verdicts, bounded.waiting⟩
      · cases (sound.unclosed r record).symm.trans closed
    case isFalse =>
      refine (Keeps.foldl (fun t k => t.powerLossArm_keeps k) armIxs s).trans (closeSession_idle_keeps _ _ ?_)
      exact powerLossArms_idle armIxs idle

theorem State.dropBatches_keeps : s.Keeps s.dropBatches := by
  have dropped (k : Fin 4) : s.dropBatches.arm k = { s.arm k with batch := none } := by
    simp only [dropBatches, arm, withArms, Vec.get_ofFn]
  refine .of_arms rfl fun k => ?_
  rw [dropped]
  exact ⟨.inl, .inl, fun _ _ b hb => by cases hb⟩

theorem State.rolloverCheck_keeps : s.Keeps s.rolloverCheck := .ite s.rollover_keeps (.refl s)

theorem State.resumeService_keeps : s.Keeps s.resumeService := .of_watched rfl

theorem State.reportFault_arms (c : FaultClass) (k : Option (Fin 4)) (x : Subject) (drill : Bool) (m : ResponseMode) :
    (s.reportFault c k x drill m).arms = s.arms := by
  unfold reportFault
  extract_lets r s1
  split
  · rfl
  · simp [s1]

/-- During the start-up scan RETENTION is recorded and latched only. -/
theorem State.raiseRetention_scan_arms (item : RetItem) : (s.raiseRetention true item).arms = s.arms :=
  s.reportFault_arms _ _ _ _ _

/-- A word read by the start-up scan moves no arm. -/
theorem State.readWord_scan_state (f : Finding) (k : Fin 4) :
    ((State.readWord true s f).arm k).state = (s.arm k).state := by
  have stays {t u : State} (h : t.arms = u.arms) : (t.arm k).state = (u.arm k).state := by rw [arm_congr h]
  unfold readWord
  split
  · rfl
  · unfold countCorrection
    split <;> rfl
  · unfold uncorrectable
    split
    case h_1 id i =>
      unfold damageEntry
      split
      · rfl
      · extract_lets s1
        split
        · rw [stays (raiseRetention_scan_arms _ _)]
          split
          · rw [arm_clearHistories]
            rfl
          · rfl
        · rfl
    case h_2 img =>
      rw [stays (raiseRetention_scan_arms _ _)]
      unfold rewriteSession
      split
      · simp only [arm, withArms, Vec.get_ofFn, mergeArm]
        split <;> rfl
      · rfl
    case h_4 => rfl
    case h_5 =>
      rw [stays (raiseRetention_scan_arms _ _)]
      split <;> rfl
    case h_6 =>
      rw [stays (raiseRetention_scan_arms _ _)]
      split <;> rfl
    case h_7 t _ _ =>
      rw [stays (raiseRetention_scan_arms _ _)]
      unfold damageTotalizer
      cases t <;> rfl
    all_goals
      rw [stays (raiseRetention_scan_arms _ _)]
      rfl

theorem State.retentionKept_keeps (findings : List Finding) (idle : ∀ k, (s.arm k).state = .idle) :
    s.Keeps (s.retentionKept findings) := by
  unfold retentionKept
  extract_lets s1 s2
  have powered : s.Keeps s1 := .of_watched rfl
  have scanned : s.Keeps s2 := powered.trans (.foldl (fun t f => t.readWord_keeps true f) _ _)
  have idle2 : ∀ k, (s2.arm k).state = .idle := fun k =>
    (foldl_frame (p := fun t => (t.arm k).state) (fun t f => t.readWord_scan_state f k) findings s1).trans (idle k)
  exact (((scanned.trans (powerLossClose_keeps _ idle2)).trans (dropBatches_keeps _)).trans
    (rolloverCheck_keeps _)).trans (resumeService_keeps _)

theorem State.retentionCleared_keeps : s.Keeps s.retentionCleared := by
  unfold retentionCleared
  extract_lets s1 s2 b s3 s4
  refine .trans ?_ (raise_keeps _ _)
  refine .of_idle ⟨rfl, rfl⟩ (fun k => ?_) (fun bounded => ?_) (fun _ => ?_) fun _ => ?_
  · show (Vec.get (Vector.replicate 4 (Arm.powerOn none)) k).state = .idle
    rw [Vec.get_replicate]
    rfl
  · exact ⟨bounded.events, bounded.lost, bounded.relayUp, bounded.relayDown, bounded.verdicts, bounded.waiting⟩
  · exact (canonical_iff _).2 ⟨rfl, rfl, rfl, rfl, rfl, rfl, rfl⟩
  · exact (notesSound_iff _).2 ⟨Nat.zero_le _, rfl, nofun, nofun⟩

theorem State.readPins_keeps (p : PinLevels) : s.Keeps (s.readPins p) := by
  unfold readPins
  extract_lets level s1 s2
  have pinned : s.Keeps s1 := .of_watched rfl
  have level : s1.Keeps s2 := by
    refine .foldl (fun t i => ?_) inputIxs s1
    exact t.setInput_keeps id
  exact (pinned.trans level).trans (withMeters_keeps _ _)

theorem State.startUp_keeps (p : PinLevels) (kept : Bool) (findings : List Finding) :
    s.Keeps (s.startUp p kept findings) := by
  unfold startUp
  extract_lets s1 s2
  have blank : s.Keeps s1 := ((s.readPins_keeps p).trans (loseVolatile_keeps _)).trans (withPowered_keeps _ _)
  have idle1 : ∀ k, (s1.arm k).state = .idle := (s.readPins p).loseVolatile_idle
  have restored : s.Keeps s2 := .ite (blank.trans (retentionKept_keeps _ _ idle1)) (blank.trans (retentionCleared_keeps _))
  exact ((restored.trans (freshDirectory_keeps _)).trans (startChannels_keeps _)).trans (watchPins_keeps _)

theorem State.powerLost_keeps : s.Keeps s.powerLost := s.loseVolatile_keeps.trans (withPowered_keeps _ _)

/-! ### Time (R20, R184) -/

theorem State.tick_meets (i : Invariant) (meets : s.meets i) : s.tick.meets i := by
  have queues : ∀ u : UPort, ∀ now, (u.beginReply now).events = u.events ∧ (u.beginReply now).lost = u.lost ∧
      (u.beginReply now).relayUp = u.relayUp := fun u now => by
    rcases u.beginReply_eq now with same | ⟨-, begun⟩
    · rw [same]; exact ⟨rfl, rfl, rfl⟩
    · rw [begun]; exact ⟨rfl, rfl, rfl⟩
  obtain ⟨events, lost, relayUp⟩ := queues s.uport (s.now + 1)
  have places : ∀ d : CustodyBlk, (d.second s.powered).places = d.places := fun d => by
    unfold CustodyBlk.second
    split <;> rfl
  refine meets_of_watched ?_ i meets
  unfold tick
  simp only [watched, withNow, withUport, withCustody, events, lost, relayUp]
  split_ifs <;> simp only [places]

theorem State.midnightPassed_keeps : s.Keeps s.midnightPassed := by
  unfold midnightPassed
  extract_lets t c
  refine .ite s.owedRollover_keeps (.ite (.trans ?_ (rollover_keeps _)) (.refl s))
  exact .of_watched rfl

/-! ### Receivers (R153 to R157) -/

theorem State.endFrameU_keeps : s.Keeps s.endFrameU := withUport_keeps fun h => ⟨h.events, h.lost, h.relayUp⟩

theorem State.endFrameD_keeps : s.Keeps s.endFrameD := by
  unfold endFrameD
  refine .trans ?_ (endOverdue_keeps _)
  exact withDport_keeps id rfl

theorem State.endFrame_keeps (line : Line) : s.Keeps (s.endFrame line) := by
  cases line
  · exact s.endFrameU_keeps
  · exact s.endFrameD_keeps

theorem State.addressCharacter_keeps (line : Line) (a : Byte) : s.Keeps (s.addressCharacter line a) := by
  unfold addressCharacter
  split
  · exact .ite (.ite s.countOverlap_keeps (withUport_keeps fun h => ⟨h.events, h.lost, h.relayUp⟩)) (.refl s)
  · exact .ite (withDport_keeps id rfl) (.refl s)

theorem State.framingError_keeps (line : Line) (inFrame : Bool) : s.Keeps (s.framingError line inFrame) := by
  unfold framingError
  split
  · extract_lets u t
    have counted : s.Keeps t := withUport_keeps fun h => ⟨h.events, h.lost, h.relayUp⟩
    exact .ite (counted.trans (endFrameU_keeps _)) counted
  · extract_lets d t
    have counted : s.Keeps t := withDport_keeps id rfl
    exact .ite (counted.trans (endFrameD_keeps _)) counted

theorem State.checkError_keeps (line : Line) : s.Keeps (s.checkError line) := by
  unfold checkError
  split
  · exact withUport_keeps fun h => ⟨h.events, h.lost, h.relayUp⟩
  · refine .trans ?_ (endOverdue_keeps _)
    exact withDport_keeps id rfl

end

end Sys2Proof.Machine
end

section
/-! PROOFS. Every command and every step keeps the four invariants: the valve guard, the bounds of the queues, the form of
the tables and the soundness of the note queue. -/

namespace Sys2Proof.Machine

/-- A command of a powered part keeps what its effect keeps. -/
theorem whenPowered_keeps {f : State → State} (h : ∀ u : State, u.Keeps (f u)) {s t : State}
    (next : whenPowered f s = .next t) : s.Keeps t := by
  unfold whenPowered at next
  cases next
  exact .ite (s.meet_keeps.trans (h _)) (.refl s)

theorem State.setPin_keeps (s : State) (i : SafetyInput) (pin : Bool) :
    s.Keeps (s.setInput i { s.input i with pin := pin }) := s.setInput_keeps id

theorem State.withPins_keeps (s : State) (p : Pins) : s.Keeps (s.withPins p) := .of_watched rfl

theorem State.clockStop_keeps (s : State) : s.Keeps (s.withCustody { s.custody with clock := clockMax, phase := 0 }) :=
  .of_watched rfl

theorem State.askReset_keeps (s : State) : s.Keeps (s.withUport { s.uport with resetAsked := true }) :=
  withUport_keeps fun h => ⟨h.events, h.lost, h.relayUp⟩

theorem State.endReply_keeps (s : State) : s.Keeps (s.withUport { s.uport with
    inHand := none, phase := .none, resetDue := s.uport.resetDue || s.uport.resetAsked, resetAsked := false }) :=
  withUport_keeps fun h => ⟨h.events, h.lost, h.relayUp⟩

theorem State.assemble_keeps (s : State) : s.Keeps (s.withUport { s.uport with assembling := true }) :=
  withUport_keeps fun h => ⟨h.events, h.lost, h.relayUp⟩

/-! ### The commands whose effect is not an operation of its own -/

section
variable (s : State)

theorem State.broadcast_keeps (kind : Byte) (payload : List Byte) :
    s.Keeps (if s.ude then s
      else if s.uport.inHand.isSome then s.countOverlap
      else if kind = 0x15 ∧ payload.length = 5 then (s.linkFrame.clockSet payload).1
      else if kind = 0x16 ∧ payload = [0] then (s.linkFrame.bayCommand payload).1
      else s.linkFrame) :=
  .ite (.refl s) (.ite s.countOverlap_keeps (.ite (s.linkFrame_keeps.trans (clockSet_keeps _ _))
    (.ite (s.linkFrame_keeps.trans (bayCommand_keeps _ _)) s.linkFrame_keeps)))

theorem State.idleTimeout_keeps : s.Keeps (if s.session.idleTimer.isSome && s.noneRunning then
    (s.withSession { s.session with idleTimer := none }).orderlyClose .idleTimeout else s) := by
  split
  case isTrue out =>
    have stopped : s.Keeps (s.withSession { s.session with idleTimer := none }) := .of_watched rfl
    exact stopped.trans (orderlyClose_keeps _ _ (Bool.and_eq_true_iff.1 out).2)
  case isFalse => exact .refl s

theorem State.stoppingTimeout_keeps (k : Fin 4) : s.Keeps (if (s.arm k).state = .stopping ∧ (s.arm k).stopTimer.isSome then
    ((s.updBatch k fun b => { b with endReason := some .fault }).endStopped k).armFault .valve k else s) := by
  refine .ite (.trans (.trans ?_ (endStopped_keeps _ _)) (armFault_keeps _ _ _)) (.refl s)
  exact s.updBatch_keeps k fun _ => rfl

theorem State.suspendTimeout_keeps (k : Fin 4) : s.Keeps (if (s.arm k).state = .suspended ∧ (s.arm k).stopTimer.isSome then
    (s.setArm k { s.arm k with stopTimer := none }).armFault .valve k else s) := by
  refine .ite (.trans ?_ (armFault_keeps _ _ _)) (.refl s)
  exact s.setArm_keeps_of_same rfl rfl

theorem State.relayReady_of_turnChoice (h : s.turnChoice = .relay) : s.relayReady = true := by
  by_contra unready
  unfold turnChoice at h
  simp only [Bool.eq_false_iff.2 unready, Bool.false_and, Bool.false_eq_true, if_false] at h
  split at h
  · cases h
  · split at h
    · split at h <;> cases h
    · cases h

/-- The next relay turn is made while a place of the relay-up queue is free. -/
theorem State.relayTurn_keeps : s.Keeps (match s.settleCursor.turnChoice with
    | .relay => s.settleCursor.handleRelay
    | _ => s) := by
  have settled := s.settleCursor_keeps
  generalize s.settleCursor = u at settled
  split
  case h_2 => exact .refl s
  case h_1 choice =>
    refine settled.trans (u.handleRelay_keeps ?_)
    have ready := u.relayReady_of_turnChoice choice
    simpa using (Bool.and_eq_true_iff.1 ready).2

end

open State in
/-- Every command keeps the invariants. -/
theorem exec_keeps (c : Instr) {s t : State} (h : exec c s = .next t) : s.Keeps t := by
  cases c with
  | authorise tag payload =>
    exact whenPowered_keeps (fun u => u.request_keeps _ _ _ fun v => v.authorise_keeps _ _ _) h
  | deny tag payload => exact whenPowered_keeps (fun u => u.request_keeps _ _ _ fun v => v.denyCard_keeps _ _) h
  | sessionEnd tag payload => exact whenPowered_keeps (fun u => u.request_keeps _ _ _ fun v => v.sessionEnd_keeps) h
  | sessionAbort tag payload => exact whenPowered_keeps (fun u => u.request_keeps _ _ _ fun v => v.sessionAbort_keeps) h
  | clearFault tag payload => exact whenPowered_keeps (fun u => u.request_keeps _ _ _ fun v => v.clearRequest_keeps _) h
  | faultDrill tag payload => exact whenPowered_keeps (fun u => u.request_keeps _ _ _ fun v => v.drillRequest_keeps _) h
  | batchSetup tag payload => exact whenPowered_keeps (fun u => u.request_keeps _ _ _ fun v => v.setupRequest_keeps _) h
  | batchStart tag payload =>
    exact whenPowered_keeps (fun u => u.request_keeps _ _ _ fun v => v.armRequest_keeps _ fun k => v.start_keeps k _) h
  | batchStop tag payload =>
    exact whenPowered_keeps (fun u => u.request_keeps _ _ _ fun v => v.armRequest_keeps _ v.stop_keeps) h
  | batchSuspend tag payload =>
    exact whenPowered_keeps (fun u => u.request_keeps _ _ _ fun v => v.armRequest_keeps _ v.suspendOp_keeps) h
  | batchResume tag payload =>
    exact whenPowered_keeps (fun u => u.request_keeps _ _ _ fun v => v.armRequest_keeps _ v.resume_keeps) h
  | noteList tag payload reads => exact whenPowered_keeps (fun u => u.request_keeps _ _ _ fun v => v.noteList_keeps _) h
  | noteRead tag payload reads =>
    exact whenPowered_keeps (fun u => u.request_keeps _ _ _ fun v => v.noteRead_keeps _ _) h
  | noteRelease tag payload reads =>
    exact whenPowered_keeps (fun u => u.request_keeps _ _ _ fun v => v.noteRelease_keeps _ _) h
  | relay tag payload => exact whenPowered_keeps (fun u => u.request_keeps _ _ _ fun v => v.relay_keeps _) h
  | tableWrite tag payload => exact whenPowered_keeps (fun u => u.request_keeps _ _ _ fun v => v.tableWrite_keeps _) h
  | tableRead tag payload reads =>
    exact whenPowered_keeps (fun u => u.request_keeps _ _ _ fun v => v.tableRead_keeps _ _) h
  | tableClear tag payload => exact whenPowered_keeps (fun u => u.request_keeps _ _ _ fun v => v.tableClear_keeps _) h
  | statusRead tag payload => exact whenPowered_keeps (fun u => u.request_keeps _ _ _ fun v => v.statusRead_keeps _) h
  | counterRead tag payload => exact whenPowered_keeps (fun u => u.request_keeps _ _ _ fun v => v.counterRead_keeps _) h
  | clockSet tag payload => exact whenPowered_keeps (fun u => u.request_keeps _ _ _ fun v => v.clockSet_keeps _) h
  | bayCommand tag payload => exact whenPowered_keeps (fun u => u.request_keeps _ _ _ fun v => v.bayCommand_keeps _) h
  | resetRequest tag payload =>
    exact whenPowered_keeps (fun u => u.request_keeps _ _ _ fun v => v.askReset_keeps) h
  | unknownRequest kind tag payload => exact whenPowered_keeps (fun u => u.request_keeps _ _ _ fun v => .refl v) h
  | broadcastRequest kind payload => exact whenPowered_keeps (fun u => u.broadcast_keeps _ _) h
  | replyComplete =>
    exact whenPowered_keeps (fun u => .ite u.endReply_keeps (.refl u)) h
  | linkSilenceExpiry => exact whenPowered_keeps (fun u => .ite u.linkSilent_keeps (.refl u)) h
  | framingError line inFrame => exact whenPowered_keeps (fun u => .ite (.refl u) (u.framingError_keeps _ _)) h
  | frameSilenceTimeout line => exact whenPowered_keeps (fun u => .ite (.refl u) (u.endFrame_keeps _)) h
  | frameCheckError line => exact whenPowered_keeps (fun u => .ite (.refl u) (u.checkError_keeps _)) h
  | overlappingRequest =>
    exact whenPowered_keeps (fun u => .ite (.refl u) (.ite u.countOverlap_keeps u.assemble_keeps)) h
  | poll =>
    change execPoll s = _ at h
    unfold execPoll at h
    refine whenPowered_keeps (fun u => ?_) h
    have settled := u.settleCursor_keeps
    dsimp only
    split
    · exact settled.trans (beginTurn_keeps _ _ _ _)
    · exact .refl u
  | verdictFrame =>
    change execVerdictFrame s = _ at h
    unfold execVerdictFrame at h
    refine whenPowered_keeps (fun u => ?_) h
    have settled := u.settleCursor_keeps
    dsimp only
    split
    · exact settled.trans (verdictTurn_keeps _ _)
    · exact .refl u
  | relayTurn => exact whenPowered_keeps (fun u => u.relayTurn_keeps) h
  | stationResponse source kind payload =>
    exact whenPowered_keeps (fun u => .ite (.refl u) (u.stationFrame_keeps _ _ _)) h
  | relayResponse source payload => exact whenPowered_keeps (fun u => .ite (.refl u) (u.relayAnswered_keeps _ _)) h
  | dResponseTimeout receiving =>
    change execDResponseTimeout receiving s = _ at h
    unfold execDResponseTimeout at h
    refine whenPowered_keeps (fun u => ?_) h
    dsimp only
    split
    · exact .ite (.ite (withDport_keeps id rfl) (u.turnMissed_keeps _)) (.refl u)
    · exact .refl u
  | unexpectedFrame => exact whenPowered_keeps (fun u => u.unexpectedFrame_keeps) h
  | card address number => exact whenPowered_keeps (fun u => u.cardFrom_keeps _ _) h
  | tag address number => exact whenPowered_keeps (fun u => u.tagFrom_keeps _ _) h
  | temp address t quality => exact whenPowered_keeps (fun u => u.tempFrom_keeps _ _ _) h
  | keySetup address arm compartment product preset recipe =>
    exact whenPowered_keeps (fun u => u.keySetupFrom_keeps _ _ _ _ _ _) h
  | keyStart address arm => exact whenPowered_keeps (fun u => u.keyFrom_keeps _ _ _ _ (u.keyStart_keeps _ _)) h
  | keyStop address arm => exact whenPowered_keeps (fun u => u.keyFrom_keeps _ _ _ _ (u.keyStop_keeps _ _)) h
  | keySuspend address arm => exact whenPowered_keeps (fun u => u.keyFrom_keeps _ _ _ _ (u.keySuspend_keeps _ _)) h
  | keyResume address arm => exact whenPowered_keeps (fun u => u.keyFrom_keeps _ _ _ _ (u.keyResume_keeps _ _)) h
  | permissiveFall i =>
    exact whenPowered_keeps (fun u => .ite ((u.setPin_keeps _ _).trans (permissiveFall_keeps _ _ _))
      (u.setPin_keeps _ _)) h
  | estopFall =>
    exact whenPowered_keeps (fun u => .ite ((u.setPin_keeps _ _).trans (estopFall_keeps _)) (u.setPin_keeps _ _)) h
  | deadmanRelease => exact whenPowered_keeps (fun u => (u.setPin_keeps _ _).trans (acceptFall_deadman_keeps _)) h
  | debounceStart i => exact whenPowered_keeps (fun u => u.seenHigh_keeps _) h
  | debounceExpiry i => exact whenPowered_keeps (fun u => .ite (u.debounced_keeps _) (.refl u)) h
  | deadmanWarning =>
    exact whenPowered_keeps (fun u => .ite ((u.setDeadman_keeps _).trans (raise_keeps _ _)) (.refl u)) h
  | deadmanExpiry => exact whenPowered_keeps (fun u => .ite u.deadmanOut_keeps (.refl u)) h
  | meterAEdge k => exact whenPowered_keeps (fun u => u.aEdge_keeps _) h
  | meterBEdge k => exact whenPowered_keeps (fun u => u.setMeter_keeps _ _) h
  | gateWindowClose k => exact whenPowered_keeps (fun u => u.closeWindow_keeps _) h
  | suspendStopTimeout k => exact whenPowered_keeps (fun u => u.suspendTimeout_keeps k) h
  | stoppingTimeout k => exact whenPowered_keeps (fun u => u.stoppingTimeout_keeps k) h
  | stalenessExpiry k => exact whenPowered_keeps (fun u => .ite (u.goStale_keeps _) (.refl u)) h
  | lostTimerExpiry k =>
    exact whenPowered_keeps (fun u => .ite ((u.setVol_keeps _ _).trans (armFault_keeps _ _ _)) (.refl u)) h
  | idleTimeout => exact whenPowered_keeps (fun u => u.idleTimeout_keeps) h
  | authorisationDeadline => exact whenPowered_keeps (fun u => u.deadlinePassed_keeps) h
  | feedbackPulse j => exact whenPowered_keeps (fun u => u.feedback_keeps _) h
  | injectionTimeout j => exact whenPowered_keeps (fun u => .ite (u.closeInjection_keeps _ _) (.refl u)) h
  | feedbackWindowClose j => exact whenPowered_keeps (fun u => .ite (u.setInj_keeps _ _) (.refl u)) h
  | dayRollover => exact whenPowered_keeps (fun u => u.midnightPassed_keeps) h
  | scrubVisit finding =>
    exact whenPowered_keeps (fun u => (u.readWord_keeps _ _).trans (scrubNext_keeps _)) h
  | bayReset source =>
    change execBayReset source s = _ at h
    unfold execBayReset at h
    refine whenPowered_keeps (fun u => ?_) h
    cases source with
    | pin => exact .ite (.refl u) ((u.withPins_keeps _).trans (bayReset_keeps _))
    | request => exact .ite u.bayReset_keeps (.refl u)
  | powerOn pins kept findings =>
    cases h
    exact s.startUp_keeps _ _ _
  | powerFail => exact whenPowered_keeps (fun u => u.powerLost_keeps) h
  | meterFallingEdge k c =>
    change execMeterFallingEdge k c s = _ at h
    unfold execMeterFallingEdge at h
    refine whenPowered_keeps (fun u => ?_) h
    cases c with
    | a => exact u.setMeter_keeps _ _
    | b => exact u.setMeter_keeps _ _
  | frameEndedByAddressCharacter line address =>
    exact whenPowered_keeps (fun u => .ite (.refl u) ((u.endFrame_keeps _).trans (addressCharacter_keeps _ _ _))) h
  | payloadLengthOverMaximum line => exact whenPowered_keeps (fun u => .ite (.refl u) (u.endFrame_keeps _)) h
  | turnLastCharacterSent =>
    change execTurnLastCharacterSent s = _ at h
    unfold execTurnLastCharacterSent at h
    refine whenPowered_keeps (fun u => ?_) h
    dsimp only
    split
    · exact .ite (withDport_keeps id rfl) (.refl u)
    · exact .refl u
  | brstRelease => exact whenPowered_keeps (fun u => u.withPins_keeps _) h
  | bayClockStop => exact whenPowered_keeps (fun u => u.clockStop_keeps) h

/-- Every step keeps the invariants. -/
theorem step_meets {s t : State} (h : step s = .next t) (i : Invariant) (meets : s.meets i) : t.meets i := by
  unfold step at h
  split at h
  case h_1 c rest _ => exact (exec_keeps c h).meets i (State.meets_of_watched (t := s.withPending rest) rfl i meets)
  case h_2 =>
    unfold idle at h
    split at h
    · exact (exec_keeps _ h).meets i meets
    · cases h
      exact s.tick_meets i meets

/-- Settles O5: a step keeps both halves of the valve guard. -/
theorem valveGuardKept : Obligations.ValveGuardKept := by
  intro s t guarded h
  rw [State.guarded_iff] at guarded ⊢
  exact ⟨step_meets h .opens guarded.1, step_meets h .flows guarded.2⟩

/-- Settles O6: a step keeps the bounds of the queues and of the doses' intervals. -/
theorem queueBoundsKept : Obligations.QueueBoundsKept := fun _ _ bounded h => step_meets h .bounded bounded

/-- Settles O7: a step keeps the canonical form of the sparse tables. -/
theorem canonicalTablesKept : Obligations.CanonicalTablesKept := fun _ _ canonical h => step_meets h .canonical canonical

/-- Settles O8: a step keeps the note queue sound. -/
theorem noteQueueSoundKept : Obligations.NoteQueueSoundKept := fun _ _ sound h => step_meets h .notes sound

end Sys2Proof.Machine
end

section
/-! PROOFS. The commands and the step: how every command runs, what the supply and the waiting errors do to it, and the
part's own time. -/

namespace Sys2Proof.Machine

/-- Every command but POWER_ON is one effect on a part with its supply. -/
theorem exec_effect (c : Instr) :
    (∃ p kept l, c = .powerOn p kept l) ∨ ∃ f : State → State, ∀ s, exec c s = whenPowered f s := by
  cases c
  case powerOn p kept l => exact .inl ⟨p, kept, l, rfl⟩
  all_goals
    right
    refine ⟨?_, fun s => ?_⟩
    rotate_left
    · unfold exec
      rfl

theorem exec_next (c : Instr) (s : State) : ∃ t, exec c s = .next t := by
  rcases exec_effect c with ⟨p, kept, l, rfl⟩ | ⟨f, effect⟩
  · exact ⟨_, rfl⟩
  · exact ⟨_, effect s⟩

theorem State.raiseRetention_retention (s : State) (scan : Bool) (item : RetItem) :
    (s.raiseRetention scan item).retention = s.retention := by simp

theorem State.readWord_reads (s : State) (f : Finding) :
    (State.readWord false s f).retention.reads = s.retention.reads := by
  unfold readWord
  split
  · rfl
  · unfold countCorrection
    split <;> rfl
  · unfold uncorrectable
    split
    case h_5 =>
      rw [raiseRetention_retention]
      split <;> simp
    case h_6 =>
      rw [raiseRetention_retention]
      split <;> rfl
    all_goals simp

theorem State.meet_live (s : State) (powered : s.powered = true) : s.meet.live = true := by
  have reads : s.meet.retention.reads = [] :=
    foldl_frame (p := fun t : State => t.retention.reads) (fun t f => t.readWord_reads f) _ _
  have still : s.meet.powered = s.powered :=
    foldl_frame (p := State.powered) (fun t f => by simp) _ _
  simp [live, reads, still, powered]

/-- Settles O1: with a command at the front, `step` is `exec` by definition. -/
theorem stepRunsFrontCommand : Obligations.StepRunsFrontCommand := by
  intro c rest s front
  rw [step, front]

/-- Settles O3: the effect of a command other than POWER_ON is made on a powered part alone. -/
theorem unpoweredTakesNothing : Obligations.UnpoweredTakesNothing := by
  intro c s unpowered notPowerOn
  rcases exec_effect c with ⟨p, kept, l, rfl⟩ | ⟨f, effect⟩
  · exact absurd rfl (notPowerOn p kept l)
  · rw [effect, whenPowered, unpowered]
    rfl

/-- Settles O2: every command answers a next state with the queue and the timebase as they stood, and the errors met first
leave none to meet. -/
theorem everyCommandAnswersNext : Obligations.EveryCommandAnswersNext := by
  refine ⟨fun c s => ?_, fun c s powered notPowerOn => ?_⟩
  · obtain ⟨t, next⟩ := exec_next c s
    exact ⟨t, next, (exec_keeps c next).front⟩
  · have live := s.meet_live powered
    refine ⟨live, ?_⟩
    rcases exec_effect c with ⟨p, kept, l, rfl⟩ | ⟨f, effect⟩
    · exact absurd rfl (notPowerOn p kept l)
    · rw [effect, effect, whenPowered_of_live _ live, whenPowered, if_pos powered]

/-! ### The part's own time (R158, R184) -/

/-- Settles O4: one millisecond is a tick of the timebase, of the bay clock and of the reply's wait. -/
theorem idleStep : Obligations.IdleStep := by
  intro s empty
  have ran : step s = idle s := by rw [step, empty]
  refine ⟨fun c due => by rw [ran, idle, due], fun none => ⟨s.tick, by rw [ran, idle, none], ?_⟩⟩
  have custody : s.tick.custody = if 999 ≤ s.custody.phase then { s.custody with phase := 0 }.second s.powered
      else if clockMax ≤ s.custody.clock then s.custody else { s.custody with phase := s.custody.phase + 1 } := rfl
  have phase : s.tick.uport = s.uport.beginReply (s.now + 1) := rfl
  refine ⟨?_, fun below running => ?_, fun last running => ?_, fun stopped => ?_, fun unbuilt => ?_, fun a built => ?_⟩
  · have stands : s.uport.beginReply (s.now + 1) = { s.uport with phase := (s.uport.beginReply (s.now + 1)).phase } := by
      rcases s.uport.beginReply_eq (s.now + 1) with same | ⟨-, begun⟩
      · rw [same]
      · rw [begun]
    show State.mk .. = State.mk ..
    rw [phase, ← stands]
    rfl
  · rw [custody, if_neg (by omega), if_neg (by unfold clockMax; omega)]
  · rw [custody, if_pos (by omega), CustodyBlk.second, if_neg (by unfold clockMax; exact Nat.not_le.2 running)]
    exact ⟨rfl, rfl, rfl⟩
  · rw [custody, CustodyBlk.second]
    have : clockMax ≤ s.custody.clock := stopped
    split_ifs <;> rfl
  · rw [phase, UPort.beginReply]
    split
    case h_1 a built => exact absurd built (unbuilt a)
    all_goals rfl
  · have begins : (s.uport.beginReply (s.now + 1)).phase =
        if a + s.uport.replyWait a ≤ s.now + 1 then .sending else .built a := by
      rw [UPort.beginReply, built]
      dsimp only
      split_ifs
      · rfl
      · exact built
    obtain ⟨least, most⟩ := s.uport.replyWait_bounds a
    rw [phase, begins]
    refine ⟨?_, fun early => if_neg (by omega), fun late => if_pos (by omega)⟩
    split_ifs
    · exact .inr rfl
    · exact .inl rfl

/-! ### The reset state (R191) -/

/-- Settles O9: the reset state is a concrete one. -/
theorem resetState : Obligations.ResetState := by
  have idle (k : Fin 4) : (State.reset.arm k).state = .idle := by
    show (Vec.get (Vector.replicate 4 (Arm.powerOn none)) k).state = .idle
    rw [Vec.get_replicate]
    rfl
  have level (i : SafetyInput) : (State.reset.input i).level = false := by
    show (Vec.get (Vector.replicate 4 (Input.powerOn false)) _).level = false
    rw [Vec.get_replicate]
    rfl
  have verdicts (i : Fin 12) : (State.reset.station i).verdicts.length ≤ 4 := by
    show (Vec.get (Vector.replicate 12 (Station.powerOn false)) i).verdicts.length ≤ 4
    rw [Vec.get_replicate]
    exact Nat.zero_le _
  have guarded : State.reset.guarded := (State.guarded_iff _).2
    ⟨State.opensInSession_of_shut _ fun k => by rw [idle k]; rfl, State.flowsPermitted_of_still _ fun k => by rw [idle k]; rfl⟩
  have bounded : State.reset.bounded := (State.bounded_iff _).2
    ⟨by decide, by decide, by decide, by decide, verdicts, by decide, fun k nonIdle => absurd (idle k) nonIdle⟩
  have sound : State.reset.notesSound := (State.notesSound_iff _).2 ⟨by decide, by decide, nofun, nofun⟩
  exact ⟨guarded, bounded, rfl, sound, rfl, rfl, rfl, rfl, Vec.get_replicate _, Vec.get_replicate _, Vec.get_replicate _,
    fun c => Vec.get_replicate _ _, rfl, rfl, rfl, rfl, rfl, idle, level⟩

end Sys2Proof.Machine
end

section
/-! SUPPORT. The operations of the session unit in normal form: each as the state it starts from with the blocks that it
writes (chapter 1). -/

namespace Sys2Proof.Machine

section
variable (s : State)

/-! ### Verdicts (R170) -/

/-- The D port with a verdict pushed to a station. -/
def DPort.pushed (d : DPort) (i : Option (Fin 12)) (v : Verdict) : DPort :=
  match i with
  | some i =>
    if (Vec.get d.stations i).verdicts.length < 4 then
      { d with stations := Vec.set d.stations i { Vec.get d.stations i with
        verdicts := (Vec.get d.stations i).verdicts ++ [v] } }
    else
      { d with
        stations := Vec.set d.stations i ((Vec.get d.stations i).displace v), verdictDrop := bump 65535 d.verdictDrop }
  | none => { d with verdictDrop := bump 65535 d.verdictDrop }

/-- A verdict reads and writes the D port alone. -/
theorem State.pushVerdict_eq_pushed (i : Option (Fin 12)) (v : Verdict) :
    s.pushVerdict i v = { s with dport := s.dport.pushed i v } := by
  unfold pushVerdict DPort.pushed
  cases i with
  | none => rfl
  | some i =>
    by_cases few : (s.station i).verdicts.length < 4
    · exact (if_pos few).trans (congrArg s.withDport (if_pos few).symm)
    · exact (if_neg few).trans (congrArg s.withDport (if_neg few).symm)

theorem State.tellReader_eq_pushed (v : Verdict) :
    s.tellReader v = { s with dport := s.dport.pushed (s.findRole .cardReader) v } := s.pushVerdict_eq_pushed _ v

theorem State.tellKeypad_eq_pushed (a : Byte) (v : Verdict) :
    s.tellKeypad a v = { s with dport := s.dport.pushed (s.findDevice a) v } := s.pushVerdict_eq_pushed _ v

/-! ### Permit entries (R11, R13) -/

/-- An index found in a canonical table holds an undamaged entry that matches. -/
theorem tabGet_of_tabFind {α : Type} [DecidableEq α] {empty : α} {p : α → Bool} {t : Tab α} {i : Nat}
    (wf : tabWf empty t = true) (found : tabFind p t = some i) :
    (tabGet empty t i).damaged = false ∧ p (tabGet empty t i).entry = true := by
  induction t with
  | nil => cases found
  | cons e t ih =>
    obtain ⟨j, x⟩ := e
    simp only [tabWf, List.map_cons, List.pairwise_cons, Bool.and_eq_true, decide_eq_true_eq, List.all_cons] at wf
    obtain ⟨⟨above, rising⟩, -, listed⟩ := wf
    unfold tabFind at found
    split_ifs at found with matched
    · obtain rfl := Option.some.inj found
      simp only [Bool.and_eq_true, Bool.not_eq_true'] at matched
      simpa [tabGet] using matched
    · have later : i ∈ t.map Prod.fst := by
        clear ih above rising listed matched
        induction t with
        | nil => cases found
        | cons e t ih =>
          unfold tabFind at found
          split_ifs at found
          · rw [← Option.some.inj found]; exact List.mem_cons_self
          · exact List.mem_cons_of_mem _ (ih found)
      have other : j ≠ i := fun same => Nat.lt_irrefl _ (same ▸ above i later)
      rw [tabGet, if_neg other]
      exact ih (by simp [tabWf, rising, listed]) found

variable {s} in
theorem State.undamaged_of_findPermit (canonical : s.canonical = true) {card i : Nat} (found : s.findPermit card = some i) :
    (tabGet emptyPermit s.tables.permits i).damaged = false := by
  unfold findPermit at found
  split_ifs at found
  exact (tabGet_of_tabFind ((canonical_iff _).1 canonical).1 found).1

/-- A change of a permit entry writes the permit table alone. -/
theorem State.setPermit_eq (i : Nat) (f : PermitEntry → PermitEntry) :
    s.setPermit i f = { s with tables := { s.tables with permits := (s.setPermit i f).tables.permits } } := by
  unfold setPermit
  dsimp only
  split <;> rfl

variable {s} in
/-- What a change makes of the permit table follows from the tables. -/
theorem State.setPermit_permits_congr {t : State} (same : t.tables = s.tables) (i : Nat) (f : PermitEntry → PermitEntry) :
    (t.setPermit i f).tables.permits = (s.setPermit i f).tables.permits := by
  simp only [setPermit, same]
  split <;> simp [same]

variable {s} in
/-- An undamaged entry takes the change, the others stand. -/
theorem State.permit_setPermit (canonical : s.canonical = true) {i : Nat}
    (undamaged : (tabGet emptyPermit s.tables.permits i).damaged = false) (f : PermitEntry → PermitEntry) (j : Nat) :
    (s.setPermit i f).permit j = if j = i then f (s.permit i) else s.permit j := by
  simp only [setPermit, undamaged, Bool.false_eq_true, if_false, permit, tabRead, withTables,
    tabGet_tabSet _ ((canonical_iff _).1 canonical).1]
  split_ifs <;> simp_all

/-! ### Refusals (R10, R11) -/

theorem State.countRefusal_eq (card : Nat) (r : SessionReason) : s.countRefusal card r =
    { s with tables := { s.tables with permits := (s.countRefusal card r).tables.permits } } := by
  unfold countRefusal
  split
  · split
    · exact s.setPermit_eq _ _
    · rfl
  · rfl

/-- R10: a refusal writes the reader's verdicts, the event queue and the permit table. -/
theorem State.refuse_eq (card tag : Nat) (r : SessionReason) (v : Nat) : s.refuse card tag r v = { s with
    tables := { s.tables with permits := (s.countRefusal card r).tables.permits }
    uport := s.uport.raised s.custody.clock (.sessionRefused card tag r v)
    dport := s.dport.pushed (s.findRole .cardReader) (.refuse r) } := by
  have permits : ∀ t : State, t.tables = s.tables →
      (t.countRefusal card r).tables.permits = (s.countRefusal card r).tables.permits := fun t same => by
    simp only [countRefusal, findPermit, same, setPermit, withTables]
    split
    · split
      · split <;> simp [same]
      · simp [same]
    · simp [same]
  unfold refuse
  rw [countRefusal_eq, permits _ (by simp), raise_eq_raised, tellReader_eq_pushed]

/-- A reason that does not count leaves every permit. -/
theorem State.countRefusal_of_not {card : Nat} {r : SessionReason} (h : r.counts = false) : s.countRefusal card r = s := by
  rw [countRefusal, h]
  rfl

/-! ### Timers and places (R22, R137) -/

/-- What the idle timer becomes (R22). -/
def State.idleSettled (s : State) : Option Nat :=
  if s.bayState = .session ∧ s.allIdle = true then some (s.session.idleTimer.getD (s.now + s.bay.idleMinutes * 60000))
  else none

theorem State.settleIdle_eq : s.settleIdle = { s with session := { s.session with idleTimer := s.idleSettled } } := by
  unfold settleIdle idleSettled
  split
  · cases timer : s.session.idleTimer with
    | none => rfl
    | some d =>
      have stands : s.session = { s.session with idleTimer := some d } := by rw [← timer]
      simp only [Option.isSome_some, if_true, Option.getD_some, ← stands]
  · rfl

variable {s} in
/-- In an open session the arms decide. -/
theorem State.idleSettled_of_open {r : Session} (isOpen : s.session.record = some r) (unclosing : r.closing = none) :
    s.idleSettled =
      if s.allIdle = true then some (s.session.idleTimer.getD (s.now + s.bay.idleMinutes * 60000)) else none := by
  have session : s.bayState = .session := by simp [bayState, isOpen, unclosing]
  simp [idleSettled, session]

/-- The queue with NOTE_QUEUE_HIGH where a reserved place raises it. -/
def State.highRaised (s : State) : UPort :=
  if s.custody.places.length < 13 then s.uport
  else s.uport.raised s.custody.clock (.noteQueueHigh (s.custody.places.length + 1) s.filledPlaces)

theorem State.raise_highRaised (e : Event) :
    ((if s.custody.places.length < 13 then s
      else s.raise (.noteQueueHigh (s.custody.places.length + 1) s.filledPlaces)).raise e).uport =
      s.highRaised.raised s.custody.clock e := by
  unfold highRaised
  rw [raise_eq_raised]
  split
  · rfl
  · rw [raise_eq_raised]

theorem State.reservePlace_eq (number : Nat) : s.reservePlace number = { s with
    custody := { s.custody with places := s.custody.places ++ [⟨number, .reserved, none, [], false, false⟩] }
    uport := s.highRaised } := by
  have filled : (s.withCustody { s.custody with
      places := s.custody.places ++ [⟨number, .reserved, none, [], false, false⟩] }).filledPlaces = s.filledPlaces := by
    simp [filledPlaces, withCustody]
  unfold reservePlace highRaised
  simp only [filled, raise_eq_raised]
  by_cases few : s.custody.places.length < 13
  · rw [if_neg (by simp [withCustody]; omega), if_pos few]
    rfl
  · rw [if_pos (by simp [withCustody]; omega), if_neg few]
    simp [withCustody]

/-! ### Opening a session (R16) -/

/-- The permit named by an opening has its refusal count at 0. -/
def State.unrefused (s : State) (p : Option Nat) : State :=
  match p with
  | some i => s.setPermit i fun e => { e with refusals := 0 }
  | none => s

variable {s} in
theorem State.unrefused_eq {t : State} (same : t.tables = s.tables) (p : Option Nat) : t.unrefused p =
    { t with tables := { t.tables with permits := (s.unrefused p).tables.permits } } := by
  cases p with
  | none => simp only [unrefused, ← same]
  | some i =>
    simp only [unrefused]
    rw [setPermit_eq, setPermit_permits_congr same]

/-- R16: what an opening writes. -/
theorem State.openSession_eq (o : Opening) : s.openSession o = { s with
    session := { s.session with
      record := some (s.newSession o)
      idleTimer := if s.allIdle = true then some (s.session.idleTimer.getD (s.now + s.bay.idleMinutes * 60000)) else none }
    custody := { s.custody with
      places := s.custody.places ++ [⟨s.custody.counter.value, .reserved, none, [], false, false⟩] }
    tables := { s.tables with permits := (s.unrefused o.permit).tables.permits }
    uport := s.highRaised.raised s.custody.clock (.sessionOpened s.custody.counter.value o.card o.tag o.source
      (s.quotaLimit (s.newSession o)))
    dport := s.dport.pushed (s.findRole .cardReader) .accept } := by
  change ((State.tellReader (State.unrefused _ o.permit) .accept).raise _).settleIdle = _
  rw [unrefused_eq (s := s) (by simp), reservePlace_eq, raise_eq_raised, tellReader_eq_pushed, settleIdle_eq,
    idleSettled_of_open (r := s.newSession o) ?isOpen rfl]
  case isOpen => rfl
  rfl

end

end Sys2Proof.Machine
end

section
/-! PROOFS. A pending presentation denied, late or past its deadline, and AUTHORISE (R14 to R16). -/

namespace Sys2Proof.Machine

/-! ### Requests -/

variable {s : State} in
/-- A part that hears a request of the right length takes it to its owner (R157, R158). -/
theorem request_of_hearing (hearing : s.hearing = true) {ok : Bool} (length : ok = true) (kind tag : Byte)
    (owner : State → State × Answer) : whenPowered (fun t => t.request kind tag ok owner) s =
      .next ((owner s.linkFrame).1.reply kind tag (owner s.linkFrame).2) :=
  length ▸ whenPowered_request_of_hearing s hearing kind tag owner

/-- A frame writes the U port alone (R164). -/
theorem State.linkFrame_eq (s : State) : s.linkFrame = { s with uport := s.linkFrame.uport } := by
  unfold linkFrame
  dsimp only
  split
  · rw [raise_eq_raised]
    rfl
  · rfl

section
variable {s : State}

@[simp] theorem State.pendingOf_linkFrame (card : Nat) : s.linkFrame.pendingOf card = s.pendingOf card := by
  rw [linkFrame_eq]
  rfl

/-! ### Refusals that leave the permits (R10) -/

theorem State.refuse_of_uncounted {r : SessionReason} (uncounted : r.counts = false) (card tag v : Nat) :
    s.refuse card tag r v = { s with
      uport := s.uport.raised s.custody.clock (.sessionRefused card tag r v)
      dport := s.dport.pushed (s.findRole .cardReader) (.refuse r) } := by
  rw [refuse_eq, s.countRefusal_of_not uncounted]

/-! ### DENY and the deadline (R14, R15) -/

theorem State.denyCard_of_none {card : Nat} (unknown : s.pendingOf card = none) (r : Nat) :
    s.denyCard card r = (s, deny .late) := by
  rw [denyCard, unknown]

theorem State.denyCard_of_some {card : Nat} {x : Presentation} (pending : s.pendingOf card = some x) (r : Nat) :
    s.denyCard card r = (s.unpresent.refuse card s.heldTag .serverDenied r, taken) := by
  rw [denyCard, pending]

theorem State.deadlinePassed_of_some {x : Presentation} (pending : s.session.presentation = some x) :
    s.deadlinePassed = s.unpresent.refuse x.card s.heldTag .noAnswer 0 := by
  rw [deadlinePassed, pending]

end

/-- Settles O13: a refusal for SERVER_DENIED or NO_ANSWER counts on no permit, so beside the presentation it writes the
event and the reader's verdict alone. -/
theorem presentationDeniedOrLate : Obligations.PresentationDeniedOrLate := by
  refine ⟨fun s tag p hearing length => ?_, fun s x live pending => ?_⟩
  · have run : exec (.deny tag p) s = .next ((s.linkFrame.denyCard (field p 0 5) (field p 5 1)).1.reply 0x02 tag
        (s.linkFrame.denyCard (field p 0 5) (field p 5 1)).2) := request_of_hearing hearing (by simp [length]) _ _ _
    refine ⟨fun unknown => ?_, fun x pending => ⟨s.linkFrame.unpresent.refuse (field p 0 5)
      s.linkFrame.heldTag .serverDenied (field p 5 1), ?_, ?_, ?_, ?_⟩⟩
    · rw [run, State.denyCard_of_none (by simpa using unknown)]
    · rw [run, State.denyCard_of_some (by simpa using pending)]
    · rw [State.refuse_of_uncounted rfl, State.linkFrame_eq]
      rfl
    · rw [State.refuse_of_uncounted rfl, State.linkFrame_eq, State.tellReader_eq_pushed]
      rfl
    · rw [State.refuse_of_uncounted rfl, State.linkFrame_eq, State.raise_eq_raised]
      rfl
  · refine ⟨_, whenPowered_of_live s live _, ?_, ?_, ?_⟩
    · rw [State.deadlinePassed_of_some pending, State.refuse_of_uncounted rfl]
      rfl
    · rw [State.deadlinePassed_of_some pending, State.refuse_of_uncounted rfl, State.tellReader_eq_pushed]
      rfl
    · rw [State.deadlinePassed_of_some pending, State.refuse_of_uncounted rfl, State.raise_eq_raised]
      rfl

/-! ### AUTHORISE (R15, R16) -/

section
variable {s : State}

theorem State.authorise_of_lt {quota : Nat} (h : 999999 < quota) (card : Nat) (products : BitVec 16) :
    s.authorise card products quota = (s, deny .badValue) := if_pos h

theorem State.authorise_of_none {card quota : Nat} (h : quota ≤ 999999) (unknown : s.pendingOf card = none)
    (products : BitVec 16) : s.authorise card products quota = (s, deny .late) := by
  rw [authorise, if_neg (Nat.not_lt.2 h), unknown]

theorem State.authorise_of_error {card quota : Nat} {x : Presentation} {e : SessionReason} (h : quota ≤ 999999)
    (pending : s.pendingOf card = some x) (refused : s.admissible x.tag = .error e) (products : BitVec 16) :
    s.authorise card products quota =
      (s.unpresent.refuse card s.heldTag e 0, accept (sessionReasonCode e) []) := by
  have again : s.unpresent.admissible x.tag = .error e := refused
  rw [authorise, if_neg (Nat.not_lt.2 h), pending]
  dsimp only
  rw [again]
  rfl

theorem State.authorise_of_ok {card quota v : Nat} {x : Presentation} (h : quota ≤ 999999)
    (pending : s.pendingOf card = some x) (admitted : s.admissible x.tag = .ok v) (products : BitVec 16) :
    s.authorise card products quota =
      (s.unpresent.openSession ⟨card, x.tag, s.findPermit card, v, .server, products, quota⟩, taken) := by
  have again : s.unpresent.admissible x.tag = .ok v := admitted
  rw [authorise, if_neg (Nat.not_lt.2 h), pending]
  dsimp only
  rw [again]
  rfl

@[simp] theorem State.admissible_linkFrame (tag : Nat) : s.linkFrame.admissible tag = s.admissible tag := by
  rw [linkFrame_eq]
  rfl

/-- The permits after an opening: the refusal count of the one named is 0 (R16). -/
theorem State.permit_openSession (canonical : s.canonical = true) (o : Opening)
    (undamaged : ∀ i, o.permit = some i → (tabGet emptyPermit s.tables.permits i).damaged = false) (j : Nat) :
    (s.openSession o).permit j = if o.permit = some j then { s.permit j with refusals := 0 } else s.permit j := by
  have permits : (s.openSession o).permit j = (s.unrefused o.permit).permit j := by
    rw [openSession_eq]
    rfl
  rw [permits]
  cases named : o.permit with
  | none => rfl
  | some i =>
    rw [unrefused, permit_setPermit canonical (undamaged i named)]
    by_cases same : j = i
    · simp [same]
    · simp [same, Ne.symm same]

end

/-- Settles O12: the three refusals by the order of the checks, then the opening block by block. -/
theorem authoriseDecides : Obligations.AuthoriseDecides := by
  intro s tag p hearing length
  have run : exec (.authorise tag p) s = .next
      ((s.linkFrame.authorise (field p 0 5) (BitVec.ofNat 16 (field p 5 2)) (field p 7 3)).1.reply 0x01 tag
        (s.linkFrame.authorise (field p 0 5) (BitVec.ofNat 16 (field p 5 2)) (field p 7 3)).2) :=
    request_of_hearing hearing (by simp [length]) _ _ _
  refine ⟨fun beyond => ?_, fun within unknown => ?_, fun x e within pending refused => ?_,
    fun x v within pending admitted => ⟨s.linkFrame.unpresent.openSession
      ⟨field p 0 5, x.tag, s.findPermit (field p 0 5), v, .server, BitVec.ofNat 16 (field p 5 2), field p 7 3⟩, ?_, ?_⟩⟩
  · rw [run, State.authorise_of_lt beyond]
  · rw [run, State.authorise_of_none within (by simpa using unknown)]
  · rw [run, State.authorise_of_error within (by simpa using pending) (by simpa using refused), State.linkFrame_eq]
    rfl
  · rw [run, State.authorise_of_ok within (by simpa using pending) (by simpa using admitted), State.linkFrame_eq]
    rfl
  · rw [State.linkFrame_eq]
    generalize s.linkFrame.uport = u
    have permits := fun canonical : s.canonical = true => State.permit_openSession
      (s := State.unpresent { s with uport := u }) canonical ⟨field p 0 5, x.tag, s.findPermit (field p 0 5), v, .server,
        BitVec.ofNat 16 (field p 5 2), field p 7 3⟩ fun _ => State.undamaged_of_findPermit canonical
    rw [State.openSession_eq] at permits ⊢
    refine ⟨rfl, ?_, rfl, rfl, fun noPermit => ?_, permits, ?_, rfl, ?_⟩
    · cases named : s.findPermit (field p 0 5) <;> rfl
    · rw [noPermit]
      rfl
    · exact (State.raise_highRaised { s with uport := u } _).symm
    · rw [State.tellReader_eq_pushed]
      rfl

end Sys2Proof.Machine
end

section
/-! PROOFS. A card presented to the bay: the checks of R12 and R13 in their order, the refusals (R10, R11), the opening
and the pending presentation (R14, R16), and the verdict lists (R170). -/

namespace Sys2Proof.Machine

section
variable {s : State}

/-- CARD from the card reader of the directory: the session unit takes it, and the record is copied upward. -/
theorem exec_card_of_holds (live : s.live = true) {a : Byte} {i : Fin 12} (station : s.holds a i .cardReader)
    (n : BitVec 40) : exec (.card a n) s =
      .next (s.copied (s.takeCard n.toNat) i a .cardReader (cardRecord n)) := by
  change execCard a n s = _
  rw [execCard, whenPowered_of_live s live, State.cardFrom, s.offer_of_holds station]

/-! ### The bay state decides (R12) -/

theorem State.takeCard_of_notReady
    (shut : s.bayState = .outOfService ∨ s.bayState = .faulted ∨ s.bayState = .closing) (card : Nat) :
    s.takeCard card = s.refuse card s.shownTag .bayNotReady 0 := by
  rcases shut with shut | shut | shut <;> simp [takeCard, shut]

theorem State.takeCard_of_session (session : s.bayState = .session) {r : Session} (record : s.session.record = some r)
    (card : Nat) : s.takeCard card =
      if r.card = card then s.ownCard else s.refuse card s.shownTag .bayBusy 0 := by
  simp [takeCard, session, record]

theorem State.takeCard_of_pending (idle : s.bayState = .idle) {p : Presentation}
    (pending : s.session.presentation = some p) (card : Nat) :
    s.takeCard card = if p.card = card then s else s.refuse card s.shownTag .bayBusy 0 := by
  simp [takeCard, idle, pending]

theorem State.takeCard_of_idle (idle : s.bayState = .idle) (free : s.session.presentation = none) (card : Nat) :
    s.takeCard card = s.newPresentation card := by
  simp [takeCard, idle, free]

/-! ### A new presentation (R12 to R14) -/

theorem State.newPresentation_of_noTag (absent : s.freshTag = none) (card : Nat) :
    s.newPresentation card = s.refuse card 0 .noVehicle 0 := by
  rw [newPresentation, absent]

theorem State.newPresentation_of_error {t : Nat} {e : SessionReason} (tag : s.freshTag = some t)
    (refused : s.admissible t = .error e) (card : Nat) : s.newPresentation card = s.refuse card t e 0 := by
  simp only [newPresentation, tag, refused]

theorem State.newPresentation_of_ok {t v : Nat} (tag : s.freshTag = some t) (admitted : s.admissible t = .ok v)
    (card : Nat) : s.newPresentation card =
      if s.bay.permitSource = .server ∧ s.uport.link = .online then s.present card t v else s.localDecision card t v t := by
  simp only [newPresentation, tag, admitted]

theorem State.localDecision_of_error {card t : Nat} {e : SessionReason} (refused : s.permitCheck card t = .error e)
    (v shown : Nat) : s.localDecision card t v shown = s.refuse card shown e 0 := by
  rw [localDecision, refused]

theorem State.localDecision_of_ok {card t p : Nat} (granted : s.permitCheck card t = .ok p) (v shown : Nat) :
    s.localDecision card t v shown = s.openSession ⟨card, t, some p, v, .local_, 0, 0⟩ := by
  rw [localDecision, granted]

/-- R14: what a presentation that waits writes. -/
theorem State.present_eq (card t v : Nat) : s.present card t v = { s with
    session := { s.session with
      presentation := some ⟨card, t, v, s.now, s.now + s.bay.authorisationWait * 1000⟩ }
    uport := s.uport.raised s.custody.clock (.cardPresented card t s.bay.authorisationWait) } := by
  rw [present, raise_eq_raised]
  rfl

/-! ### The local permit (R13) -/

theorem State.permitCheck_of_none {card : Nat} (unknown : s.findPermit card = none) (t : Nat) :
    s.permitCheck card t = .error .cardUnknown := by
  rw [permitCheck, unknown]

theorem State.permitCheck_of_some {card p : Nat} (found : s.findPermit card = some p) (t : Nat) :
    s.permitCheck card t = match (s.permit p).state with
      | .suspended => .error .permitSuspended
      | .lockedOut => .error .permitLocked
      | .active =>
        if (s.permit p).expiryDay < s.custody.clock / 86400 then .error .permitExpired
        else if (s.permit p).vehicles = [] ∨ t ∈ (s.permit p).vehicles then .ok p else .error .vehicleNotAllowed := by
  simp only [permitCheck, found]
  cases (s.permit p).state <;> simp [bayDay]

theorem State.findPermit_of_ok {card t p : Nat} (granted : s.permitCheck card t = .ok p) :
    s.findPermit card = some p := by
  cases found : s.findPermit card with
  | none => simp [permitCheck_of_none found] at granted
  | some q =>
    rw [permitCheck_of_some found] at granted
    split at granted
    · cases granted
    · cases granted
    · split_ifs at granted
      rw [Except.ok.inj granted]

/-! ### The vehicle and the note place (R12) -/

theorem State.admissible_of_none {t : Nat} (unknown : s.findVehicle t = none) :
    s.admissible t = .error .vehicleUnknown := by
  simp only [admissible, vehicleCheck, unknown]

theorem State.admissible_of_some {t v : Nat} (found : s.findVehicle t = some v) : s.admissible t =
    if (s.vehicle v).state = .barred then .error .vehicleBarred
    else if (s.vehicle v).inspectionDay < s.custody.clock / 86400 then .error .vehicleExpired
    else if s.custody.places.length < 16 ∧ s.custody.counter ≠ .usedUp then .ok v else .error .noteQueueFull := by
  have admitted : ∀ c : Except SessionReason Nat, s.vehicleCheck t = c → s.admissible t = match c with
      | .error r => .error r
      | .ok i => if s.placeFree then .ok i else .error .noteQueueFull := fun c same => same ▸ rfl
  have check : s.vehicleCheck t = if (s.vehicle v).state = .barred then .error .vehicleBarred
      else if (s.vehicle v).inspectionDay < s.bayDay then .error .vehicleExpired else .ok v := by
    rw [vehicleCheck, found]
  rw [admitted _ check, bayDay]
  split_ifs <;> simp_all [placeFree]

end

/-- Settles O10: with the local permit in order the card opens a session block by block; under SERVER with the link ONLINE
it waits. -/
theorem cardPresented : Obligations.CardPresented := by
  intro s a n i t v live canonical idle free station tag admitted
  have run := exec_card_of_holds live station n
  rw [State.takeCard_of_idle idle free, State.newPresentation_of_ok tag admitted] at run
  refine ⟨fun p localSource granted => ?_, fun server online => ?_⟩
  · rw [if_neg localSource, State.localDecision_of_ok granted] at run
    have permits := State.permit_openSession canonical ⟨n.toNat, t, some p, v, .local_, 0, 0⟩ fun i named =>
      Option.some.inj named ▸ State.undamaged_of_findPermit canonical (State.findPermit_of_ok granted)
    refine ⟨_, run, ?_⟩
    refine ⟨?_, ?_, ?_, ?_, ?_, ?_, ?_, ?_, ?_⟩
    · rw [State.openSession_eq]
    · rw [State.openSession_eq]
      rfl
    · rw [State.openSession_eq]
    · rw [permits, if_pos rfl]
    · intro x other
      rw [permits, if_neg fun same => other (Option.some.inj same).symm]
    · rw [State.openSession_eq]
      rfl
    · rw [State.openSession_eq]
    · rw [State.openSession_eq, State.tellReader_eq_pushed]
    · rw [State.openSession_eq, State.raise_highRaised]
      rfl
  · rw [if_pos ⟨server, online⟩] at run
    refine ⟨_, run, ?_, ?_, ?_⟩
    · rw [State.present_eq]
    · rw [State.present_eq]
    · rw [State.present_eq, State.raise_eq_raised]

/-! ### The verdict lists and the refusal (R10, R11, R170) -/

section
variable (s : State)

theorem State.pushVerdict_of_lt {i : Fin 12} (few : (s.station i).verdicts.length < 4) (v : Verdict) :
    s.pushVerdict (some i) v = s.setStation i { s.station i with verdicts := (s.station i).verdicts ++ [v] } := if_pos few

theorem State.pushVerdict_of_le {i : Fin 12} (full : 4 ≤ (s.station i).verdicts.length) (v : Verdict) :
    s.pushVerdict (some i) v = (s.setStation i ((s.station i).displace v)).countVerdictDrop :=
  if_neg (Nat.not_lt.2 full)

theorem SessionReason.counts_iff (r : SessionReason) :
    r.counts = true ↔ r = .vehicleNotAllowed ∨ r = .vehicleBarred ∨ r = .vehicleExpired := by
  cases r <;> simp [SessionReason.counts]

theorem State.countRefusal_of_none {card : Nat} (unknown : s.findPermit card = none) (r : SessionReason) :
    s.countRefusal card r = s := by
  rw [countRefusal, unknown]
  exact ite_self _

/-- A counted refusal of a card that the permit table holds. -/
theorem State.countRefusal_of_some {card i : Nat} (found : s.findPermit card = some i) {r : SessionReason}
    (counted : r.counts = true) : s.countRefusal card r = s.setPermit i refuseOnce := by
  rw [countRefusal, if_pos counted, found]

/-- R11: the permit that holds the card takes a counted refusal, and no other permit changes. -/
theorem State.permit_refuse (canonical : s.canonical = true) (card tag v : Nat) (r : SessionReason) (j : Nat) :
    (s.refuse card tag r v).permit j =
      if s.findPermit card = some j ∧ r.counts = true then refuseOnce (s.permit j) else s.permit j := by
  have permits : (s.refuse card tag r v).permit j = (s.countRefusal card r).permit j := by
    rw [refuse_eq]
    rfl
  rw [permits]
  cases counted : r.counts with
  | false => simp [s.countRefusal_of_not counted]
  | true =>
    cases found : s.findPermit card with
    | none => simp [s.countRefusal_of_none found]
    | some i =>
      rw [s.countRefusal_of_some found counted, permit_setPermit canonical (undamaged_of_findPermit canonical found)]
      by_cases same : j = i
      · simp [same]
      · simp [same, Ne.symm same]

theorem State.tables_refuse {card : Nat} {r : SessionReason} (stands : s.countRefusal card r = s) (tag v : Nat) :
    (s.refuse card tag r v).tables = s.tables := by
  rw [refuse_eq, stands]

end

/-- A verdict joins its station's list, a full one first dropping its oldest (R170). -/
theorem pushVerdict_cases (s : State) (v : Verdict) :
    s.pushVerdict none v = { s with dport := { s.dport with verdictDrop := min 65535 (s.dport.verdictDrop + 1) } } ∧
    (∀ i, (s.station i).verdicts.length < 4 →
      ∃ u : State, u = s.pushVerdict (some i) v ∧ u = { s with dport := { s.dport with stations := u.dport.stations } } ∧
        u.station i = { s.station i with verdicts := (s.station i).verdicts ++ [v] } ∧
        ∀ j, j ≠ i → u.station j = s.station j) ∧
    (∀ i, 4 ≤ (s.station i).verdicts.length →
      ∃ u : State, u = s.pushVerdict (some i) v ∧ u = { s with dport := { s.dport with
          stations := u.dport.stations, verdictDrop := min 65535 (s.dport.verdictDrop + 1) } } ∧
        u.station i = { s.station i with
          verdicts := (s.station i).verdicts.drop 1 ++ [v], carried := (s.station i).carried - 1 } ∧
        ∀ j, j ≠ i → u.station j = s.station j) := by
  refine ⟨rfl, fun i few => ?_, fun i full => ?_⟩
  · rw [s.pushVerdict_of_lt few]
    refine ⟨_, rfl, rfl, ?_, fun j other => ?_⟩
    · rw [State.station_setStation, if_pos rfl]
    · rw [State.station_setStation, if_neg other]
  · rw [s.pushVerdict_of_le full]
    refine ⟨_, rfl, rfl, ?_, fun j other => ?_⟩
    · exact (s.station_setStation i i _).trans (if_pos rfl)
    · exact (s.station_setStation i j _).trans (if_neg other)

/-- Settles O11, clause by clause through the lemma about the check that the clause names. -/
theorem presentationRefused : Obligations.PresentationRefused := by
  refine ⟨fun s v => ?_, fun s card tag r v canonical => ⟨s.refuse card tag r v, rfl, ?_, ?_, ?_, ?_, ?_, ?_, ?_, ?_⟩,
    fun s a n i live station => ?_, fun s t => ⟨State.admissible_of_none, fun v found => ?_⟩,
    fun s card t => ⟨fun unknown => State.permitCheck_of_none unknown t, fun p found => ?_⟩⟩
  · obtain ⟨absent, joins, displaces⟩ := pushVerdict_cases s v
    exact ⟨absent, joins, displaces, rfl, fun _ => rfl⟩
  · rw [State.refuse_eq]
  · intro i reader few
    have dport : (s.refuse card tag r v).dport = (s.pushVerdict (some i) (.refuse r)).dport := by
      rw [State.refuse_eq, State.pushVerdict_eq_pushed, reader]
    rw [State.station, dport, s.pushVerdict_of_lt few]
    exact congrArg Station.verdicts ((s.station_setStation i i _).trans (if_pos rfl))
  · rw [State.refuse_eq, State.tellReader_eq_pushed]
  · rw [State.refuse_eq, State.raise_eq_raised]
  · intro i other
    rw [s.permit_refuse canonical, if_neg fun h => other h.1]
  · intro unknown
    exact s.tables_refuse (s.countRefusal_of_none unknown r) tag v
  · intro counted i found
    rw [s.permit_refuse canonical, if_pos ⟨found, (SessionReason.counts_iff r).2 counted⟩]
    rfl
  · intro uncounted
    have standing := Bool.eq_false_iff.2 (mt (SessionReason.counts_iff r).1 uncounted)
    exact s.tables_refuse (s.countRefusal_of_not standing) tag v
  · rw [exec_card_of_holds live station]
    refine ⟨fun shut => ?_, fun r session record other => ?_, fun p idle pending other => ?_,
      fun p idle pending same => ?_, fun idle free absent => ?_, fun t e idle free tag refused => ?_,
      fun t v e idle free tag admitted localSource refused => ?_⟩
    · rw [State.takeCard_of_notReady shut, State.shownTag]
    · rw [State.takeCard_of_session session record, if_neg other, State.shownTag]
    · rw [State.takeCard_of_pending idle pending, if_neg other, State.shownTag]
    · rw [State.takeCard_of_pending idle pending, if_pos same]
    · rw [State.takeCard_of_idle idle free, State.newPresentation_of_noTag absent]
    · rw [State.takeCard_of_idle idle free, State.newPresentation_of_error tag refused]
    · rw [State.takeCard_of_idle idle free, State.newPresentation_of_ok tag admitted, if_neg localSource,
        State.localDecision_of_error refused]
  · rw [State.admissible_of_some found]
    refine ⟨fun barred => if_pos barred, fun active => ?_⟩
    rw [if_neg (by simp [active])]
    refine ⟨fun expired => if_pos expired, fun inspected => ?_⟩
    rw [if_neg (Nat.not_lt.2 inspected)]
    exact ⟨fun full => if_neg fun free => full.elim (Nat.not_le.2 free.1) free.2, fun room unused => if_pos ⟨room, unused⟩⟩
  · rw [State.permitCheck_of_some found]
    refine ⟨fun suspended => by rw [suspended], fun locked => by rw [locked], fun active => ?_⟩
    rw [active]
    refine ⟨fun expired => if_pos expired, fun valid => ?_⟩
    dsimp only
    rw [if_neg (Nat.not_lt.2 valid)]
    exact ⟨fun listed unlisted => if_neg (by simp [listed, unlisted]), fun allowed => if_pos allowed⟩

end Sys2Proof.Machine
end

section
/-! SUPPORT. What the arm movements of a session's end write, and the close that follows them (R21, R23, R24). -/

namespace Sys2Proof.Machine

/-! ### What an arm movement writes -/

/-- The claims, the reserved volume and the close reason of the session record, the arms, the waiting list, and the idle and
deadman timers may change from state `s` to state `t`; nothing else does. -/
def State.WindsDown (s t : State) : Prop :=
  ∃ (claims : Vector (Option (Fin 4)) 8) (reserved : Nat) (closing : Option CloseReason) (idle : Option Nat)
    (deadman : Deadman) (arms : Vector Arm 4) (waiting : List (Fin 4)), t = { s with
      session := { s.session with
        record := s.session.record.map fun r => { r with claims := claims, reserved := reserved, closing := closing }
        idleTimer := idle }
      safety := { s.safety with deadman := deadman }, arms := arms
      additive := { s.additive with waiting := waiting } }

namespace State.WindsDown

variable {s t u : State}

/-- A change of the record within what a movement writes. -/
theorem of_record {f : Session → Session} (figures : ∀ r, f r =
    { r with claims := (f r).claims, reserved := (f r).reserved, closing := (f r).closing }) {idle : Option Nat}
    {deadman : Deadman} {arms : Vector Arm 4} {waiting : List (Fin 4)}
    (written : t = { s with
      session := { s.session with record := s.session.record.map f, idleTimer := idle }
      safety := { s.safety with deadman := deadman }, arms := arms
      additive := { s.additive with waiting := waiting } }) : s.WindsDown t := by
  cases record : s.session.record with
  | none => exact ⟨Vector.replicate 8 none, 0, none, idle, deadman, arms, waiting, by rw [written, record]; rfl⟩
  | some r =>
    refine ⟨(f r).claims, (f r).reserved, (f r).closing, idle, deadman, arms, waiting, ?_⟩
    rw [written, record, Option.map_some, Option.map_some, ← figures]

/-- A change that leaves the record. -/
theorem of_standing {idle : Option Nat} {deadman : Deadman} {arms : Vector Arm 4} {waiting : List (Fin 4)}
    (written : t = { s with
      session := { s.session with idleTimer := idle }, safety := { s.safety with deadman := deadman }, arms := arms
      additive := { s.additive with waiting := waiting } }) : s.WindsDown t :=
  of_record (f := id) (fun _ => rfl) (by rw [written, Option.map_id]; rfl)

theorem refl (s : State) : s.WindsDown s := of_standing rfl

theorem trans (h : s.WindsDown t) (g : t.WindsDown u) : s.WindsDown u := by
  obtain ⟨claims, reserved, closing, idle, deadman, arms, waiting, rfl⟩ := h
  obtain ⟨claims', reserved', closing', idle', deadman', arms', waiting', rfl⟩ := g
  exact ⟨claims', reserved', closing', idle', deadman', arms', waiting', by rw [Option.map_map]; rfl⟩

theorem foldl {α : Type} {f : State → α → State} (each : ∀ (s : State) a, s.WindsDown (f s a)) (l : List α) (s : State) :
    s.WindsDown (l.foldl f s) := by
  induction l generalizing s with
  | nil => exact refl s
  | cons a l ih => exact (each s a).trans (ih (f s a))

end State.WindsDown

section
variable (s : State)

theorem State.setArm_windsDown (k : Fin 4) (a : Arm) : s.WindsDown (s.setArm k a) := .of_standing rfl

theorem State.settleDeadman_windsDown (was : Bool) : s.WindsDown (s.settleDeadman was) := by
  unfold settleDeadman
  split_ifs <;> exact .of_standing rfl

theorem State.settleIdle_windsDown : s.WindsDown s.settleIdle := .of_standing s.settleIdle_eq

theorem State.moveArm_windsDown (k : Fin 4) (st : ArmState) : s.WindsDown (s.moveArm k st) :=
  ((s.setArm_windsDown _ _).trans (settleDeadman_windsDown _ _)).trans (settleIdle_windsDown _)

theorem State.updSession_windsDown {f : Session → Session} (figures : ∀ r, f r =
    { r with claims := (f r).claims, reserved := (f r).reserved, closing := (f r).closing }) :
    s.WindsDown (s.updSession f) := .of_record figures rfl

theorem State.unwait_windsDown (k : Fin 4) : s.WindsDown (s.unwait k) := .of_standing rfl

theorem State.uncommitted_windsDown (k : Fin 4) : s.WindsDown (s.uncommitted k) := by
  have unwaited : s.WindsDown (if (s.arm k).state = .waitInjector then s.unwait k else s) := by
    split
    · exact s.unwait_windsDown k
    · exact .refl s
  unfold uncommitted
  dsimp only
  split
  · refine unwaited.trans (.trans ?_ (updSession_windsDown _ fun _ => rfl))
    split
    · exact updSession_windsDown _ fun _ => rfl
    · exact .refl _
  · exact unwaited

theorem State.cancel_windsDown (k : Fin 4) : s.WindsDown (s.cancel k) := by
  rw [cancel_eq]
  exact ((s.uncommitted_windsDown k).trans (setArm_windsDown _ _ _)).trans (moveArm_windsDown _ _ _)

theorem State.cancelReady_windsDown (k : Fin 4) : s.WindsDown (s.cancelReady k) := by
  unfold cancelReady
  split
  · exact s.cancel_windsDown k
  · exact s.cancel_windsDown k
  · exact .refl s

theorem State.enterStopping_windsDown (k : Fin 4) (r : EndReason) : s.WindsDown (s.enterStopping k r) := by
  rw [enterStopping_eq]
  exact (s.setArm_windsDown _ _).trans (moveArm_windsDown _ _ _)

theorem State.abortArm_windsDown (e : EndReason) (k : Fin 4) : s.WindsDown (s.abortArm e k) := by
  unfold abortArm
  split
  · exact s.enterStopping_windsDown k e
  · exact s.enterStopping_windsDown k e
  · exact s.enterStopping_windsDown k e
  · exact s.enterStopping_windsDown k e
  · exact s.cancel_windsDown k
  · exact s.cancel_windsDown k
  · exact .refl s
  · exact .refl s

/-! ### A cancel where no arm flows -/

/-- The deadman timer stands where no arm flows before or after (R34). -/
theorem State.settleDeadman_of_still (still : s.anyFlowing = false) : s.settleDeadman false = s := by
  simp [settleDeadman, still]

theorem State.anyFlowing_of_noneRunning (noneRunning : s.noneRunning = true) : s.anyFlowing = false := by
  refine Bool.eq_false_iff.2 fun any => ?_
  obtain ⟨k, flowing⟩ := s.anyFlowing_iff.1 any
  have still := s.noneRunning_iff.1 noneRunning k
  cases state : (s.arm k).state <;> simp [state, ArmState.flowing, ArmState.running] at flowing still

theorem State.noneRunning_congr {s t : State} (arms : t.arms = s.arms) : t.noneRunning = s.noneRunning := by
  simp only [noneRunning, arm_congr arms]

theorem State.noneRunning_cancelReady (k : Fin 4) (noneRunning : s.noneRunning = true) :
    (s.cancelReady k).noneRunning = true := by
  rw [noneRunning_iff] at noneRunning ⊢
  intro j
  rw [arm_cancelReady]
  split_ifs
  · unfold cancelledArm
    split
    · rfl
    · rfl
    · exact noneRunning j
  · exact noneRunning j

theorem State.cancel_safety (k : Fin 4) (noneRunning : s.noneRunning = true) : (s.cancel k).safety = s.safety := by
  have still := s.anyFlowing_of_noneRunning noneRunning
  have safety : (s.uncommitted k).safety = s.safety := by
    unfold uncommitted
    dsimp only
    split <;> split_ifs <;> simp
  generalize ht : (s.uncommitted k).setArm k { s.arm k with batch := none } = t
  have same : t.anyFlowing = s.anyFlowing := by
    have arms := s.uncommitted_arms k
    rw [← ht, anyFlowing_setArm _ _ _ (by rw [arm_congr arms])]
    simp only [anyFlowing, arm_congr arms]
  have after : (t.setArm k { t.arm k with state := .idle }).anyFlowing = false := by
    refine Bool.eq_false_iff.2 fun any => ?_
    obtain ⟨j, flowing⟩ := (anyFlowing_iff _).1 any
    rw [arm_setArm] at flowing
    split_ifs at flowing
    · cases flowing
    · have : t.anyFlowing = true := t.anyFlowing_iff.2 ⟨j, flowing⟩
      simp [same, still] at this
  rw [cancel_eq, ht, moveArm, same, still, settleDeadman_of_still _ after, settleIdle_eq]
  simp [← ht, setArm, safety]

theorem State.cancelReady_safety (k : Fin 4) (noneRunning : s.noneRunning = true) :
    (s.cancelReady k).safety = s.safety := by
  unfold cancelReady
  split
  · exact s.cancel_safety k noneRunning
  · exact s.cancel_safety k noneRunning
  · rfl

/-- R117: a cancelled batch that waited leaves the waiting list. -/
theorem State.cancelReady_waiting (k : Fin 4) : (s.cancelReady k).additive.waiting =
    if (s.arm k).state = .waitInjector then s.additive.waiting.filter (· != k) else s.additive.waiting := by
  have list (h : (s.arm k).state = .ready ∨ (s.arm k).state = .waitInjector) : (s.cancel k).additive.waiting =
      if (s.arm k).state = .waitInjector then s.additive.waiting.filter (· != k) else s.additive.waiting := by
    have kept : (s.uncommitted k).additive.waiting =
        if (s.arm k).state = .waitInjector then s.additive.waiting.filter (· != k) else s.additive.waiting := by
      unfold uncommitted
      dsimp only
      split <;> split_ifs <;> simp [unwait]
    rw [cancel_eq, (moveArm_frame _ _ _).2.2.2.2.2.2.2.2.2.2.1]
    exact kept
  unfold cancelReady
  split
  · exact list (.inl ‹_›)
  · exact list (.inr ‹_›)
  · rw [if_neg ‹_›]

end

/-! ### The orderly close (R21, R24) -/

/-- After the cancels of the arms `l`, where no arm runs: the safety monitor stands, and the arms of `l` that waited have
left the waiting list. -/
theorem State.foldl_cancelReady (l : List (Fin 4)) (distinct : l.Nodup) (s : State) (noneRunning : s.noneRunning = true) :
    (l.foldl cancelReady s).safety = s.safety ∧ (l.foldl cancelReady s).additive.waiting =
      s.additive.waiting.filter fun j => !(decide (j ∈ l) && (s.arm j).state == .waitInjector) := by
  induction l generalizing s with
  | nil => simp
  | cons k l ih =>
    obtain ⟨fresh, distinct⟩ := List.nodup_cons.1 distinct
    obtain ⟨safety, waiting⟩ := ih distinct (s.cancelReady k) (s.noneRunning_cancelReady k noneRunning)
    refine ⟨safety.trans (s.cancelReady_safety k noneRunning), ?_⟩
    rw [List.foldl_cons, waiting, cancelReady_waiting]
    have others : ∀ j, j ∈ l → (s.cancelReady k).arm j = s.arm j := fun j listed => by
      have other : j ≠ k := fun same => fresh (same ▸ listed)
      rw [arm_cancelReady, if_neg other]
    split_ifs with waits
    · rw [List.filter_filter]
      refine List.filter_congr fun j _ => ?_
      by_cases same : j = k
      · simp [same, waits]
      · by_cases listed : j ∈ l
        · simp [same, listed, others j listed]
        · simp [same, listed]
    · refine List.filter_congr fun j _ => ?_
      by_cases same : j = k
      · subst same
        simp [fresh, waits]
      · by_cases listed : j ∈ l
        · simp [same, listed, others j listed]
        · simp [same, listed]

/-- What an arm that is not running becomes when its session ends. -/
theorem State.cancelledArm_eq {s : State} {k : Fin 4} (still : (s.arm k).state.running = false) : s.cancelledArm k =
    if (s.arm k).state = .idle then s.arm k else { s.arm k with state := .idle, batch := none } := by
  unfold cancelledArm
  cases state : (s.arm k).state <;> simp [state, ArmState.running] at still ⊢

section
variable {s t : State}

/-- The close of a session whose arms have wound down (R24). -/
theorem State.closes_of_windsDown {r : Session} (record : s.session.record = some r) (winds : s.WindsDown t)
    (safety : t.safety = s.safety)
    (waiting : t.additive.waiting = s.additive.waiting.filter fun k => (s.arm k).state != .waitInjector)
    (arms : ∀ k, t.arm k =
      if (s.arm k).state = .idle then s.arm k else { s.arm k with state := .idle, batch := none })
    (reason : CloseReason) : s.closes (t.closeSession reason) r reason := by
  obtain ⟨claims, reserved, closing, idle, deadman, armsAfter, list, rfl⟩ := winds
  obtain rfl : list = _ := waiting
  have stands : ({ s.safety with deadman := deadman } : SafetyBlk) = s.safety := safety
  have closed := State.closeSession_eq (s := { s with
      session := { s.session with
        record := s.session.record.map fun r => { r with claims := claims, reserved := reserved, closing := closing }
        idleTimer := idle }
      safety := { s.safety with deadman := deadman }, arms := armsAfter
      additive := { s.additive with
        waiting := s.additive.waiting.filter fun k => (s.arm k).state != .waitInjector } })
    (r := { r with claims := claims, reserved := reserved, closing := closing }) (by simp [record]) reason
  rw [closed, stands]
  exact {
    stands := rfl
    arms := arms
    noLine := fun noLines => if_pos noLines
    lines := fun lines => if_neg lines
    event := by
      unfold closeRaised
      by_cases noLines : r.lines = []
      · simp only [if_pos noLines, raise_eq_raised]
      · simp only [if_neg noLines, raise_eq_raised] }

theorem State.closes.safety {u : State} {r : Session} {reason : CloseReason} (h : s.closes u r reason) :
    u.safety = s.safety := by rw [h.stands]

theorem State.waiting_filter_arms (s : State) :
    (s.additive.waiting.filter fun j => !(decide (j ∈ armIxs) && (s.arm j).state == .waitInjector)) =
      s.additive.waiting.filter fun k => (s.arm k).state != .waitInjector := by
  have every : ∀ k, k ∈ armIxs := by decide
  simp [every, bne]

/-- R21: an orderly close that is taken. -/
theorem State.orderlyClose_closes {r : Session} (record : s.session.record = some r) (noneRunning : s.noneRunning = true)
    (reason : CloseReason) : s.closes (s.orderlyClose reason) r reason := by
  obtain ⟨safety, waiting⟩ := foldl_cancelReady armIxs (by decide) s noneRunning
  refine closes_of_windsDown record (.foldl (fun t k => t.cancelReady_windsDown k) armIxs s) safety
    (waiting.trans s.waiting_filter_arms) (fun k => ?_) reason
  rw [arm_foldl_cancelReady, cancelledArm_eq (s.noneRunning_iff.1 noneRunning k)]

/-! ### The abort (R23) -/

/-- R23: an abort of an arm that does not run is a cancel. -/
theorem State.abortArm_of_still {k : Fin 4} (still : (s.arm k).state.running = false) (e : EndReason) :
    s.abortArm e k = s.cancelReady k := by
  unfold abortArm cancelReady
  cases state : (s.arm k).state <;> simp [state, ArmState.running] at still ⊢

theorem State.foldl_abortArm_of_noneRunning (e : EndReason) (l : List (Fin 4)) (s : State)
    (noneRunning : s.noneRunning = true) : l.foldl (abortArm e) s = l.foldl cancelReady s := by
  induction l generalizing s with
  | nil => rfl
  | cons k l ih =>
    rw [List.foldl_cons, List.foldl_cons, abortArm_of_still (s.noneRunning_iff.1 noneRunning k),
      ih _ (s.noneRunning_cancelReady k noneRunning)]

/-- The arms of an aborted session, before it closes where none runs. -/
@[irreducible] def State.aborting (s : State) (reason : CloseReason) (e : EndReason) : State :=
  armIxs.foldl (abortArm e) (s.updSession fun r => { r with closing := some reason })

theorem State.abort_eq (s : State) (reason : CloseReason) (e : EndReason) :
    s.abort reason e = (s.aborting reason e).closeIfDone := by
  unfold aborting
  rfl

theorem State.aborting_windsDown (s : State) (reason : CloseReason) (e : EndReason) :
    s.WindsDown (s.aborting reason e) := by
  unfold aborting
  exact (s.updSession_windsDown fun _ => rfl).trans (.foldl (fun t k => t.abortArm_windsDown e k) armIxs _)

theorem State.arm_aborting (s : State) (reason : CloseReason) (e : EndReason) (k : Fin 4) :
    (s.aborting reason e).arm k = s.abortedArm e k := by
  rw [aborting, arm_foldl_abortArm]
  rfl

theorem State.aborting_allIdle (s : State) (reason : CloseReason) (e : EndReason) :
    (s.aborting reason e).allIdle = s.noneRunning := by
  rw [Bool.eq_iff_iff, allIdle_iff, noneRunning_iff]
  refine forall_congr' fun k => ?_
  rw [arm_aborting]
  unfold abortedArm
  cases state : (s.arm k).state <;> simp [state, stopped, ArmState.running]

/-- The close reason of the open session, when it is closing. -/
def State.closeReason (s : State) : Option CloseReason := s.session.record.bind Session.closing

theorem State.closeReason_updSession (s : State) {f : Session → Session} (same : ∀ r, (f r).closing = r.closing) :
    (s.updSession f).closeReason = s.closeReason := by
  unfold closeReason updSession setRecord
  cases record : s.session.record with
  | none => simp
  | some r => simp [same]

theorem State.closeReason_unclaim (s : State) (c : Fin 8) : (s.unclaim c).closeReason = s.closeReason :=
  s.closeReason_updSession fun _ => rfl

theorem State.closeReason_unreserve (s : State) (l : Nat) : (s.unreserve l).closeReason = s.closeReason :=
  s.closeReason_updSession fun _ => rfl

theorem State.closeReason_uncommitted (s : State) (k : Fin 4) : (s.uncommitted k).closeReason = s.closeReason := by
  unfold uncommitted
  dsimp only
  split
  · rw [closeReason_unclaim]
    split_ifs
    · rw [closeReason_unreserve]
      rfl
    · rfl
  · split_ifs <;> rfl

theorem State.closeReason_abortArm (e : EndReason) (s : State) (k : Fin 4) :
    (s.abortArm e k).closeReason = s.closeReason := by
  have moved (t : State) (st : ArmState) : (t.moveArm k st).closeReason = t.closeReason := by simp [closeReason]
  have cancelled : (s.cancel k).closeReason = s.closeReason := by
    rw [cancel_eq, moved]
    exact s.closeReason_uncommitted k
  have stops : (s.enterStopping k e).closeReason = s.closeReason := by
    rw [enterStopping_eq, moved]
    rfl
  unfold abortArm
  split
  · exact stops
  · exact stops
  · exact stops
  · exact stops
  · exact cancelled
  · exact cancelled
  · rfl
  · rfl

theorem State.closeReason_aborting (s : State) (isOpen : s.session.record.isSome = true) (reason : CloseReason)
    (e : EndReason) : (s.aborting reason e).closeReason = some reason := by
  unfold aborting
  refine (foldl_frame (p := closeReason) (closeReason_abortArm e) armIxs _).trans ?_
  obtain ⟨r, record⟩ := Option.isSome_iff_exists.1 isOpen
  simp [closeReason, updSession, setRecord, record]

theorem State.bayState_of_closeReason {reason : CloseReason} (closing : s.closeReason = some reason) :
    s.bayState = .closing := by
  obtain ⟨r, record, going⟩ := Option.bind_eq_some_iff.1 closing
  simp [bayState, record, going]

/-- In CLOSING the session closes once every arm is IDLE (R23). -/
theorem State.closeIfDone_of_closing {reason : CloseReason} (closing : s.closeReason = some reason) :
    s.closeIfDone = if s.allIdle then s.closeSession reason else s := by
  obtain ⟨r, record, going⟩ := Option.bind_eq_some_iff.1 closing
  simp only [closeIfDone, record, going]

/-- R23: the abort of a session with no arm running closes it at once. -/
theorem State.abort_closes {r : Session} (record : s.session.record = some r) (noneRunning : s.noneRunning = true)
    (reason : CloseReason) (e : EndReason) : s.closes (s.abort reason e) r reason := by
  have isOpen : s.session.record.isSome = true := by simp [record]
  rw [abort_eq, closeIfDone_of_closing (s.closeReason_aborting isOpen reason e), aborting_allIdle, if_pos noneRunning]
  have folded : s.aborting reason e =
      armIxs.foldl cancelReady (s.updSession fun r => { r with closing := some reason }) := by
    unfold aborting
    exact foldl_abortArm_of_noneRunning e armIxs _ noneRunning
  obtain ⟨safety, waiting⟩ := foldl_cancelReady armIxs (by decide)
    (s.updSession fun r => { r with closing := some reason }) noneRunning
  refine closes_of_windsDown record (s.aborting_windsDown reason e) (folded ▸ safety)
    (folded ▸ waiting.trans s.waiting_filter_arms) (fun k => ?_) reason
  have still := s.noneRunning_iff.1 noneRunning k
  rw [arm_aborting]
  unfold abortedArm
  cases state : (s.arm k).state <;> simp [state, ArmState.running] at still ⊢

/-- R23: with an arm running the session is left CLOSING. -/
theorem State.abort_of_running (isOpen : s.session.record.isSome = true) (running : s.noneRunning = false)
    (reason : CloseReason) (e : EndReason) : s.abort reason e = s.aborting reason e := by
  rw [abort_eq, closeIfDone_of_closing (s.closeReason_aborting isOpen reason e), aborting_allIdle, if_neg (by simp [running])]

end

end Sys2Proof.Machine
end

section
/-! PROOFS. The ends of a session on request, in time and by its card, its abort, and the confirmed tags (R7, R8, R21 to
R24). -/

namespace Sys2Proof.Machine

/-! ### The orderly close (R21, R22) -/

section
variable {s : State}

@[simp] theorem State.noneRunning_linkFrame : s.linkFrame.noneRunning = s.noneRunning := noneRunning_congr (by simp)

@[simp] theorem State.linkFrame_record : s.linkFrame.session.record = s.session.record := by simp

/-- The events of a close follow from the U port and the custody store. -/
theorem State.closeRaised_congr {t : State} (uport : t.uport = s.uport) (custody : t.custody = s.custody) (r : Session)
    (reason : CloseReason) : (t.closeRaised r reason).uport = (s.closeRaised r reason).uport := by
  unfold closeRaised
  split_ifs <;> simp only [raise_eq_raised, uport, custody]

theorem exec_idleTimeout_of_live (live : s.live = true) : exec .idleTimeout s = .next
    (if s.session.idleTimer.isSome && s.noneRunning then
      (s.withSession { s.session with idleTimer := none }).orderlyClose .idleTimeout else s) :=
  whenPowered_of_live s live fun t =>
    if t.session.idleTimer.isSome && t.noneRunning then
      (t.withSession { t.session with idleTimer := none }).orderlyClose .idleTimeout else t

theorem State.ownCard_of_still (noneRunning : s.noneRunning = true) :
    s.ownCard = (s.orderlyClose .orderly).tellReader .accept := if_pos noneRunning

theorem State.ownCard_of_running (running : s.noneRunning = false) : s.ownCard = s.tellReader .stopArmsFirst :=
  if_neg (by simp [running])

end

/-- Settles O14: each of the three ends, once it is taken, is the one orderly close. -/
theorem orderlyClose : Obligations.OrderlyClose := by
  refine ⟨fun s tag hearing => ?_, fun s r live timed noneRunning record => ?_,
    fun s a n i r live station session record own => ?_⟩
  · have run : exec (.sessionEnd tag []) s =
        .next (s.linkFrame.sessionEnd.1.reply 0x03 tag s.linkFrame.sessionEnd.2) := request_of_hearing hearing rfl _ _ _
    refine ⟨fun r session noneRunning record => ⟨s.linkFrame.orderlyClose .orderly, ?_, ?_⟩, fun refused => ?_⟩
    · rw [run, State.sessionEnd, if_pos (by simpa using ⟨session, noneRunning⟩)]
    · exact State.orderlyClose_closes (by simpa using record) (by simpa using noneRunning) _
    · rw [run, State.sessionEnd, if_neg (by simpa using refused)]
  · have stopped := State.orderlyClose_closes (s := s.withSession { s.session with idleTimer := none }) record noneRunning
      .idleTimeout
    have events := State.closeRaised_congr (s := s) (t := s.withSession { s.session with idleTimer := none }) rfl rfl r
      .idleTimeout
    refine ⟨_, (exec_idleTimeout_of_live live).trans (by rw [timed, noneRunning]), ?_⟩
    exact ⟨stopped.stands, stopped.arms, stopped.noLine, stopped.lines,
      stopped.event.trans events⟩
  · rw [exec_card_of_holds live station, State.takeCard_of_session session record, if_pos own]
    refine ⟨fun noneRunning => ⟨s.orderlyClose .orderly, ?_, State.orderlyClose_closes record noneRunning _⟩,
      fun running => ?_⟩
    · rw [State.ownCard_of_still noneRunning]
    · rw [State.ownCard_of_running running]

/-! ### SESSION_ABORT (R23) -/

section
variable {s : State}

theorem State.arm_abort (reason : CloseReason) (e : EndReason) (k : Fin 4) :
    (s.abort reason e).arm k = s.abortedArm e k := by
  rw [abort_eq, arm_congr (s.aborting reason e).closeIfDone_frame.2.2.2.2.2.2.2.2.1, arm_aborting]

theorem State.abortsArm_of_arm {u : State} {e : EndReason} {k : Fin 4} (h : u.arm k = s.abortedArm e k) :
    s.abortsArm u e k := by
  unfold abortsArm
  unfold abortedArm at h
  split at h <;> simp [*]

@[simp] theorem State.abortedArm_linkFrame (e : EndReason) (k : Fin 4) :
    s.linkFrame.abortedArm e k = s.abortedArm e k := by
  rw [linkFrame_eq]
  rfl

theorem State.sessionAbort_of_session (session : s.bayState = .session) :
    s.sessionAbort = (s.abort .abort .sessionAbort, taken) := by rw [sessionAbort, session]

theorem State.sessionAbort_of_closing (closing : s.bayState = .closing) : s.sessionAbort = (s, taken) := by
  rw [sessionAbort, closing]

theorem State.sessionAbort_of_none (closed : s.session.record = none) : s.sessionAbort = (s, deny .wrongState) := by
  unfold sessionAbort
  rw [bayState_of_none s closed]
  split_ifs <;> rfl

end

/-- Settles O15: the arms take what the abort makes of them; where none runs the session closes, and otherwise the
movements leave it CLOSING. -/
theorem sessionAbort : Obligations.SessionAbort := by
  intro s tag hearing
  have run : exec (.sessionAbort tag []) s =
      .next (s.linkFrame.sessionAbort.1.reply 0x04 tag s.linkFrame.sessionAbort.2) := request_of_hearing hearing rfl _ _ _
  refine ⟨fun session => ?_, fun closing => ?_, fun closed => ?_⟩
  · refine ⟨s.linkFrame.abort .abort .sessionAbort, ?_, fun k => ?_, fun noneRunning r record => ?_, fun running => ?_, ?_⟩
    · rw [run, State.sessionAbort_of_session (by simpa using session)]
    · exact State.abortsArm_of_arm ((State.arm_abort _ _ k).trans (by simp))
    · exact State.abort_closes (by simpa using record) (by simpa using noneRunning) _ _
    · obtain ⟨r, record, -⟩ := s.bayState_eq_session_iff.1 session
      have isOpen : s.linkFrame.session.record.isSome = true := by simp [record]
      have reason := s.linkFrame.closeReason_aborting isOpen .abort .sessionAbort
      rw [State.abort_of_running isOpen (by simpa using running)]
      obtain ⟨claims, reserved, closing, idle, deadman, arms, waiting, written⟩ :=
        s.linkFrame.aborting_windsDown .abort .sessionAbort
      refine ⟨State.bayState_of_closeReason reason, reason, ?_, ?_⟩
      · rw [written]
        simp
      · rw [written]
    · simp
  · rw [run, State.sessionAbort_of_closing (by simpa using closing)]
  · rw [run, State.sessionAbort_of_none (by simpa using closed)]

/-! ### Tags (R7, R8) -/

section
variable {s : State}

theorem exec_tag_of_holds (live : s.live = true) {a : Byte} {i : Fin 12} (station : s.holds a i .tagReader)
    (n : BitVec 32) : exec (.tag a n) s = .next (s.copied (s.takeTag n.toNat) i a .tagReader (tagRecord n)) := by
  change execTag a n s = _
  rw [execTag, whenPowered_of_live s live, State.tagFrom, s.offer_of_holds station]

theorem State.takeTag_of_none (absent : s.session.candidate = none) (t : Nat) :
    s.takeTag t = { s with session := { s.session with candidate := some t } } := by
  rw [takeTag, absent]
  rfl

theorem State.takeTag_of_ne {c t : Nat} (candidate : s.session.candidate = some c) (other : c ≠ t) : s.takeTag t =
    { s with session := { s.session with candidate := some t, chattered := min 65535 (s.session.chattered + 1) } } := by
  rw [takeTag, candidate]
  exact if_neg other

theorem State.takeTag_of_eq {t : Nat} (candidate : s.session.candidate = some t) : s.takeTag t = s.confirmTag t := by
  rw [takeTag, candidate]
  exact if_pos rfl

theorem State.confirmTag_zero : s.confirmTag 0 = s := if_pos rfl

theorem State.confirmTag_of_recorded {t : Nat} (positive : t ≠ 0) (recorded : s.session.tagRecord.map TagRec.tag = some t) :
    s.confirmTag t = { s with session := { s.session with tagRecord := some ⟨t, s.now⟩ } } := by
  rw [confirmTag, if_neg positive]
  exact if_pos recorded

/-- The tag record takes a new tag, which is reported. -/
def State.tagged (s : State) (t : Nat) : State := { s with
  session := { s.session with tagRecord := some ⟨t, s.now⟩ }
  uport := (s.raise (.tagConfirmed t (s.mismatch t))).uport }

theorem State.confirmTag_of_new {t : Nat} (positive : t ≠ 0) (new : s.session.tagRecord.map TagRec.tag ≠ some t) :
    s.confirmTag t = if s.mismatch t then (s.tagged t).suspendFlowing .vehicleChange else s.tagged t := by
  rw [confirmTag, if_neg positive]
  simp only [raise_eq_raised, tagged]
  exact if_neg new

/-! ### Suspending the flowing arms (R8, R31, R36) -/

theorem State.suspend_of_still {k : Fin 4} (still : (s.arm k).state.flowing = false) (c : SuspendCause) :
    s.suspend k c = s := by
  rw [suspend, still]
  rfl

/-- With no arm flowing there is nothing to suspend. -/
theorem State.suspendFlowing_of_still (still : s.anyFlowing = false) (c : SuspendCause) : s.suspendFlowing c = s := by
  have each : ∀ l : List (Fin 4), l.foldl (fun t k => t.suspend k c) s = s := fun l => by
    induction l with
    | nil => rfl
    | cons k l ih =>
      have idle : (s.arm k).state.flowing = false := Bool.eq_false_iff.2 fun flowing => by
        simp [s.anyFlowing_iff.2 ⟨k, flowing⟩] at still
      rw [List.foldl_cons, suspend_of_still idle, ih]
  exact each armIxs

theorem State.suspendFlowing_tagRecord (c : SuspendCause) :
    (s.suspendFlowing c).session.tagRecord = s.session.tagRecord := by
  refine foldl_frame (p := fun t : State => t.session.tagRecord) (fun t k => ?_) armIxs s
  have moved (t : State) (st : ArmState) : (t.moveArm k st).session.tagRecord = t.session.tagRecord := by
    rw [moveArm, settleIdle_eq]
    simp
  by_cases flowing : (t.arm k).state.flowing = true
  · rw [t.suspend_eq flowing]
    dsimp only
    split
    · rw [(raise_frame _ _).2.2.2.2.1, moved]
      rfl
    · rw [moved]
      rfl
  · rw [suspend_of_still (Bool.eq_false_iff.2 flowing)]

/-- What the raises of `s` to `t` add to the queue: ARM_SUSPENDED events of a cause alone. -/
def State.SuspendRaised (c : SuspendCause) (s t : State) : Prop :=
  ∃ l, t.uport.events = s.uport.events ++ l ∧ ∀ e ∈ l, ∃ k d x, e.event = .armSuspended k c d x

theorem State.suspend_raised (s : State) (k : Fin 4) (c : SuspendCause) : SuspendRaised c s (s.suspend k c) := by
  by_cases flowing : (s.arm k).state.flowing = true
  · rw [s.suspend_eq flowing]
    dsimp only
    split
    case h_2 => exact ⟨[], by simp⟩
    case h_1 b batch =>
      simp only [SuspendRaised, raise_uport, moveArm_frame]
      split_ifs
      · exact ⟨[_], rfl, fun e he => ⟨k, _, _, congrArg EventRec.event (List.mem_singleton.1 he)⟩⟩
      · exact ⟨[], by simp [setArm]⟩
  · rw [suspend_of_still (Bool.eq_false_iff.2 flowing)]
    exact ⟨[], by simp⟩

theorem State.suspendFlowing_raised (s : State) (c : SuspendCause) : SuspendRaised c s (s.suspendFlowing c) := by
  have each : ∀ (l : List (Fin 4)) (t : State), SuspendRaised c t (l.foldl (fun t k => t.suspend k c) t) := by
    intro l
    induction l with
    | nil => exact fun t => ⟨[], by simp⟩
    | cons k l ih =>
      intro t
      obtain ⟨first, added, ofFirst⟩ := t.suspend_raised k c
      obtain ⟨later, addedLater, ofLater⟩ := ih (t.suspend k c)
      refine ⟨first ++ later, ?_, fun e he => ?_⟩
      · rw [List.foldl_cons, addedLater, added, List.append_assoc]
      · exact (List.mem_append.1 he).elim (ofFirst e) (ofLater e)
  exact each armIxs s

end

/-- Settles O16: the candidate, its repeats, and a new tag, under which the flowing arms are suspended on a mismatch. -/
theorem tagConfirmation : Obligations.TagConfirmation := by
  intro s a n i live station
  rw [exec_tag_of_holds live station]
  have positive (h : n ≠ 0) : n.toNat ≠ 0 := fun zero => h (BitVec.eq_of_toNat_eq zero)
  refine ⟨fun absent => ?_, fun c candidate other => ?_, fun candidate zero => ?_,
    fun candidate nonzero recorded => ?_, fun candidate nonzero new => ?_⟩
  · rw [State.takeTag_of_none absent]
  · rw [State.takeTag_of_ne candidate other]
  · rw [State.takeTag_of_eq candidate, zero]
    exact congrArg (fun t => Host.Outcome.next (s.copied t i a .tagReader (tagRecord 0))) State.confirmTag_zero
  · rw [State.takeTag_of_eq candidate, State.confirmTag_of_recorded (positive nonzero) recorded]
  · rw [State.takeTag_of_eq candidate, State.confirmTag_of_new (positive nonzero) new]
    cases mismatched : s.mismatch n.toNat with
    | false =>
      refine ⟨_, rfl, ?_⟩
      simp [State.tagged, mismatched]
    | true =>
      have raised : (s.tagged n.toNat).uport = (s.raise (.tagConfirmed n.toNat true)).uport := by
        rw [State.tagged, mismatched]
      have events := (s.tagged n.toNat).suspendFlowing_raised .vehicleChange
      rw [State.SuspendRaised, raised] at events
      have tagStands : ((s.tagged n.toNat).suspendFlowing .vehicleChange).session.tagRecord = some ⟨n.toNat, s.now⟩ :=
        (s.tagged n.toNat).suspendFlowing_tagRecord .vehicleChange
      have still (h : s.anyFlowing = false) := (s.tagged n.toNat).suspendFlowing_of_still h .vehicleChange
      refine ⟨_, rfl, ?_⟩
      simp only [if_true]
      refine ⟨tagStands, by simp [State.tagged], by simp [State.tagged], by simp [State.tagged], by simp [State.tagged],
        by simp [State.tagged], by simp [State.tagged], by simp [State.tagged], nofun,
        fun _ => ⟨fun k => State.arm_suspendFlowing _ _ k, events, fun h => ?_⟩⟩
      rw [still h, raised]

end Sys2Proof.Machine
end

section
/-! SUPPORT and PROOFS. What a raised fault does to the fault records, the event queue and a bay without a session, the
drills and the falls of the safety inputs (R28 to R32, R37 to R41, R44). -/

namespace Sys2Proof.Machine

/-! ### The record of a class (R39 to R41) -/

section
variable (s : State)

/-- A fault record after a second write of it. -/
theorem State.setFault_setFault (c : FaultClass) (x y : FaultRec) :
    (s.setFault c x).setFault c y = s.setFault c y := by
  simp [setFault, withSafety, Vec.set]

theorem State.fault_congr {s t : State} (h : t.safety.faults = s.safety.faults) (c : FaultClass) :
    t.fault c = s.fault c := by
  rw [fault, h, fault]

/-- Step 1 of R39 with the event of step 2. -/
theorem State.reportFault_eq (c : FaultClass) (k : Option (Fin 4)) (x : Subject) (drill : Bool) (m : ResponseMode) :
    s.reportFault c k x drill m = { s.setFault c ((s.fault c).entered k s.custody.clock drill) with
      uport := (s.announced c k x m drill).uport } := by
  unfold reportFault announced
  change (if (s.policy c).mask then _ else _) = _
  split_ifs
  · rfl
  · rw [raise_eq_raised, raise_eq_raised]
    rfl

/-- What the response writes in the class's record (R40, R41). -/
def FaultRec.responded (r : FaultRec) (k : Option (Fin 4)) (m : ResponseMode) : FaultRec :=
  match m with
  | .report | .recipe => r
  | .stopArm => { r with
    latch := if r.latch = some .stopBay then some .stopBay else some .stopArm, armsLatched := joinOpt r.armsLatched k }
  | .stopBay => { r with latch := some .stopBay }

/-- A record entered and responded is the record that one raise leaves. -/
theorem State.struck_eq (c : FaultClass) (k : Option (Fin 4)) (m : ResponseMode) (drill : Bool) :
    s.struck c k m drill = ((s.fault c).entered k s.custody.clock drill).responded k m := by
  cases m with
  | report => rfl
  | recipe => rfl
  | stopBay => rfl
  | stopArm => rfl

theorem State.setFault_self (c : FaultClass) : s.setFault c (s.fault c) = s := by
  rw [setFault, fault, Vec.set_get_self]
  rfl

/-- R40: the latch, then the command to the arm named. -/
theorem State.stopArmResponse_eq (c : FaultClass) (k : Option (Fin 4)) : s.stopArmResponse c k =
    let t := s.setFault c ((s.fault c).responded k .stopArm)
    match k with
    | some k => t.faultArm k
    | none => t := by
  cases k <;> simp only [stopArmResponse, FaultRec.responded, apply_ite some]

/-- The response latches the record, and under STOP_ARM commands the arm named, under STOP_BAY the bay. -/
theorem State.fault_respond (c d : FaultClass) (k : Option (Fin 4)) (m : ResponseMode) :
    (s.respond c k m).fault d = if d = c then (s.fault c).responded k m else s.fault d := by
  have standing : s.fault d = if d = c then s.fault c else s.fault d := by
    split_ifs with same
    · rw [same]
    · rfl
  cases m with
  | report => exact standing
  | recipe => exact standing
  | stopArm =>
    rw [← fault_setFault]
    refine fault_congr ?_ d
    rw [respond, stopArmResponse_eq]
    dsimp only
    split <;> simp
  | stopBay =>
    rw [← fault_setFault]
    refine fault_congr ?_ d
    unfold respond stopBayResponse
    dsimp only
    split <;> simp [FaultRec.responded]

/-- A raised fault leaves its class's record as one raise does, and every other record as it was (R38 to R41). -/
theorem State.fault_raiseFault (c d : FaultClass) (k : Option (Fin 4)) (x : Subject) (drill : Bool)
    (action : Option FailureAction) : (s.raiseFault c k x drill action).fault d =
      if d = c then s.struck c k (s.response c action) drill else s.fault d := by
  have entered : ∀ (t : State) (m : ResponseMode), t.safety = s.safety → t.custody = s.custody → ∀ d,
      (t.reportFault c k x drill m).fault d =
        if d = c then (s.fault c).entered k s.custody.clock drill else s.fault d := by
    intro t m safety custody d
    have same : t.fault = s.fault := by funext d; exact fault_congr (by rw [safety]) d
    rw [reportFault_eq, ← same, ← custody]
    exact t.fault_setFault c d _
  unfold raiseFault
  rw [fault_respond, entered _ _ (by simp) (by simp), entered _ _ (by simp) (by simp), struck_eq, if_pos rfl]
  split_ifs <;> rfl

/-! ### A bay without a session (R9, R41) -/

/-- The state after step 1 and the latch of a raise, the arms, the session and the presentation as they were. -/
def State.recorded (s : State) (c : FaultClass) (k : Option (Fin 4)) (x : Subject) (m : ResponseMode) (drill : Bool) :
    State :=
  { s.setFault c (s.struck c k m drill) with uport := (s.announced c k x m drill).uport }

@[simp] theorem State.recorded_stands (c : FaultClass) (k : Option (Fin 4)) (x : Subject) (m : ResponseMode)
    (drill : Bool) : (s.recorded c k x m drill).now = s.now ∧ (s.recorded c k x m drill).tables = s.tables ∧
      (s.recorded c k x m drill).session = s.session ∧ (s.recorded c k x m drill).arms = s.arms ∧
      (s.recorded c k x m drill).additive = s.additive ∧ (s.recorded c k x m drill).custody = s.custody ∧
      (s.recorded c k x m drill).dport = s.dport ∧
      (s.recorded c k x m drill).safety.inputs = s.safety.inputs ∧
      (s.recorded c k x m drill).safety.deadman = s.safety.deadman ∧
      (s.recorded c k x m drill).uport = (s.announced c k x m drill).uport :=
  ⟨rfl, rfl, rfl, rfl, rfl, rfl, rfl, rfl, rfl, rfl⟩

theorem State.fault_recorded (c d : FaultClass) (k : Option (Fin 4)) (x : Subject) (m : ResponseMode) (drill : Bool) :
    (s.recorded c k x m drill).fault d = if d = c then s.struck c k m drill else s.fault d := s.fault_setFault c d _

theorem State.settlePresentation_of_shut {s : State} (shut : s.bayState ≠ .idle) : s.settlePresentation = s.unseated := by
  unfold settlePresentation unseated
  cases s.session.presentation with
  | none => rfl
  | some p =>
    dsimp only
    rw [if_neg shut, refuse_of_uncounted rfl, tellReader_eq_pushed, raise_eq_raised]
    rfl

theorem State.unrecorded_of_allIdle {s : State} (idle : s.allIdle = true) (c : FaultClass) (k : Option (Fin 4)) :
    s.flagMeter c k = s := by
  have still : ∀ k, (s.arm k).state.running = false := fun k => by rw [s.allIdle_iff.1 idle k]; rfl
  unfold flagMeter
  split <;> simp [still]

theorem State.faultArm_of_idle {s : State} {k : Fin 4} (idle : (s.arm k).state = .idle) : s.faultArm k = s := by
  rw [faultArm, idle]

/-- A latched STOP_BAY class keeps a bay without a session from IDLE (R9). -/
theorem State.bayState_of_latched {s : State} (closed : s.session.record = none) {c : FaultClass}
    (latched : (s.fault c).latch = some .stopBay) : s.bayState = .faulted := by
  rw [bayState_of_none s closed, if_pos (s.stopBayLatched_iff.2 ⟨c, latched⟩)]

theorem State.bayState_not_open {s : State} (closed : s.session.record = none) :
    s.bayState ≠ .session ∧ s.bayState ≠ .closing := by
  rw [bayState_of_none s closed]
  split_ifs <;> simp

/-- R41, where no session is open: the class is latched and the presentation pending refused. -/
theorem State.stopBayResponse_of_none {s : State} (closed : s.session.record = none) (c : FaultClass) :
    s.stopBayResponse c = (s.setFault c { s.fault c with latch := some .stopBay }).unseated := by
  obtain ⟨notSession, notClosing⟩ := bayState_not_open closed
  have shut : (s.setFault c { s.fault c with latch := some .stopBay }).bayState ≠ .idle := by
    have faulted := bayState_of_latched (s := s.setFault c { s.fault c with latch := some .stopBay }) closed (c := c)
      (by rw [fault_setFault, if_pos rfl])
    simp [faulted]
  unfold stopBayResponse
  dsimp only
  split
  · exact absurd ‹_› notSession
  · exact absurd ‹_› notClosing
  all_goals exact settlePresentation_of_shut shut

/-- A fault raised with no session open and every arm IDLE (R39 to R41). -/
theorem State.raiseFault_of_idle {s : State} (closed : s.session.record = none) (idle : s.allIdle = true)
    (c : FaultClass) (k : Option (Fin 4)) (x : Subject) (drill : Bool) (action : Option FailureAction) :
    s.raiseFault c k x drill action =
      let v := s.recorded c k x (s.response c action) drill
      if s.response c action = .stopBay then v.unseated else v := by
  have latched (m : ResponseMode) : (s.reportFault c k x drill m).setFault c
      (((s.reportFault c k x drill m).fault c).responded k m) = s.recorded c k x m drill := by
    have entered : (s.reportFault c k x drill m).fault c = (s.fault c).entered k s.custody.clock drill := by
      rw [reportFault_eq]
      exact (s.fault_setFault c c _).trans (if_pos rfl)
    rw [entered, ← struck_eq, reportFault_eq]
    exact congrArg (fun t : State => { t with uport := (s.announced c k x m drill).uport }) (s.setFault_setFault c _ _)
  unfold raiseFault
  rw [unrecorded_of_allIdle idle]
  generalize s.response c action = m
  cases m with
  | report => exact (setFault_self _ c).symm.trans (latched .report)
  | recipe => exact (setFault_self _ c).symm.trans (latched .recipe)
  | stopArm =>
    have still (t : State) (arms : t.arms = s.arms) (k : Fin 4) : t.faultArm k = t :=
      faultArm_of_idle (by rw [arm_congr arms, s.allIdle_iff.1 idle k])
    rw [respond, stopArmResponse_eq, latched, if_neg (by simp)]
    dsimp only
    split
    · exact still _ (by simp [recorded]) _
    · rfl
  | stopBay =>
    rw [if_pos rfl, ← latched]
    exact stopBayResponse_of_none (by simpa using closed) c

end

end Sys2Proof.Machine
end

section
/-! PROOFS. FAULT_DRILL, and the falls of GROUND, OVERFILL and ESTOP (R28, R31, R32, R44). -/

namespace Sys2Proof.Machine

/-! ### FAULT_DRILL (R44) -/

theorem field_pair (b d : Byte) : field [b, d] 0 1 = b.toNat ∧ field [b, d] 1 1 = d.toNat := by
  simp [field, ofBe]

theorem optField_of_eq {m n : Nat} {k : Fin m} (h : n = k.val) : optField m n = .named k := by
  rw [optField, finOf_of_eq h]

theorem optField_none {m : Nat} (small : m ≤ 255) : optField m 255 = .absent := by
  rw [optField, finOf_of_le small]
  rfl

theorem optField_of_between {m n : Nat} (least : m ≤ n) (most : n ≤ 254) : optField m n = .invalid := by
  rw [optField, finOf_of_le least]
  exact if_neg (by omega)

section
variable {s : State}

theorem State.drillRequest_of_bad {b d : Byte} (bad : 11 ≤ b.toNat ∨ 4 ≤ d.toNat ∧ d.toNat ≤ 254) :
    s.drillRequest [b, d] = (s, deny .badValue) := by
  obtain ⟨first, second⟩ := field_pair b d
  rw [drillRequest, first, second]
  rcases bad with unknown | ⟨least, most⟩
  · rw [faultOf_eq_none_of_le unknown]
  · rw [optField_of_between least most]
    split <;> simp_all

theorem State.drillRequest_of_named {b d : Byte} {c : FaultClass} {k : Option (Fin 4)} (known : faultOf b.toNat = some c)
    (arm : d.toNat = 255 ∧ k = none ∨ ∃ j : Fin 4, j.val = d.toNat ∧ k = some j) :
    s.drillRequest [b, d] = s.drill c k := by
  obtain ⟨first, second⟩ := field_pair b d
  rw [drillRequest, first, second, known]
  rcases arm with ⟨none, rfl⟩ | ⟨j, named, rfl⟩
  · rw [none, optField_none (by decide)]
  · rw [optField_of_eq named.symm]

theorem State.drill_of_open (isOpen : s.session.record.isSome = true) (c : FaultClass) (k : Option (Fin 4)) :
    s.drill c k = (s, deny .wrongState) := by
  obtain ⟨r, record⟩ := Option.isSome_iff_exists.1 isOpen
  unfold drill
  simp only [bayState, record]
  split_ifs <;> rfl

theorem State.drill_of_none (closed : s.session.record = none) (c : FaultClass) (k : Option (Fin 4)) :
    s.drill c k = (s.raiseFault c k .none true none, accept (modeCode (s.response c none)) []) := by
  unfold drill
  rw [bayState_of_none s closed]
  split_ifs <;> rfl

theorem State.allIdle_congr {t : State} (arms : t.arms = s.arms) : t.allIdle = s.allIdle := by
  simp only [allIdle, arm_congr arms]

end

/-- Settles O18: the drill raises the class with every arm IDLE, so it writes the class's record and its event, and refuses
the presentation under STOP_BAY. -/
theorem faultDrilled : Obligations.FaultDrilled := by
  intro s tag b d hearing
  have run : exec (.faultDrill tag [b, d]) s =
      .next ((s.linkFrame.drillRequest [b, d]).1.reply 0x06 tag (s.linkFrame.drillRequest [b, d]).2) :=
    request_of_hearing hearing rfl _ _ _
  refine ⟨fun bad => ?_, fun c k known arm => ⟨fun isOpen => ?_, fun closed idle => ?_⟩⟩
  · rw [run, State.drillRequest_of_bad bad]
  · rw [run, State.drillRequest_of_named known arm, State.drill_of_open (by simpa using isOpen)]
  · have drilled := State.raiseFault_of_idle (s := s.linkFrame) (by simpa using closed)
      ((State.allIdle_congr (by simp)).trans idle) c k .none true none
    have response : s.linkFrame.response c none = s.response c none := by rw [State.linkFrame_eq]; rfl
    rw [response] at drilled
    refine ⟨s.linkFrame.raiseFault c k .none true none, s.linkFrame.recorded c k .none (s.response c none) true, ?_,
      drilled, ?_⟩
    · rw [run, State.drillRequest_of_named known arm, State.drill_of_none (by simpa using closed), response]
    · rw [State.linkFrame_eq]
      exact ⟨rfl, fun x other => (s.fault_setFault c x _).trans (if_neg other),
        (s.fault_setFault c c _).trans (if_pos rfl), rfl⟩

/-! ### Falls (R28, R31) -/

section
variable {s : State}

/-- An input whose pin and level are low. -/
def State.fell (s : State) (i : SafetyInput) : State := s.setInput i { s.input i with pin := false, level := false }

theorem State.setInput_setInput (i : SafetyInput) (x y : Input) :
    (s.setInput i x).setInput i y = s.setInput i y := by
  simp [setInput, withSafety, Vec.set]

theorem State.acceptFall_eq {i : SafetyInput} (other : i ≠ .deadman) :
    (s.setInput i { s.input i with pin := false }).acceptFall i =
      (s.fell i).raise (.permissiveChange i false (s.input i).chatter) := by
  unfold acceptFall
  simp only [input_setInput, if_true, setInput_setInput, if_neg other]
  rfl

theorem State.acceptFall_deadman :
    (s.setInput .deadman { s.input .deadman with pin := false }).acceptFall .deadman = s.fell .deadman := by
  unfold acceptFall
  simp only [input_setInput, if_true, setInput_setInput]
  rfl

theorem State.input_congr {t : State} (inputs : t.safety.inputs = s.safety.inputs) (i : SafetyInput) :
    t.input i = s.input i := by
  rw [input, inputs, input]

theorem State.input_fell (i j : SafetyInput) : (s.fell i).input j =
    if j = i then { s.input i with pin := false, level := false } else s.input j := s.input_setInput i j _

theorem State.armSuspended_congr {t : State} (arms : t.arms = s.arms) (now : t.now = s.now) (tables : t.tables = s.tables)
    (k : Fin 4) (c : SuspendCause) : t.armSuspended k c = s.armSuspended k c := by
  simp only [armSuspended, suspended, arm_congr arms, now, armEntry, tables]

theorem State.raise_uport_congr {t : State} (uport : t.uport = s.uport) (custody : t.custody = s.custody) (e : Event) :
    (t.raise e).uport = (s.raise e).uport := by
  rw [raise_eq_raised, raise_eq_raised, uport, custody]

end

/-- Settles O19: the accepted fall suspends every flowing arm; a level that stood low leaves all but the pin. -/
theorem permissiveFall : Obligations.PermissiveFall := by
  intro s i live
  have other : i.input ≠ .deadman := by cases i <;> simp [Permissive.input]
  have run : exec (.permissiveFall i) s = .next (if (s.input i.input).level then
      ((s.setInput i.input { s.input i.input with pin := false }).acceptFall i.input).suspendFlowing (permissiveCause i)
      else s.setInput i.input { s.input i.input with pin := false }) := by
    change execPermissiveFall i s = _
    rw [execPermissiveFall, whenPowered_of_live s live]
  refine ⟨fun high => ?_, fun low => ⟨_, run.trans (by rw [low]), rfl, ?_, fun x differs => ?_⟩⟩
  · rw [if_pos high, State.acceptFall_eq other] at run
    generalize hf : (s.fell i.input).raise (.permissiveChange i.input false (s.input i.input).chatter) = t at run
    have inputs : (t.suspendFlowing (permissiveCause i)).safety.inputs = (s.fell i.input).safety.inputs := by
      rw [(t.suspendFlowing_frame _).2.2.2.2.2.2.1, ← hf]
      simp
    have uport : t.uport = (s.raise (.permissiveChange i.input false (s.input i.input).chatter)).uport := by
      rw [← hf]
      exact State.raise_uport_congr (s := s) (t := s.fell i.input) rfl rfl _
    have arms : t.arms = s.arms := by rw [← hf]; simp [State.fell, State.setInput]
    have stands : t.now = s.now ∧ t.tables = s.tables ∧ t.custody = s.custody ∧ t.meters = s.meters ∧
        t.volumes = s.volumes ∧ t.additive = s.additive ∧ t.dport = s.dport ∧ t.safety.faults = s.safety.faults ∧
        t.session.record = s.session.record := by
      rw [← hf]
      simp [State.fell, State.setInput]
    obtain ⟨now, tables, custody, meters, volumes, additive, dport, faults, record⟩ := stands
    refine ⟨_, run, ?_, fun x differs => ?_, fun k => ?_, ?_⟩
    · rw [State.input_congr inputs, State.input_fell, if_pos rfl]
    · rw [State.input_congr inputs, State.input_fell, if_neg differs]
    · exact (State.arm_suspendFlowing _ _ k).trans (State.armSuspended_congr arms now tables k _)
    · simp only [State.suspendFlowing_frame, tables, custody, meters, volumes, additive, dport, faults, record, true_and]
      intro still
      rw [State.suspendFlowing_of_still (by simpa only [State.anyFlowing, State.arm_congr arms] using still), uport]
  · exact (s.input_setInput _ _ _).trans (if_pos rfl)
  · exact (s.input_setInput _ _ _).trans (if_neg differs)

/-! ### ESTOP (R32, R41) -/

section
variable {s : State}

theorem State.unseated_tables (s : State) : s.unseated.tables = s.tables := by
  unfold unseated
  split <;> rfl

theorem State.settlePresentation_tables : s.settlePresentation.tables = s.tables := by
  by_cases idle : s.bayState = .idle
  · have stands : s.settlePresentation = s := by
      unfold settlePresentation
      split
      · exact if_pos idle
      · rfl
    rw [stands]
  · rw [settlePresentation_of_shut idle, unseated_tables]

/-- A raised fault leaves the tables. -/
theorem State.raiseFault_tables (c : FaultClass) (k : Option (Fin 4)) (x : Subject) (drill : Bool)
    (action : Option FailureAction) : (s.raiseFault c k x drill action).tables = s.tables := by
  have responds (t : State) (m : ResponseMode) : (t.respond c k m).tables = t.tables := by
    cases m with
    | report => rfl
    | recipe => rfl
    | stopArm => exact (t.stopArmResponse_frame c k).2.2.2.1
    | stopBay =>
      unfold respond stopBayResponse
      dsimp only
      split <;> simp [settlePresentation_tables]
  rw [raiseFault, responds]
  simp

theorem State.estopArm_windsDown (s : State) (k : Fin 4) : s.WindsDown (s.estopArm k) := by
  unfold estopArm
  split
  · exact s.enterStopping_windsDown k _
  · exact s.enterStopping_windsDown k _
  · exact s.enterStopping_windsDown k _
  · exact s.enterStopping_windsDown k _
  · exact s.setArm_windsDown k _
  all_goals exact .refl s

/-- The arms after ESTOP's second step. -/
@[irreducible] def State.estopping (s : State) : State := armIxs.foldl estopArm s

theorem State.estopEffect_eq (s : State) : s.estopEffect = s.estopping.raiseFault .estop none .none false none := by
  unfold estopping
  rfl

theorem State.estopping_stands (s : State) : s.estopping.session.record = s.session.record ∧
    s.estopping.additive = s.additive ∧ s.estopping.safety.inputs = s.safety.inputs ∧
    s.estopping.safety.faults = s.safety.faults := by
  have each (t : State) (k : Fin 4) : (t.estopArm k).session.record = t.session.record ∧
      (t.estopArm k).additive = t.additive ∧ (t.estopArm k).safety.inputs = t.safety.inputs ∧
      (t.estopArm k).safety.faults = t.safety.faults := by
    unfold estopArm
    split <;> simp
  unfold estopping
  exact ⟨foldl_frame (p := fun t : State => t.session.record) (fun t k => (each t k).1) _ s,
    foldl_frame (p := fun t : State => t.additive) (fun t k => (each t k).2.1) _ s,
    foldl_frame (p := fun t : State => t.safety.inputs) (fun t k => (each t k).2.2.1) _ s,
    foldl_frame (p := fun t : State => t.safety.faults) (fun t k => (each t k).2.2.2) _ s⟩

theorem State.estopArm_of_still {k : Fin 4} (still : (s.arm k).state.running = false) : s.estopArm k = s := by
  unfold estopArm
  cases state : (s.arm k).state <;> simp [state, ArmState.running] at still ⊢

theorem State.estopping_of_noneRunning (noneRunning : s.noneRunning = true) : s.estopping = s := by
  have each : ∀ l : List (Fin 4), l.foldl estopArm s = s := fun l => by
    induction l with
    | nil => rfl
    | cons k l ih => rw [List.foldl_cons, estopArm_of_still (s.noneRunning_iff.1 noneRunning k), ih]
  unfold estopping
  exact each armIxs

theorem State.estopping_noneRunning (s : State) : s.estopping.noneRunning = s.noneRunning := by
  rw [Bool.eq_iff_iff, noneRunning_iff, noneRunning_iff]
  refine forall_congr' fun k => ?_
  rw [estopping, arm_foldl_estopArm]
  unfold estoppedArm
  cases state : (s.arm k).state <;> simp [state, stopped, ArmState.running]

/-- An arm that ESTOP's steps and the abort have acted on (R32, R41). -/
theorem State.estopsArm_of_aborted {t u : State} {k : Fin 4} (estopped : t.arm k = s.estoppedArm k)
    (aborted : u.arm k = t.abortedArm .fault k) : s.estopsArm u k := by
  unfold estopsArm
  unfold abortedArm at aborted
  unfold estoppedArm at estopped
  cases state : (s.arm k).state <;> simp only [state] at estopped ⊢ <;> simp_all [stopped]

/-- An arm that ESTOP's steps alone have acted on. -/
theorem State.estopsArm_of_estopped {u : State} {k : Fin 4} (estopped : u.arm k = s.estoppedArm k)
    (notReady : (s.arm k).state ≠ .ready) (notWaiting : (s.arm k).state ≠ .waitInjector) : s.estopsArm u k := by
  unfold estopsArm
  unfold estoppedArm at estopped
  cases state : (s.arm k).state <;> simp_all

theorem State.announced_congr {t : State} (tables : t.tables = s.tables) (faults : t.safety.faults = s.safety.faults)
    (uport : t.uport = s.uport) (custody : t.custody = s.custody) (c : FaultClass) (k : Option (Fin 4)) (x : Subject)
    (m : ResponseMode) (drill : Bool) : (t.announced c k x m drill).uport = (s.announced c k x m drill).uport := by
  unfold announced
  rw [policy, tables, ← policy, fault_congr faults]
  split_ifs
  · exact uport
  · exact raise_uport_congr uport custody _

theorem State.struck_congr {t : State} (faults : t.safety.faults = s.safety.faults) (custody : t.custody = s.custody)
    (c : FaultClass) (k : Option (Fin 4)) (m : ResponseMode) (drill : Bool) :
    t.struck c k m drill = s.struck c k m drill := by
  simp only [struck, fault_congr faults, custody]

/-- R41: the latched state that the response STOP_BAY acts on. -/
theorem State.recorded_stopBay (s : State) (c : FaultClass) (k : Option (Fin 4)) (x : Subject) (drill : Bool) :
    (s.reportFault c k x drill .stopBay).setFault c { (s.reportFault c k x drill .stopBay).fault c with
      latch := some .stopBay } = s.recorded c k x .stopBay drill := by
  have entered : (s.reportFault c k x drill .stopBay).fault c = (s.fault c).entered k s.custody.clock drill := by
    rw [reportFault_eq]
    exact (s.fault_setFault c c _).trans (if_pos rfl)
  rw [entered, reportFault_eq]
  exact congrArg (fun t : State => { t with uport := (s.announced c k x .stopBay drill).uport })
    (s.setFault_setFault c _ _)

theorem State.stopBayResponse_of_session (session : s.bayState = .session) (c : FaultClass) :
    s.stopBayResponse c = (s.setFault c { s.fault c with latch := some .stopBay }).abort .fault .fault := by
  unfold stopBayResponse
  rw [session]

theorem State.stopBayResponse_of_closing (closing : s.bayState = .closing) (c : FaultClass) :
    s.stopBayResponse c = (s.setFault c { s.fault c with latch := some .stopBay }).updSession fun r =>
      { r with closing := some .fault } := by
  unfold stopBayResponse
  rw [closing]

/-- ESTOP raised under STOP_BAY, by the bay state (R41). -/
theorem State.raiseEstop_cases (mode : (s.policy .estop).mode = .stopBay) :
    let x := s.recorded .estop none .none .stopBay false
    (s.bayState = .session → s.raiseFault .estop none .none false none = x.abort .fault .fault) ∧
    (s.bayState = .closing → s.raiseFault .estop none .none false none =
      x.updSession fun r => { r with closing := some .fault }) ∧
    (s.session.record = none → s.raiseFault .estop none .none false none = x.unseated) := by
  have response : s.response .estop none = .stopBay := by
    unfold response
    rw [mode]
  have raised : s.raiseFault .estop none .none false none =
      (s.reportFault .estop none .none false .stopBay).stopBayResponse .estop := by
    rw [raiseFault, response]
    rfl
  have isOpen (h : s.session.record.isSome = true) :
      (s.reportFault .estop none .none false .stopBay).bayState = s.bayState := bayState_eq_of_open (by simp) h
  rw [raised, ← recorded_stopBay]
  refine ⟨fun session => stopBayResponse_of_session ?_ _, fun closing => stopBayResponse_of_closing ?_ _,
    fun closed => stopBayResponse_of_none (by simpa using closed) _⟩
  · obtain ⟨r, record, -⟩ := s.bayState_eq_session_iff.1 session
    rw [isOpen (by simp [record]), session]
  · have record : s.session.record.isSome = true := by
      by_contra none
      exact (bayState_not_open (s := s) (by simpa using none)).2 closing
    rw [isOpen record, closing]

end

end Sys2Proof.Machine
end

section
/-! PROOFS. The ESTOP fall, the debounce, the deadman and the meter edges (R28, R29, R32, R34 to R36, R47, R48, R53, R54). -/

namespace Sys2Proof.Machine

/-! ### The ESTOP fall (R32, R41) -/

section
variable {s : State}

theorem State.bayState_congr {t : State} (record : t.session.record = s.session.record)
    (inService : t.session.inService = s.session.inService) (faults : t.safety.faults = s.safety.faults) :
    t.bayState = s.bayState := by
  simp only [bayState, record, inService, stopBayLatched, fault_congr faults] <;> rfl

theorem exec_estopFall_of_live (live : s.live = true) : exec .estopFall s = .next (if (s.input .estop).level then
    ((s.setInput .estop { s.input .estop with pin := false }).acceptFall .estop).estopEffect
    else s.setInput .estop { s.input .estop with pin := false }) := by
  change execEstopFall s = _
  rw [execEstopFall, whenPowered_of_live s live]

/-- PERMISSIVE_CHANGE of an accepted ESTOP fall. -/
def State.estopFell (s : State) : State := (s.fell .estop).raise (.permissiveChange .estop false (s.input .estop).chatter)

/-- The arms have stopped and ESTOP is recorded: what the response STOP_BAY then acts on. -/
def State.estopStruck (s : State) : State := s.estopFell.estopping.recorded .estop none .none .stopBay false

theorem State.estopFell_eq (s : State) : s.estopFell = { s.fell .estop with
    uport := (s.raise (.permissiveChange .estop false (s.input .estop).chatter)).uport } := by
  rw [estopFell, raise_eq_raised, raise_eq_raised]
  rfl

/-- What ESTOP's steps leave as the fall found it. -/
theorem State.estopping_estopFell (s : State) : s.estopFell.estopping.session.record = s.session.record ∧
    s.estopFell.estopping.session.inService = s.session.inService ∧
    s.estopFell.estopping.safety.faults = s.safety.faults ∧ s.estopFell.estopping.tables = s.tables ∧
    s.estopFell.estopping.safety.inputs = (s.fell .estop).safety.inputs ∧
    s.estopFell.estopping.custody = s.custody ∧ s.estopFell.estopping.additive = s.additive ∧
    s.estopFell.estopping.dport = s.dport ∧ s.estopFell.estopping.meters = s.meters ∧
    s.estopFell.estopping.volumes = s.volumes ∧
    s.estopFell.estopping.uport = (s.raise (.permissiveChange .estop false (s.input .estop).chatter)).uport := by
  obtain ⟨record, additive, inputs, faults⟩ := s.estopFell.estopping_stands
  have winds : s.estopFell.WindsDown s.estopFell.estopping := by
    unfold estopping
    exact .foldl (fun t k => t.estopArm_windsDown k) armIxs _
  obtain ⟨claims, reserved, closing, idle, deadman, arms, waiting, written⟩ := winds
  rw [record, additive, inputs, faults, written, estopFell_eq]
  exact ⟨rfl, rfl, rfl, rfl, rfl, rfl, rfl, rfl, rfl, rfl, rfl⟩

theorem State.arm_estopping_estopFell (k : Fin 4) : s.estopFell.estopping.arm k = s.estoppedArm k := by
  rw [estopping, arm_foldl_estopArm, estopFell_eq]
  rfl

theorem State.estopStruck_uport (s : State) : s.estopStruck.uport =
    ((s.raise (.permissiveChange .estop false (s.input .estop).chatter)).announced .estop none .none .stopBay false).uport := by
  obtain ⟨-, -, faults, tables, -, custody, -, -, -, -, uport⟩ := s.estopping_estopFell
  rw [estopStruck, (recorded_stands _ _ _ _ _ _).2.2.2.2.2.2.2.2.2]
  refine announced_congr ?_ ?_ uport ?_ _ _ _ _ _
  · rw [tables]; simp
  · rw [faults]; simp
  · rw [custody]; simp

theorem State.announced_eq (c : FaultClass) (k : Option (Fin 4)) (x : Subject) (m : ResponseMode) (drill : Bool) :
    s.announced c k x m drill = { s with uport := (s.announced c k x m drill).uport } := by
  unfold announced
  split_ifs
  · rfl
  · rw [raise_eq_raised]

/-- With no arm running the steps of ESTOP write the safety monitor and the event queue alone. -/
theorem State.estopStruck_of_noneRunning (noneRunning : s.noneRunning = true) : s.estopStruck =
    { (s.raise (.permissiveChange .estop false (s.input .estop).chatter)).announced .estop none .none .stopBay false with
      safety := s.estopStruck.safety } := by
  have still : s.estopFell.noneRunning = true := by
    rw [estopFell_eq]
    exact noneRunning
  have uport := s.estopStruck_uport
  rw [announced_eq, ← uport, raise_eq_raised, estopStruck, estopping_of_noneRunning still, estopFell_eq]
  rfl

theorem State.unseated_stands (s : State) : s.unseated.session.record = s.session.record ∧ s.unseated.safety = s.safety := by
  unfold unseated
  split <;> exact ⟨rfl, rfl⟩

theorem State.noneRunning_of_allIdle (idle : s.allIdle = true) : s.noneRunning = true :=
  s.noneRunning_iff.2 fun k => by rw [s.allIdle_iff.1 idle k]; rfl

/-- What ESTOP's steps and its record leave as the fall found it. -/
theorem State.estopStruck_stands (s : State) : s.estopStruck.session.record = s.session.record ∧
    s.estopStruck.additive = s.additive ∧ s.estopStruck.custody = s.custody ∧ s.estopStruck.dport = s.dport ∧
    ∀ k, s.estopStruck.arm k = s.estoppedArm k := by
  obtain ⟨record, -, -, -, -, custody, additive, dport, -, -, -⟩ := s.estopping_estopFell
  exact ⟨record, additive, custody, dport, s.arm_estopping_estopFell⟩

theorem State.estopStruck_noneRunning (s : State) : s.estopStruck.noneRunning = s.noneRunning := by
  have fell : s.estopFell.noneRunning = s.noneRunning := by
    rw [estopFell_eq]
    rfl
  exact s.estopFell.estopping_noneRunning.trans fell

section
variable {r : Session} (record : s.session.record = some r)
include record

/-- R41: with no arm running the session closes with FAULT. -/
theorem State.estopStruck_closes (noneRunning : s.noneRunning = true) :
    ({ (s.raise (.permissiveChange .estop false (s.input .estop).chatter)).announced .estop none .none .stopBay false with
      safety := (s.estopStruck.abort .fault .fault).safety } : State).closes (s.estopStruck.abort .fault .fault) r
        .fault := by
  obtain ⟨sameRecord, -⟩ := s.estopStruck_stands
  have closes := State.abort_closes (sameRecord.trans record) (s.estopStruck_noneRunning.trans noneRunning) .fault .fault
  rw [closes.safety, ← State.estopStruck_of_noneRunning noneRunning]
  exact closes

/-- R41: with an arm running the session is left closing with FAULT. -/
theorem State.estopStruck_left (running : s.noneRunning = false) :
    (s.estopStruck.abort .fault .fault).closeReason = some .fault ∧
      (s.estopStruck.abort .fault .fault).custody = s.custody ∧
      (s.estopStruck.abort .fault .fault).uport = s.estopStruck.uport := by
  obtain ⟨sameRecord, -, custody, -⟩ := s.estopStruck_stands
  have isOpen : s.estopStruck.session.record.isSome = true := by rw [sameRecord, record]; rfl
  rw [State.abort_of_running isOpen (s.estopStruck_noneRunning.trans running)]
  refine ⟨s.estopStruck.closeReason_aborting isOpen .fault .fault, ?_⟩
  rw [← custody]
  generalize s.estopStruck = t
  obtain ⟨claims, reserved, closing, idle, deadman, arms, waiting, written⟩ := t.aborting_windsDown .fault .fault
  rw [written]
  exact ⟨rfl, rfl⟩

end

/-- R41: with no session open the bay is FAULTED. -/
theorem State.estopStruck_faulted (closed : s.session.record = none) : s.estopStruck.unseated.bayState = .faulted := by
  obtain ⟨record, safety⟩ := s.estopStruck.unseated_stands
  obtain ⟨sameRecord, -⟩ := s.estopStruck_stands
  refine State.bayState_of_latched (c := .estop) ((record.trans sameRecord).trans closed) ?_
  rw [State.fault_congr (congrArg SafetyBlk.faults safety), State.estopStruck, State.fault_recorded, if_pos rfl]
  rfl

/-- An accepted ESTOP fall under STOP_BAY, by the bay state. -/
theorem State.estopEffect_cases (mode : (s.policy .estop).mode = .stopBay) :
    (s.bayState = .session → s.estopFell.estopEffect = s.estopStruck.abort .fault .fault) ∧
    (s.bayState = .closing → s.estopFell.estopEffect =
      s.estopStruck.updSession fun r => { r with closing := some .fault }) ∧
    (s.session.record = none → s.estopFell.estopEffect = s.estopStruck.unseated) := by
  obtain ⟨record, inService, faults, tables, -⟩ := s.estopping_estopFell
  have bayState := bayState_congr record inService faults
  obtain ⟨inSession, inClosing, inNone⟩ := raiseEstop_cases (s := s.estopFell.estopping)
    (by rw [policy, tables]; exact mode)
  rw [estopEffect_eq]
  exact ⟨fun h => inSession (bayState.trans h), fun h => inClosing (bayState.trans h), fun h => inNone (record.trans h)⟩

/-- What the fall and the raised class leave in every bay state. -/
theorem State.estopEffect_stands (mode : (s.policy .estop).mode = .stopBay) :
    s.estopFell.estopEffect.safety.inputs = (s.fell .estop).safety.inputs ∧
    (∀ c, s.estopFell.estopEffect.fault c = if c = .estop then s.struck .estop none .stopBay false else s.fault c) ∧
    s.estopFell.estopEffect.tables = s.tables ∧ s.estopFell.estopEffect.meters = s.meters ∧
    s.estopFell.estopEffect.volumes = s.volumes := by
  obtain ⟨-, -, faults, tables, inputs, custody, -, -, meters, volumes, -⟩ := s.estopping_estopFell
  have response : s.estopFell.estopping.response .estop none = .stopBay := by
    unfold State.response
    rw [policy, tables, ← policy, mode]
  rw [estopEffect_eq]
  obtain ⟨-, -, -, -, sameInputs, sameMeters, sameVolumes, -⟩ :=
    s.estopFell.estopping.raiseFault_frame .estop none .none false none
  refine ⟨sameInputs.trans inputs, fun c => ?_, (raiseFault_tables _ _ _ _ _).trans tables, sameMeters.trans meters,
    sameVolumes.trans volumes⟩
  rw [fault_raiseFault, response, struck_congr faults custody, fault_congr faults]

end

/-- Settles O20: ESTOP's steps stop the arms and the response STOP_BAY then ends the session as an abort with FAULT does,
takes its reason in CLOSING, and otherwise refuses the presentation. -/
theorem estopFall : Obligations.EstopFall := by
  intro s live
  have run := exec_estopFall_of_live live
  refine ⟨fun low => ⟨_, run.trans (by rw [low]; rfl), rfl, (s.input_setInput _ _ _).trans (if_pos rfl),
    fun x differs => (s.input_setInput _ _ _).trans (if_neg differs)⟩, fun high mode => ?_⟩
  rw [if_pos high, State.acceptFall_eq (by simp), ← State.estopFell] at run
  obtain ⟨inputs, fault, tables, meters, volumes⟩ := State.estopEffect_stands mode
  obtain ⟨inSession, inClosing, inNone⟩ := State.estopEffect_cases mode
  obtain ⟨record, additive, custody, dport, arms⟩ := s.estopStruck_stands
  have uport := s.estopStruck_uport
  refine ⟨_, run, ?_, fun x differs => ?_, (fault .estop).trans (if_pos rfl), fun c differs =>
    (fault c).trans (if_neg differs), tables, meters, volumes, fun session => ?_, fun closing => ?_, fun closed => ?_⟩
  · rw [State.input_congr inputs, State.input_fell, if_pos rfl]
  · rw [State.input_congr inputs, State.input_fell, if_neg differs]
  · rw [inSession session]
    obtain ⟨r, hasRecord, -⟩ := s.bayState_eq_session_iff.1 session
    refine ⟨fun k => State.estopsArm_of_aborted (arms k) (State.arm_abort _ _ k),
      (State.abort_frame _ _ _).2.2.2.2.2.2.2.2.2.2.2.1.trans dport,
      fun noneRunning _ isOpen => State.estopStruck_closes isOpen noneRunning, fun running => ?_⟩
    obtain ⟨reason, sameCustody, sameUport⟩ := State.estopStruck_left hasRecord running
    exact ⟨reason, sameCustody, sameUport.trans uport⟩
  · rw [inClosing closing]
    refine ⟨?_, fun k notReady notWaiting => State.estopsArm_of_estopped (arms k) notReady notWaiting,
      fun k unset => (arms k).trans ?_, custody, additive, dport, uport⟩
    · rw [← record]
      rfl
    · rcases unset with ready | waits <;> simp [State.estoppedArm, *]
  · rw [inNone closed]
    refine ⟨State.estopStruck_faulted closed, fun idle => ?_⟩
    rw [s.estopStruck.unseated_stands.2, ← State.estopStruck_of_noneRunning (State.noneRunning_of_allIdle idle)]

end Sys2Proof.Machine
end

section
/-! PROOFS. The debounce and the deadman, and the edges of a meter channel (R28, R29, R34 to R36, R47, R48, R53, R54). -/

namespace Sys2Proof.Machine

/-! ### Debounce (R29) -/

section
variable {s : State}

theorem exec_debounceStart_of_live (live : s.live = true) (i : SafetyInput) :
    exec (.debounceStart i) s = .next (s.seenHigh i) := whenPowered_of_live s live fun t => t.seenHigh i

theorem exec_debounceExpiry_of_live (live : s.live = true) (i : SafetyInput) :
    exec (.debounceExpiry i) s = .next (if (s.input i).timer.isSome then s.debounced i else s) :=
  whenPowered_of_live s live fun t => if (t.input i).timer.isSome then t.debounced i else t

theorem State.seenHigh_of_waiting {i : SafetyInput} (low : (s.input i).level = false) (stopped : (s.input i).timer = none) :
    s.seenHigh i = s.setInput i { s.input i with pin := true, timer := some (s.now + s.debounceTime i) } := by
  simp [seenHigh, low, stopped]

theorem State.seenHigh_of_settled {i : SafetyInput} (h : (s.input i).level = true ∨ (s.input i).timer.isSome = true) :
    s.seenHigh i = s.setInput i { s.input i with pin := true } := by
  unfold seenHigh
  exact if_pos h

theorem State.debounced_of_low {i : SafetyInput} (low : (s.input i).pin = false) : s.debounced i =
    s.setInput i { s.input i with timer := none, chatter := min 65535 ((s.input i).chatter + 1) } := by
  unfold debounced
  exact if_neg (by simp [low])

/-- The level of an input rises at its expiry with the pin high. -/
def State.rose (s : State) (i : SafetyInput) : State := s.setInput i { s.input i with timer := none, level := true }

theorem State.debounced_of_high {i : SafetyInput} (high : (s.input i).pin = true) (other : i ≠ .deadman) :
    s.debounced i = (s.rose i).raise (.permissiveChange i true (s.input i).chatter) := by
  unfold debounced
  exact (if_pos high).trans (if_neg other)

theorem State.debounced_deadman (high : (s.input .deadman).pin = true) :
    s.debounced .deadman = (s.rose .deadman).press := by
  unfold debounced
  exact (if_pos high).trans (if_pos rfl)

end

/-- Settles O21: each clause writes the one input it names; a rise also raises PERMISSIVE_CHANGE. -/
theorem inputDebounce : Obligations.InputDebounce := by
  intro s i live
  rw [exec_debounceStart_of_live live, exec_debounceExpiry_of_live live]
  have own (x : Input) : (s.setInput i x).input i = x := (s.input_setInput i i x).trans (if_pos rfl)
  have others (x : Input) (j : SafetyInput) (differs : j ≠ i) : (s.setInput i x).input j = s.input j :=
    (s.input_setInput i j x).trans (if_neg differs)
  refine ⟨fun low stopped => ?_, fun settled => ?_, fun runs high other => ?_, fun runs low => ?_, fun stopped => ?_⟩
  · rw [State.seenHigh_of_waiting low stopped]
    exact ⟨_, rfl, rfl, others _, own _⟩
  · rw [State.seenHigh_of_settled settled]
    exact ⟨_, rfl, rfl, others _, own _⟩
  · rw [if_pos runs, State.debounced_of_high high other, State.raise_eq_raised, State.raise_eq_raised]
    exact ⟨_, rfl, rfl, others _, own _, rfl⟩
  · rw [if_pos runs, State.debounced_of_low low]
    exact ⟨_, rfl, rfl, others _, own _⟩
  · rw [stopped]
    rfl

/-! ### The deadman (R34 to R36) -/

section
variable {s : State}

theorem exec_deadmanRelease_of_live (live : s.live = true) : exec .deadmanRelease s = .next (s.fell .deadman) := by
  change execDeadmanRelease s = _
  rw [execDeadmanRelease, whenPowered_of_live s live, State.acceptFall_deadman]

theorem exec_deadmanWarning_of_live (live : s.live = true) : exec .deadmanWarning s =
    .next (if s.safety.deadman.timer.isSome && !s.safety.deadman.warned then
      (s.setDeadman { s.safety.deadman with warned := true, warn := true }).raise (.deadmanWarning 15) else s) :=
  whenPowered_of_live s live fun t =>
    if t.safety.deadman.timer.isSome && !t.safety.deadman.warned then
      (t.setDeadman { t.safety.deadman with warned := true, warn := true }).raise (.deadmanWarning 15)
    else t

theorem exec_deadmanExpiry_of_live (live : s.live = true) :
    exec .deadmanExpiry s = .next (if s.safety.deadman.timer.isSome then s.deadmanOut else s) :=
  whenPowered_of_live s live fun t => if t.safety.deadman.timer.isSome then t.deadmanOut else t

/-- The deadman after an accepted press (R35, R36). -/
def State.pressed (s : State) : Deadman :=
  let e := { s.safety.deadman with presses := min 65535 (s.safety.deadman.presses + 1) }
  if s.safety.deadman.timer.isSome then
    { e with timer := s.deadmanRestart, warned := false, warn := false, expired := false }
  else if s.safety.deadman.expired then { e with warn := false, expired := false }
  else e

theorem State.pressed_presses (s : State) : s.pressed.presses = min 65535 (s.safety.deadman.presses + 1) := by
  unfold pressed
  dsimp only
  split_ifs <;> rfl

theorem State.pressed_of_timed (timed : s.safety.deadman.timer.isSome = true) : s.pressed =
    ⟨s.deadmanRestart, false, false, false, min 65535 (s.safety.deadman.presses + 1)⟩ := by
  unfold pressed
  exact if_pos timed

theorem State.pressed_of_expired (stopped : s.safety.deadman.timer = none) (expired : s.safety.deadman.expired = true) :
    s.pressed = { s.safety.deadman with
      warn := false, expired := false, presses := min 65535 (s.safety.deadman.presses + 1) } := by
  unfold pressed
  exact (if_neg (by simp [stopped])).trans (if_pos expired)

theorem State.pressed_of_unexpired (stopped : s.safety.deadman.timer = none) (unexpired : s.safety.deadman.expired = false) :
    s.pressed = { s.safety.deadman with presses := min 65535 (s.safety.deadman.presses + 1) } := by
  unfold pressed
  exact (if_neg (by simp [stopped])).trans (if_neg (by simp [unexpired]))

theorem State.press_eq (s : State) : s.press = s.setDeadman s.pressed := by
  unfold press pressed
  dsimp only
  split_ifs <;> rfl

/-- With its timer stopped, a change that lets no arm begin to flow leaves the deadman (R34). -/
theorem State.suspend_safety {k : Fin 4} {c : SuspendCause} (stopped : s.safety.deadman.timer = none) :
    (s.suspend k c).safety = s.safety := by
  by_cases flowing : (s.arm k).state.flowing = true
  · have was : s.anyFlowing = true := s.anyFlowing_iff.2 ⟨k, flowing⟩
    have settled (t : State) (safety : t.safety = s.safety) : (t.settleDeadman true).safety = s.safety := by
      simp [settleDeadman, safety, stopped]
    have moved (a : Arm) (same : a.state = (s.arm k).state) : ((s.setArm k a).moveArm k .suspended).safety = s.safety := by
      have any : (s.setArm k a).anyFlowing = true := (s.anyFlowing_setArm k a (by rw [same])).trans was
      rw [moveArm, any, settleIdle_eq]
      exact settled _ rfl
    rw [s.suspend_eq flowing]
    dsimp only
    split
    · rw [(raise_frame _ _).2.2.2.2.2.1]
      exact moved _ rfl
    · exact moved _ rfl
  · rw [suspend_of_still (Bool.eq_false_iff.2 flowing)]

theorem State.suspendFlowing_safety (stopped : s.safety.deadman.timer = none) (c : SuspendCause) :
    (s.suspendFlowing c).safety = s.safety := by
  have each : ∀ (l : List (Fin 4)) (t : State), t.safety = s.safety →
      (l.foldl (fun t k => t.suspend k c) t).safety = s.safety := by
    intro l
    induction l with
    | nil => exact fun t same => same
    | cons k l ih => exact fun t same => ih _ ((suspend_safety (by rw [same, stopped])).trans same)
  exact each armIxs s rfl

end

/-- Settles O22: the release and the press write the deadman and its input, and the expiry suspends the flowing arms. -/
theorem deadmanTimer : Obligations.DeadmanTimer := by
  intro s live
  rw [exec_deadmanRelease_of_live live, exec_debounceExpiry_of_live live, exec_deadmanWarning_of_live live,
    exec_deadmanExpiry_of_live live]
  refine ⟨⟨_, rfl, rfl, fun x other => ?_, ?_⟩, fun runs high => ?_, fun runs fresh => ?_, fun idle => ?_, fun runs => ?_,
    fun stopped => ?_⟩
  · rw [State.input_fell, if_neg other]
  · rw [State.input_fell, if_pos rfl]
  · rw [if_pos runs, State.debounced_deadman high, State.press_eq]
    refine ⟨_, rfl, rfl, fun x other => (s.input_setInput _ x _).trans (if_neg other),
      (s.input_setInput _ _ _).trans (if_pos rfl), rfl, ?_, fun timed => ?_, fun stopped expired => ?_,
      fun stopped unexpired => ?_⟩
    · exact State.pressed_presses _
    · simp only [State.pressed_of_timed (s := s.rose .deadman) timed, State.setDeadman, State.withSafety_safety]
      exact ⟨rfl, trivial, trivial, trivial⟩
    · simp only [State.pressed_of_expired (s := s.rose .deadman) stopped expired, State.setDeadman,
        State.withSafety_safety]
      exact ⟨stopped, trivial, trivial⟩
    · simp only [State.pressed_of_unexpired (s := s.rose .deadman) stopped unexpired, State.setDeadman,
        State.withSafety_safety]
      rfl
  · rw [runs, fresh]
    rfl
  · rcases idle with stopped | warned
    · rw [stopped]
      rfl
    · rw [warned, Bool.not_true, Bool.and_false]
      rfl
  · rw [if_pos runs]
    refine ⟨_, rfl, ?_, ?_, ?_⟩
    · exact State.suspendFlowing_safety rfl _
    · exact fun k => (State.arm_suspendFlowing _ _ k)
    · simp [State.deadmanOut, State.setDeadman]
  · rw [stopped]
    rfl

/-! ### Meter edges (R47, R48, R53, R54) -/

section
variable {s : State}

theorem exec_meterAEdge_of_live (live : s.live = true) (k : Fin 4) : exec (.meterAEdge k) s = .next (s.aEdge k) :=
  whenPowered_of_live s live fun t => t.aEdge k

theorem exec_meterBEdge_of_live (live : s.live = true) (k : Fin 4) :
    exec (.meterBEdge k) s = .next (s.setMeter k (s.meter k).bEdge) :=
  whenPowered_of_live s live fun t => t.setMeter k (t.meter k).bEdge

theorem getLsbD_joinArm (b : BitVec 4) (k : Fin 4) : (joinArm b k).getLsbD k.val = true := by
  have bit : ∀ k : Fin 4, (BitVec.ofNat 4 (2 ^ k.val)).getLsbD k.val = true := by decide
  rw [joinArm, BitVec.getLsbD_or, bit, Bool.or_true]

/-- A channel with a rising A edge counted. -/
def Meter.counted (m : Meter) : Meter := { m with seenA := true, aCount := m.aCount + 1 }

theorem State.aEdge_of_stopped {k : Fin 4} (stopped : (s.meter k).running = false) :
    s.aEdge k = s.setMeter k { s.meter k with seenA := true } := by
  unfold aEdge
  exact if_pos (by simp [stopped])

theorem State.aEdge_of_forward {k : Fin 4} (running : (s.meter k).running = true) (low : (s.meter k).seenB = false) :
    s.aEdge k = s.setMeter k (s.meter k).counted.forward := by
  simp [aEdge, running, low, Meter.counted]

theorem State.aEdge_of_reverse {k : Fin 4} (running : (s.meter k).running = true) (high : (s.meter k).seenB = true)
    (within : (s.meter k).debt < s.bay.reverseAllowance ∨ (s.meter k).excess = true) :
    s.aEdge k = s.setMeter k ((s.meter k).counted.reverse s.bay.reverseAllowance) := by
  simp [aEdge, running, high, Meter.counted, within]

theorem State.aEdge_of_excess {k : Fin 4} (running : (s.meter k).running = true) (high : (s.meter k).seenB = true)
    (beyond : s.bay.reverseAllowance ≤ (s.meter k).debt) (first : (s.meter k).excess = false) : s.aEdge k =
      (s.setMeter k { (s.meter k).counted.reverse s.bay.reverseAllowance with excess := true }).armFault .meterReverse k := by
  simp [aEdge, running, high, Meter.counted, first, Nat.not_lt.2 beyond]

end

/-- Settles O23: an edge writes its own channel; the first excess reverse pulse also raises METER_REVERSE. -/
theorem meterEdges : Obligations.MeterEdges := by
  have own (s : State) (k : Fin 4) (m : Meter) : (s.setMeter k m).meter k = m :=
    (s.meter_setMeter k k m).trans (if_pos rfl)
  have others (s : State) (k : Fin 4) (m : Meter) (j : Fin 4) (differs : j ≠ k) : (s.setMeter k m).meter j = s.meter j :=
    (s.meter_setMeter k j m).trans (if_neg differs)
  refine ⟨fun s k live running => ?_, fun s k live => ?_⟩
  · rw [exec_meterAEdge_of_live live, exec_meterBEdge_of_live live]
    refine ⟨fun low => ?_, fun high within => ?_, fun high beyond => ?_, ?_⟩
    · rw [State.aEdge_of_forward running low]
      refine ⟨_, rfl, rfl, others s k _, (own s k _).trans ?_⟩
      unfold Meter.forward Meter.counted
      dsimp only
      split_ifs <;> rfl
    · rw [State.aEdge_of_reverse running high (.inl within)]
      refine ⟨_, rfl, rfl, others s k _, (own s k _).trans ?_⟩
      rw [Meter.reverse, Meter.counted, if_pos within]
      rfl
    · have reversed : ∀ x, x = true → { (s.meter k).counted.reverse s.bay.reverseAllowance with excess := x } =
          { s.meter k with
            seenA := true, aCount := (s.meter k).aCount + 1, excess := true
            reverses := min 65535 ((s.meter k).reverses + 1) } := by
        rintro _ rfl
        rw [Meter.reverse, Meter.counted, if_neg (Nat.not_lt.2 beyond)]
        rfl
      cases first : (s.meter k).excess with
      | true =>
        rw [State.aEdge_of_reverse running high (.inr first)]
        exact ⟨_, rfl, others s k _, (own s k _).trans (reversed _ first), fun _ => rfl, nofun⟩
      | false =>
        rw [State.aEdge_of_excess running high beyond first, State.armFault]
        have meters (j : Fin 4) (t : State) : (t.raiseFault .meterReverse (some k) .none false none).meter j = t.meter j := by
          rw [State.meter, (State.raiseFault_frame _ _ _ _ _ _).2.2.2.2.2.1, State.meter]
        refine ⟨_, rfl, fun j differs => ?_, ?_, nofun, fun _ => ?_⟩
        · rw [meters, others _ _ _ _ differs]
        · rw [meters, own, reversed _ rfl]
        · rw [State.fault_raiseFault, if_pos rfl]
          refine ⟨rfl, rfl, ?_⟩
          exact getLsbD_joinArm _ k
    · refine ⟨_, rfl, rfl, others s k _, (own s k _).trans ?_⟩
      simp [Meter.bEdge, running]
  · have falling (c : Channel) : exec (.meterFallingEdge k c) s = .next (match c with
        | .a => s.setMeter k { s.meter k with seenA := false }
        | .b => s.setMeter k { s.meter k with seenB := false }) := by
      cases c with
      | a => exact whenPowered_of_live s live fun t => t.setMeter k { t.meter k with seenA := false }
      | b => exact whenPowered_of_live s live fun t => t.setMeter k { t.meter k with seenB := false }
    rw [exec_meterAEdge_of_live live, exec_meterBEdge_of_live live, falling, falling]
    refine ⟨fun stopped => ⟨?_, ?_, ?_⟩, ⟨_, rfl, rfl, others s k _, own s k _⟩, ⟨_, rfl, rfl, others s k _, own s k _⟩⟩
    · rw [State.aEdge_of_stopped stopped]
      exact ⟨_, rfl, rfl, others s k _, own s k _⟩
    · refine ⟨_, rfl, rfl, others s k _, (own s k _).trans ?_⟩
      simp [Meter.bEdge, stopped]
    · refine (whenPowered_of_live s live fun t => t.closeWindow k).trans ?_
      rw [State.closeWindow, stopped]
      rfl

end Sys2Proof.Machine
end

section
/-! PROOFS. The figures of the volume engine and of the preset, the temperature samples and their timers (R66, R68 to R71,
R75, R88). -/

namespace Sys2Proof.Machine

/-! ### The meter factor (R66) -/

/-- Rounding keeps a quotient between whole bounds. -/
theorem roundHalfUp_between {x : Int} {d lo hi : Nat} (positive : 0 < d) (least : (lo : Int) * d ≤ x)
    (most : x ≤ (hi : Int) * d) : (lo : Int) ≤ roundHalfUp x d ∧ roundHalfUp x d ≤ hi := by
  unfold roundHalfUp
  push_cast
  constructor
  · rw [Int.le_ediv_iff_mul_le (by omega)]
    nlinarith
  · refine Int.le_of_lt_add_one ((Int.ediv_lt_iff_lt_mul (by omega)).2 ?_)
    nlinarith

/-- Between two points the factor lies between any bounds of theirs. -/
theorem interpolate_between {a b : CurvePoint} {q lo hi : Nat} (above : a.q < q) (below : q < b.q)
    (first : lo ≤ a.f ∧ a.f ≤ hi) (second : lo ≤ b.f ∧ b.f ≤ hi) : lo ≤ interpolate a b q ∧ interpolate a b q ≤ hi := by
  have least : (lo : Int) * (b.q - a.q : Nat) ≤ (a.f : Int) * (b.q - a.q) + ((b.f : Int) - a.f) * (q - a.q) := by
    rw [Nat.cast_sub (by omega)]
    nlinarith [mul_nonneg (show (0 : Int) ≤ a.f - lo by omega) (show (0 : Int) ≤ b.q - q by omega),
      mul_nonneg (show (0 : Int) ≤ b.f - lo by omega) (show (0 : Int) ≤ q - a.q by omega)]
  have most : (a.f : Int) * (b.q - a.q) + ((b.f : Int) - a.f) * (q - a.q) ≤ (hi : Int) * (b.q - a.q : Nat) := by
    rw [Nat.cast_sub (by omega)]
    nlinarith [mul_nonneg (show (0 : Int) ≤ hi - a.f by omega) (show (0 : Int) ≤ b.q - q by omega),
      mul_nonneg (show (0 : Int) ≤ hi - b.f by omega) (show (0 : Int) ≤ q - a.q by omega)]
  obtain ⟨lower, upper⟩ := roundHalfUp_between (by omega) least most
  unfold interpolate
  omega

/-- What R66 says of the factor of a curve with rising flow rates. -/
theorem meterFactor_spec (l : List CurvePoint) (a : CurvePoint) (q : Nat)
    (rising : ((a :: l).map CurvePoint.q).Pairwise (· < ·)) : ∃ f, meterFactor (a :: l) q = some f ∧
      (q ≤ a.q → f = a.f) ∧ (((a :: l).getLast?.map CurvePoint.q).getD 0 ≤ q →
        some f = (a :: l).getLast?.map CurvePoint.f) ∧
      (∀ p ∈ a :: l, p.q = q → f = p.f) ∧
      (∀ lo hi : Nat, (∀ p ∈ a :: l, lo ≤ p.f ∧ p.f ≤ hi) → lo ≤ f ∧ f ≤ hi) := by
  induction l generalizing a with
  | nil =>
    refine ⟨a.f, rfl, fun _ => rfl, fun _ => rfl, fun p member _ => ?_, fun lo hi within => within a (by simp)⟩
    rw [List.mem_singleton.1 member]
  | cons b l ih =>
    rw [List.map_cons, List.pairwise_cons] at rising
    obtain ⟨first, rest⟩ := rising
    have step : a.q < b.q := first _ (by simp)
    have later : ∀ p ∈ b :: l, a.q < p.q := fun p member => first _ (List.mem_map_of_mem member)
    have last : ∀ p, (a :: b :: l).getLast? = some p → p ∈ b :: l := fun p isLast => by
      rw [List.getLast?_cons_cons] at isLast
      exact List.mem_of_getLast? isLast
    obtain ⟨final, isFinal⟩ : ∃ p, (a :: b :: l).getLast? = some p := ⟨_, List.getLast?_eq_some_getLast (by simp)⟩
    obtain ⟨f, factor, atFirst, atLast, inner, bounds⟩ := ih b rest
    have lastAbove : b.q ≤ final.q := by
      rcases List.mem_cons.1 (last final isFinal) with rfl | member
      · exact Nat.le_refl _
      · rw [List.map_cons, List.pairwise_cons] at rest
        exact Nat.le_of_lt (rest.1 _ (List.mem_map_of_mem member))
    rw [isFinal]
    simp only [Option.map_some, Option.getD_some]
    rw [meterFactor]
    split_ifs with low between
    · refine ⟨a.f, rfl, fun _ => rfl, fun beyond => ?_, fun p member same => ?_, fun lo hi within => within a (by simp)⟩
      · omega
      · rcases List.mem_cons.1 member with rfl | member
        · rfl
        · have := later p member
          omega
    · refine ⟨_, rfl, fun h => absurd h low, fun beyond => ?_, fun p member same => ?_, fun lo hi within => ?_⟩
      · omega
      · rcases List.mem_cons.1 member with rfl | member
        · omega
        · rcases List.mem_cons.1 member with rfl | member
          · omega
          · rw [List.map_cons, List.pairwise_cons] at rest
            have := rest.1 _ (List.mem_map_of_mem member)
            omega
      · exact interpolate_between (by omega) between (within a (by simp)) (within b (by simp))
    · refine ⟨f, factor, fun h => absurd h low, fun beyond => ?_, fun p member same => ?_, fun lo hi within =>
        bounds lo hi fun p member => within p (List.mem_cons_of_mem _ member)⟩
      · rw [List.getLast?_cons_cons] at isFinal
        rw [isFinal] at atLast
        exact atLast beyond
      · rcases List.mem_cons.1 member with rfl | member
        · omega
        · exact inner p member same

/-! ### The correction factor (R75) -/

/-- K5 over the whole range of the product of α and the temperature difference. -/
theorem correction_of_product {u : Int} (least : -120000000 ≤ u) (most : u ≤ 110000000) :
    89968 ≤ (roundHalfUp (1000000000 - u + roundHalfUp (4 * u * u) 5000000000) 10000).toNat ∧
      (roundHalfUp (1000000000 - u + roundHalfUp (4 * u * u) 5000000000) 10000).toNat ≤ 113152 := by
  have tangent : 2 * 110000000 * u - 110000000 * 110000000 ≤ u * u := by nlinarith [sq_nonneg (u - 110000000)]
  have chord : u * u ≤ 120000000 * 110000000 - 10000000 * u := by
    nlinarith [mul_nonneg (show 0 ≤ u + 120000000 by omega) (show 0 ≤ 110000000 - u by omega)]
  have square : 4 * u * u = 4 * (u * u) := by ring
  rw [square]
  generalize u * u = w at tangent chord
  unfold roundHalfUp
  omega

/-- Settles O27: the factor by induction on the curve, and K5 between the tangent and the chord of its square term. -/
theorem factorBounds : Obligations.FactorBounds := by
  refine ⟨fun a l q rising => meterFactor_spec l a q rising, fun t tRef alpha least most reference within => ?_⟩
  refine correction_of_product (u := alpha * (t - tRef)) ?_ ?_
  · rcases reference with rfl | rfl <;> push_cast <;> nlinarith
  · rcases reference with rfl | rfl <;> push_cast <;> nlinarith

/-! ### The preset (R88) -/

/-- Settles O37: the least term decides, and the quota is named when it is that term. -/
theorem presetRule_spec : Obligations.PresetRule := by
  intro requested capacity bayMin bayMax quota
  unfold presetRule presetTerms
  cases quota with
  | none =>
    refine ⟨fun n taken => ?_, fun e refused => ?_, nofun⟩
    · dsimp only at taken
      split_ifs at taken with h
      obtain rfl := Except.ok.inj taken
      simp only [reduceCtorEq, false_implies, implies_true, true_and, or_false]
      omega
    · dsimp only at refused
      split_ifs at refused with h
      obtain rfl := Except.error.inj refused
      simp
      omega
  | some q =>
    refine ⟨fun n taken => ?_, fun e refused => ?_, fun p same negative => ?_⟩
    · dsimp only at taken
      split_ifs at taken with h
      obtain rfl := Except.ok.inj taken
      simp only [Option.some.injEq, forall_eq']
      omega
    · dsimp only at refused
      split_ifs at refused with h least
      · obtain rfl := Except.error.inj refused
        simp
        omega
      · obtain rfl := Except.error.inj refused
        simp
        omega
    · obtain rfl := Option.some.inj same
      dsimp only
      rw [if_pos (by omega), if_pos (by omega)]

end Sys2Proof.Machine
end

section
/-! SUPPORT and PROOFS. A fault under the response REPORT; the temperature samples and their timers (R68 to R71, R75). -/

namespace Sys2Proof.Machine

section
variable (s : State)

/-! ### A fault that is only reported (R39) -/

theorem State.reportFault_report (c : FaultClass) (k : Option (Fin 4)) (x : Subject) (drill : Bool) :
    s.reportFault c k x drill .report = s.recorded c k x .report drill := by
  rw [reportFault_eq, recorded, struck_eq]
  rfl

/-- R108 speaks of the two classes of the meter inputs alone. -/
theorem State.flagMeter_of_other {c : FaultClass} (notPulse : c ≠ .meterPulse) (notReverse : c ≠ .meterReverse)
    (k : Option (Fin 4)) : s.flagMeter c k = s := by
  unfold flagMeter
  split
  · exact absurd rfl notPulse
  · exact absurd rfl notReverse
  · rfl

/-- A fault under REPORT is entered and announced, and that is all. -/
theorem State.raiseFault_of_report {c : FaultClass} (notPulse : c ≠ .meterPulse) (notReverse : c ≠ .meterReverse)
    {action : Option FailureAction} (mode : s.response c action = .report) (k : Option (Fin 4)) (x : Subject)
    (drill : Bool) : s.raiseFault c k x drill action = s.recorded c k x .report drill := by
  rw [raiseFault, mode, flagMeter_of_other s notPulse notReverse]
  exact s.reportFault_report c k x drill

theorem State.response_of_report {c : FaultClass} (mode : (s.policy c).mode = .report) (action : Option FailureAction) :
    s.response c action = .report := by
  simp only [response, mode]

/-! ### Samples (R68, R69, R75) -/

theorem clampTemp_eq (t : Int) : clampTemp t = max (-4000) (min 7000 t) := by
  unfold clampTemp
  split_ifs <;> omega

/-- A sample is clamped when it lies outside the range. -/
theorem clamped_ne (t : Int) : (max (-4000) (min 7000 t) != t) = decide (t < -4000 ∨ 7000 < t) := by
  rw [Bool.eq_iff_iff, bne_iff_ne, decide_eq_true_iff]
  omega

/-- A TEMP record from a temperature transmitter of the directory, its quality 0 or 1. -/
theorem exec_temp_of_holds {s : State} (live : s.live = true) {a : Byte} {i : Fin 12} (station : s.holds a i .tempXmtr)
    (t : BitVec 16) {q : Byte} (quality : q.toNat ≤ 1) :
    exec (.temp a t q) s = .next (s.copied (s.takeTemp i t (q == 1)) i a .tempXmtr (tempRecord t q)) := by
  have offered := s.offer_of_holds station (tempRecord t q) fun i => s.takeTemp i t (q == 1)
  rw [← offered]
  have accepted : decide (q.toNat ≤ 1) = true := decide_eq_true quality
  rw [← accepted]
  exact whenPowered_of_live s live fun u => u.tempFrom a t q

theorem State.takeTemp_of_named {i : Fin 12} {k : Fin 4} (arm : (s.device i).arm = some k)
    (named : (s.armEntry k).station = some i) (t : BitVec 16) (good : Bool) :
    s.takeTemp i t good = if good then s.goodSample k (int16 t) else s.badSample k := by
  have takes : s.sampleArm i = some k := by simp only [sampleArm, arm, if_pos named]
  rw [takeTemp, takes]

/-- R68: a sample of a station that its arm does not name is not taken. -/
theorem State.takeTemp_of_unnamed {i : Fin 12} {k : Fin 4} (arm : (s.device i).arm = some k)
    (unnamed : (s.armEntry k).station ≠ some i) (t : BitVec 16) (good : Bool) : s.takeTemp i t good = s := by
  have takes : s.sampleArm i = none := by simp only [sampleArm, arm, if_neg unnamed]
  rw [takeTemp, takes]

/-- The volume record of an arm after a GOOD sample. -/
def State.sampled (s : State) (k : Fin 4) (t : Int) : VolArm :=
  { s.vol k with
    temp := ⟨.fresh, max (-4000) (min 7000 t), decide (t < -4000 ∨ 7000 < t), s.now, !(s.meter k).running⟩
    staleTimer := some (s.now + 10000), lostTimer := none
    clamps := if t < -4000 ∨ 7000 < t then min 65535 ((s.vol k).clamps + 1) else (s.vol k).clamps
    overruns := if (s.vol k).temp.state ≠ .absent ∧ (s.vol k).temp.processed = false
      then min 65535 ((s.vol k).overruns + 1) else (s.vol k).overruns }

theorem State.goodSample_eq (k : Fin 4) (t : Int) : s.goodSample k t =
    (s.setVol k (s.sampled k t)).updBatch k fun b =>
      { b with k5 := some (correction (s.sampled k t).temp.t b.tRef b.alpha) } := by
  unfold goodSample sampled
  simp only [clampTemp_eq, clamped_ne, decide_eq_true_eq, Bool.not_eq_true', bump]

end

/-- Settles O28: a BAD sample counts, a GOOD one writes the arm's volume record and its batch's K5. -/
theorem tempSample : Obligations.TempSample := by
  intro s a t i k live station arm
  refine ⟨fun named => ⟨s.badSample k, ?_, rfl, fun j other => ?_, ?_⟩, fun named => ⟨s.goodSample k t.toInt, ?_, rfl,
    fun j other => ⟨?_, ?_⟩, ?_, ?_⟩, fun unnamed q quality => ?_⟩
  · rw [exec_temp_of_holds live station t (by decide), s.takeTemp_of_named arm named, if_neg (by decide)]
  · exact (s.vol_setVol k j _).trans (if_neg other)
  · exact (s.vol_setVol k k _).trans (if_pos rfl)
  · rw [exec_temp_of_holds live station t (by decide), s.takeTemp_of_named arm named, if_pos (by decide), int16]
  · rw [State.goodSample_eq]
    exact (s.vol_setVol k j _).trans (if_neg other)
  · rw [State.goodSample_eq, State.arm_updBatch, if_neg other]
    rfl
  · rw [State.goodSample_eq]
    exact (s.vol_setVol k k _).trans (if_pos rfl)
  · have vol : (s.goodSample k t.toInt).vol k = s.sampled k t.toInt := by
      rw [State.goodSample_eq]
      exact (s.vol_setVol k k _).trans (if_pos rfl)
    rw [vol, State.goodSample_eq, State.arm_updBatch, if_pos rfl]
    rfl
  · rw [exec_temp_of_holds live station t quality, s.takeTemp_of_unnamed arm unnamed]

/-! ### The timers (R70, R71) -/

theorem exec_stalenessExpiry_of_live {s : State} (live : s.live = true) (k : Fin 4) :
    exec (.stalenessExpiry k) s = .next (if (s.vol k).staleTimer.isSome then s.goStale k else s) :=
  whenPowered_of_live s live fun t => if (t.vol k).staleTimer.isSome then t.goStale k else t

theorem exec_lostTimerExpiry_of_live {s : State} (live : s.live = true) (k : Fin 4) : exec (.lostTimerExpiry k) s =
    .next (if (s.vol k).lostTimer.isSome then (s.setVol k { s.vol k with lostTimer := none }).armFault .tempLost k
      else s) :=
  whenPowered_of_live s live fun t =>
    if (t.vol k).lostTimer.isSome then (t.setVol k { t.vol k with lostTimer := none }).armFault .tempLost k else t

/-- Settles O29: each expiry acts while its timer runs, the lost timer's by entering TEMP_LOST. -/
theorem tempTimers : Obligations.TempTimers := by
  intro s k live
  refine ⟨fun running => ⟨s.goStale k, ?_, ?_, fun j other => ?_, ?_, ?_⟩, fun stopped => ?_, fun running mode => ?_,
    fun stopped => ?_⟩
  · rw [exec_stalenessExpiry_of_live live, if_pos running]
  · rw [State.goStale, State.raise_eq_raised]
    rfl
  · rw [State.goStale, State.raise_eq_raised]
    exact (s.vol_setVol k j _).trans (if_neg other)
  · rw [State.goStale, State.raise_eq_raised]
    exact (s.vol_setVol k k _).trans (if_pos rfl)
  · rw [State.goStale, State.raise_eq_raised, State.raise_eq_raised]
    rfl
  · rw [exec_stalenessExpiry_of_live live, if_neg (by simp [stopped])]
  · generalize restarted : s.setVol k { s.vol k with lostTimer := none } = t
    have same : t = { s with volumes := t.volumes } := by rw [← restarted]; rfl
    have faults (c : FaultClass) : t.fault c = s.fault c := by rw [same]; rfl
    have lost : (t.recorded .tempLost (some k) .none .report false).fault .tempLost =
        t.struck .tempLost (some k) .report false := by rw [State.fault_recorded, if_pos rfl]
    refine ⟨t.recorded .tempLost (some k) .none .report false, ?_, ?_, fun j other => ?_, ?_, ?_, fun c other => ?_, ?_,
      ?_, ?_⟩
    · rw [exec_lostTimerExpiry_of_live live, if_pos running, restarted, State.armFault, State.raiseFault_of_report]
      · simp
      · simp
      · exact State.response_of_report t (by rw [same]; exact mode) none
    · rw [same]
      rfl
    · change t.vol j = s.vol j
      rw [← restarted, State.vol_setVol, if_neg other]
    · change t.vol k = _
      rw [← restarted, State.vol_setVol, if_pos rfl]
    · rw [same]
      rfl
    · rw [State.fault_recorded, if_neg other, faults]
    · rw [lost, State.struck, faults]
    · rw [lost, State.struck, faults]
      rfl
    · rw [lost, State.struck, faults]
  · rw [exec_lostTimerExpiry_of_live live, if_neg (by simp [stopped])]

end Sys2Proof.Machine
end

section
/-! SUPPORT and PROOFS. What an arm's change of state writes; the stop and the suspension of a batch (R86, R98 to R103). -/

namespace Sys2Proof.Machine

/-! ### An arm's change of state (R22, R34, R84) -/

section
variable (s : State)

/-- The deadman settles alone (R34). -/
theorem State.settleDeadman_eq (was : Bool) :
    s.settleDeadman was = { s with safety := { s.safety with deadman := (s.settleDeadman was).safety.deadman } } := by
  unfold settleDeadman
  split_ifs <;> rfl

/-- An arm that flowed moves: the timer stops when it runs and no arm flows any more (R34). -/
theorem State.settleDeadman_of_flowing : (s.settleDeadman true).safety.deadman =
    if s.safety.deadman.timer = none ∨ s.anyFlowing = true then s.safety.deadman
    else { s.safety.deadman with timer := none, warned := false, warn := false } := by
  unfold settleDeadman
  cases timer : s.safety.deadman.timer <;> cases s.anyFlowing <;> simp [setDeadman]

/-- The deadman after arm `k` moved to a state. -/
def State.deadmanAfter (s : State) (k : Fin 4) (st : ArmState) : Deadman :=
  ((s.setArm k { s.arm k with state := st }).settleDeadman s.anyFlowing).safety.deadman

/-- The arm, the deadman and the idle timer move; a move to another state than IDLE stops the idle timer (R22). -/
theorem State.moveArm_of_active {k : Fin 4} {st : ArmState} (active : st ≠ .idle) : s.moveArm k st =
    { s.setArm k { s.arm k with state := st } with
      session := { s.session with idleTimer := none }, safety := { s.safety with deadman := s.deadmanAfter k st } } := by
  have moving (t : State) (arms : t.arms = (s.setArm k { s.arm k with state := st }).arms) : t.allIdle = false := by
    refine Bool.eq_false_iff.2 fun idle => active ?_
    have still := t.allIdle_iff.1 idle k
    rwa [arm_congr arms, arm_setArm, if_pos rfl] at still
  have stops (t : State) (arms : t.arms = (s.setArm k { s.arm k with state := st }).arms) : t.idleSettled = none := by
    rw [idleSettled, moving t arms]
    simp
  rw [moveArm, settleIdle_eq, stops _ (by simp), settleDeadman_eq]
  rfl

/-- An arm is written, then moves. -/
theorem State.rearm_of_active (k : Fin 4) (a : Arm) {st : ArmState} (active : st ≠ .idle) :
    (s.setArm k a).moveArm k st = { s.setArm k { a with state := st } with
      session := { s.session with idleTimer := none }
      safety := { s.safety with deadman := (s.setArm k a).deadmanAfter k st } } := by
  rw [moveArm_of_active _ active, arm_setArm, if_pos rfl]
  exact congrArg (fun t : State => { t with
    session := { s.session with idleTimer := none }
    safety := { s.safety with deadman := (s.setArm k a).deadmanAfter k st } })
    (s.setArm_setArm k a { a with state := st })

/-- An arm that leaves the flow states: the last one to do so stops the deadman timer, if it runs (R34). -/
theorem State.deadmanAfter_of_closing {k : Fin 4} {st : ArmState} (flowing : (s.arm k).state.flowing = true)
    (closed : st.flowing = false) : s.deadmanAfter k st =
      if s.safety.deadman.timer = none ∨ ∃ j, j ≠ k ∧ (s.arm j).state.flowing = true then s.safety.deadman
      else { s.safety.deadman with timer := none, warned := false, warn := false } := by
  have was : s.anyFlowing = true := s.anyFlowing_iff.2 ⟨k, flowing⟩
  have others : (s.setArm k { s.arm k with state := st }).anyFlowing = true ↔
      ∃ j, j ≠ k ∧ (s.arm j).state.flowing = true := by
    rw [State.anyFlowing_iff]
    refine exists_congr fun j => ?_
    rw [arm_setArm]
    by_cases same : j = k <;> simp [same, closed]
  rw [deadmanAfter, was, settleDeadman_of_flowing]
  simp only [others]
  rfl

/-- A move that leaves whether the arm flows leaves the deadman (R34). -/
theorem State.deadmanAfter_of_same {k : Fin 4} {st : ArmState} (same : st.flowing = (s.arm k).state.flowing) :
    s.deadmanAfter k st = s.safety.deadman := by
  have any : (s.setArm k { s.arm k with state := st }).anyFlowing = s.anyFlowing := s.anyFlowing_setArm k _ same
  rw [deadmanAfter, settleDeadman, any]
  cases s.anyFlowing <;> rfl

/-- The first arm to flow starts the timer afresh (R34). -/
theorem State.deadmanAfter_of_first {k : Fin 4} {st : ArmState} (flows : st.flowing = true)
    (noneFlowing : s.anyFlowing = false) : (s.deadmanAfter k st).timer = s.deadmanRestart := by
  have first := s.moveArm_deadman_of_first k st flows noneFlowing
  rwa [moveArm_of_active _ fun idle => by simp [idle, ArmState.flowing] at flows] at first

/-- A return to READY with its reservation removed. -/
theorem State.backToReady_eq (k : Fin 4) (preset : Nat) : s.backToReady k preset =
    { s.setArm k { s.arm k with state := .ready } with
      session := { s.session with
        record := s.session.record.map fun r => { r with reserved := r.reserved - preset }, idleTimer := none }
      safety := { s.safety with deadman := s.deadmanAfter k .ready } } := by
  rw [backToReady, moveArm_of_active _ (by simp)]
  rfl

/-! ### The suspension (R98, R100) -/

/-- The arm as a suspension prepares it, before it moves to SUSPENDED. -/
def State.suspending (s : State) (k : Fin 4) (c : SuspendCause) : Arm :=
  { s.arm k with
    stopTimer := some (s.now + (s.armEntry k).stopTimeout * 1000), zeroCloses := 0
    batch := (s.arm k).batch.map fun b => { b with cause := some c } }

theorem State.suspend_moves {k : Fin 4} (flowing : (s.arm k).state.flowing = true) (c : SuspendCause) :
    s.suspend k c =
      let t := (s.setArm k (s.suspending k c)).moveArm k .suspended
      match (s.arm k).batch with
      | some b => t.raise (.armSuspended k c (b.delivered / 1000) (b.remaining / 1000))
      | none => t := s.suspend_eq flowing c

variable {s} in
/-- A flowing arm is suspended: the arm, the idle timer, the deadman and the event queue alone change. -/
theorem State.suspend_suspends {k : Fin 4} (flowing : (s.arm k).state.flowing = true) (c : SuspendCause) :
    s.suspends (s.suspend k c) k c := by
  constructor
  case arm => rw [arm_suspend, if_pos ⟨rfl, flowing⟩]
  case valve => rw [valve, arm_suspend, if_pos ⟨rfl, flowing⟩]; rfl
  case others =>
    intro j other
    rw [arm_suspend, if_neg fun h => other h.1]
  case event =>
    intro b batch
    rw [s.suspend_moves flowing, batch]
    dsimp only
    rw [moveArm_of_active _ (by simp), raise_eq_raised, raise_eq_raised]
    rfl
  case stands =>
    rw [s.suspend_moves flowing]
    dsimp only
    rw [moveArm_of_active _ (by simp)]
    split
    · rw [raise_eq_raised]
      rfl
    · rfl
  case deadman =>
    have others (j : Fin 4) : j ≠ k ∧ ((s.setArm k (s.suspending k c)).arm j).state.flowing = true ↔
        j ≠ k ∧ (s.arm j).state.flowing = true := by
      refine and_congr_right fun other => ?_
      rw [arm_setArm, if_neg other]
    have after := deadmanAfter_of_closing (s.setArm k (s.suspending k c)) (k := k) (st := .suspended)
      (by rw [arm_setArm, if_pos rfl]; exact flowing) rfl
    simp only [others] at after
    refine Eq.trans ?_ after
    rw [s.suspend_moves flowing]
    dsimp only
    rw [moveArm_of_active _ (by simp)]
    split
    · rw [raise_eq_raised]
    · rfl

theorem State.suspendOp_of_flowing {k : Fin 4} (flowing : (s.arm k).state.flowing = true) :
    s.suspendOp k = (s.suspend k .request, .accepted) := by
  unfold suspendOp
  cases state : (s.arm k).state <;> simp [state, ArmState.flowing] at flowing ⊢

theorem State.suspendOp_of_suspended {k : Fin 4} (suspended : (s.arm k).state = .suspended) :
    s.suspendOp k = (s, .accepted) := by
  rw [suspendOp, suspended]

theorem State.suspendOp_of_other {k : Fin 4} (still : (s.arm k).state.flowing = false)
    (other : (s.arm k).state ≠ .suspended) : s.suspendOp k = (s, .notNow) := by
  unfold suspendOp
  cases state : (s.arm k).state <;> simp [state, ArmState.flowing] at still other ⊢

/-! ### The stop (R102, R103, R107) -/

theorem State.stop_of_idle {k : Fin 4} (idle : (s.arm k).state = .idle) : s.stop k = (s, .notNow) := by
  rw [stop, idle]

theorem State.stop_of_nonIdle {k : Fin 4} (nonIdle : (s.arm k).state ≠ .idle) : s.stop k = ((s.stop k).1, .accepted) := by
  unfold stop
  cases state : (s.arm k).state with
  | idle => exact absurd state nonIdle
  | waitInjector => cases (s.arm k).batch <;> rfl
  | ready => rfl
  | lowStart => rfl
  | full => rfl
  | slowdown => rfl
  | suspended => rfl
  | stopping => rfl

/-- A stop acts on the arm by its state. -/
theorem State.stop_stopsBatch (k : Fin 4) : s.stopsBatch (s.stop k).1 k := by
  have stops (running : (s.stop k).1 = s.enterStopping k .stopped) : (∀ j, j ≠ k → (s.stop k).1.arm j = s.arm j) ∧
      (s.stop k).1.tables = s.tables ∧ (s.stop k).1.custody = s.custody ∧
      (s.stop k).1.arm k = s.stopped k .stopped ∧ (s.stop k).1.session.record = s.session.record := by
    rw [running]
    exact ⟨fun j other => by rw [arm_enterStopping, if_neg other], by simp, by simp,
      by rw [arm_enterStopping, if_pos rfl], by simp⟩
  unfold stopsBatch
  cases state : (s.arm k).state with
  | idle => simp [s.stop_of_idle state]
  | stopping => simp [stop, state]
  | lowStart =>
    exact stops (by rw [stop, state])
  | full => exact stops (by rw [stop, state])
  | slowdown => exact stops (by rw [stop, state])
  | suspended => exact stops (by rw [stop, state])
  | ready =>
    have cancels : (s.stop k).1 = s.cancel k := by rw [stop, state]
    rw [cancels]
    refine ⟨fun j other => by rw [arm_cancel, if_neg other], by simp, by simp, by rw [arm_cancel, if_pos rfl],
      by rw [arm_cancel, if_pos rfl], fun b batch => ?_⟩
    rw [cancel_eq, uncommitted, batch, state, (moveArm_frame _ _ _).2.2.2.2.2.1]
    rfl
  | waitInjector =>
    cases batch : (s.arm k).batch with
    | none =>
      have goes : (s.stop k).1 = (s.unwait k).moveArm k .ready := by rw [stop, state, batch]
      rw [goes, moveArm_of_active _ (by simp)]
      refine ⟨fun j other => ?_, rfl, rfl, ?_, by simp [unwait], fun b held => by cases held⟩
      · exact ((s.unwait k).arm_setArm k j _).trans (if_neg other)
      · exact ((s.unwait k).arm_setArm k k _).trans (if_pos rfl)
    | some x =>
      have goes : (s.stop k).1 = (s.unwait k).backToReady k x.preset := by rw [stop, state, batch]
      rw [goes, backToReady_eq]
      refine ⟨fun j other => ?_, rfl, rfl, ?_, by simp [unwait], fun b held => by cases held; rfl⟩
      · exact ((s.unwait k).arm_setArm k j _).trans (if_neg other)
      · exact ((s.unwait k).arm_setArm k k _).trans (if_pos rfl)

end

/-! ### The commands -/

/-- BATCH_STOP at a part that hears it: the operation's answer in the one reply. -/
theorem exec_batchStop_of_hearing {s : State} (hearing : s.hearing = true) (tag b : Byte) :
    exec (.batchStop tag [b]) s = .next ((s.linkFrame.armRequest [b] s.linkFrame.stop).1.reply 0x09 tag
      (s.linkFrame.armRequest [b] s.linkFrame.stop).2) :=
  whenPowered_request_of_hearing s hearing 0x09 tag fun u => u.armRequest [b] u.stop

theorem exec_batchSuspend_of_hearing {s : State} (hearing : s.hearing = true) (tag b : Byte) :
    exec (.batchSuspend tag [b]) s = .next ((s.linkFrame.armRequest [b] s.linkFrame.suspendOp).1.reply 0x0A tag
      (s.linkFrame.armRequest [b] s.linkFrame.suspendOp).2) :=
  whenPowered_request_of_hearing s hearing 0x0A tag fun u => u.armRequest [b] u.suspendOp

/-- STOP from a keypad of the directory: the operation told to it, and the record copied upward. -/
theorem exec_keyStop_of_holds {s : State} (live : s.live = true) {a : Byte} {i : Fin 12} (station : s.holds a i .keypad)
    (arm : Byte) : exec (.keyStop a arm) s =
      .next (s.copied (s.keyOp a arm .stop s.stop) i a .keypad (keyRecord .stop arm 0 0 0 0)) :=
  (whenPowered_of_live s live fun t => t.keyFrom a arm .stop [] (t.keyStop a arm)).trans
    (congrArg _ (s.keyFrom_of_holds station arm .stop _))

theorem exec_keySuspend_of_holds {s : State} (live : s.live = true) {a : Byte} {i : Fin 12}
    (station : s.holds a i .keypad) (arm : Byte) : exec (.keySuspend a arm) s =
      .next (s.copied (s.keyOp a arm .suspend s.suspendOp) i a .keypad (keyRecord .suspend arm 0 0 0 0)) :=
  (whenPowered_of_live s live fun t => t.keyFrom a arm .suspend [] (t.keySuspend a arm)).trans
    (congrArg _ (s.keyFrom_of_holds station arm .suspend _))

/-- Settles O32: both sources hand the arm they name to the one operation of R102. -/
theorem batchStop : Obligations.BatchStop := by
  intro s k live
  refine ⟨fun tag b hearing => ?_, fun a arm i station => ?_⟩
  · rw [exec_batchStop_of_hearing hearing]
    refine ⟨fun outside => ?_, fun named idle => ?_, fun named nonIdle => ⟨(s.linkFrame.stop k).1, ?_,
      s.linkFrame.stop_stopsBatch k⟩⟩
    · rw [State.armRequest_of_le _ outside]
    · rw [State.armRequest_of_eq _ named, State.stop_of_idle _ (by simpa using idle), opAnswer]
    · rw [State.armRequest_of_eq _ named, State.stop_of_nonIdle _ (by simpa using nonIdle), opAnswer]
  · rw [exec_keyStop_of_holds live station]
    refine ⟨fun outside => ?_, fun named idle => ?_, fun named nonIdle => ⟨(s.stop k).1, ?_, s.stop_stopsBatch k⟩⟩
    · rw [State.keyOp_of_le _ _ _ outside, State.tellResult]
    · rw [State.keyOp_of_eq _ _ _ named, s.stop_of_idle idle, State.tellResult]
    · rw [State.keyOp_of_eq _ _ _ named, s.stop_of_nonIdle nonIdle, State.tellResult]

/-- Settles O33: a flowing arm is suspended, a SUSPENDED one stands, any other refuses. -/
theorem batchSuspend : Obligations.BatchSuspend := by
  intro s k live
  refine ⟨fun tag b hearing => ?_, fun a arm i station => ?_⟩
  · rw [exec_batchSuspend_of_hearing hearing]
    refine ⟨fun outside => ?_, fun named => ?_⟩
    · rw [State.armRequest_of_le _ outside]
    · rw [State.armRequest_of_eq _ named]
      refine ⟨fun flowing => ⟨s.linkFrame.suspend k .request, ?_, State.suspend_suspends (by simpa using flowing) _⟩,
        fun suspended => ?_, fun still other => ?_⟩
      · rw [State.suspendOp_of_flowing _ (by simpa using flowing), opAnswer]
      · rw [State.suspendOp_of_suspended _ (by simpa using suspended), opAnswer]
      · rw [State.suspendOp_of_other _ (by simpa using still) (by simpa using other), opAnswer]
  · rw [exec_keySuspend_of_holds live station]
    refine ⟨fun outside => ?_, fun named => ?_⟩
    · rw [State.keyOp_of_le _ _ _ outside, State.tellResult]
    · rw [State.keyOp_of_eq _ _ _ named]
      refine ⟨fun flowing => ⟨s.suspend k .request, ?_, State.suspend_suspends flowing _⟩, fun suspended => ?_,
        fun still other => ?_⟩
      · rw [s.suspendOp_of_flowing flowing, State.tellResult]
      · rw [s.suspendOp_of_suspended suspended, State.tellResult]
      · rw [s.suspendOp_of_other still other, State.tellResult]

end Sys2Proof.Machine
end

section
/-! SUPPORT and PROOFS. The setup of a batch: the order of its checks and the READY batch (R86 to R89). -/

namespace Sys2Proof.Machine

section
variable (s : State)

/-! ### The setup -/

theorem State.setup_of_error {k : Fin 4} {f : SetupFields} {e : BatchReason} (fails : s.setupCheck k f = .error e)
    (source : StartSource) : s.setup k f source = (s, .refused e) := by
  rw [setup, fails]

/-- The state after a setup that passes. -/
def State.setUp (s : State) (k : Fin 4) (f : SetupFields) (source : StartSource) (p : SetupPlan) : State :=
  ((s.setArm k { s.arm k with batch := some (s.newBatch k f source p) }).claim f.compartment k).moveArm k .ready

theorem State.setup_of_ok {k : Fin 4} {f : SetupFields} {p : SetupPlan} (passes : s.setupCheck k f = .ok p)
    (source : StartSource) : s.setup k f source = (s.setUp k f source p, .setUp p.preset (p.preset < f.preset)) := by
  rw [setup, passes, setUp]

theorem State.arm_setUp (k j : Fin 4) (f : SetupFields) (source : StartSource) (p : SetupPlan) :
    (s.setUp k f source p).arm j =
      if j = k then { s.arm k with state := .ready, batch := some (s.newBatch k f source p) } else s.arm j := by
  have claimed (t : State) : (t.claim f.compartment k).arm = t.arm := rfl
  rw [setUp, arm_moveArm, claimed, arm_setArm, arm_setArm, if_pos rfl]
  split_ifs <;> rfl

/-- R89: the batch, the claim and the idle timer; nothing flows, so the deadman stands. -/
theorem State.setUp_setsUp {k : Fin 4} (idle : (s.arm k).state = .idle) (f : SetupFields) (source : StartSource)
    (p : SetupPlan) : s.setsUp (s.setUp k f source p) k f source p := by
  have form : s.setUp k f source p =
      { (s.setArm k { s.arm k with state := .ready, batch := some (s.newBatch k f source p) }) with
        session := { s.session with
          record := s.session.record.map fun r => { r with claims := Vec.set r.claims f.compartment (some k) }
          idleTimer := none } } := by
    generalize batch : some (s.newBatch k f source p) = b
    have still : ((s.claim f.compartment k).setArm k { s.arm k with batch := b }).deadmanAfter k .ready =
        s.safety.deadman := by
      refine deadmanAfter_of_same _ ?_
      rw [arm_setArm, if_pos rfl, idle]
      rfl
    have moved := rearm_of_active (s.claim f.compartment k) k { s.arm k with batch := b } (st := .ready) (by simp)
    rw [still] at moved
    rw [setUp, batch]
    exact moved
  constructor
  case state => rw [arm_setUp, if_pos rfl]
  case batch =>
    rw [arm_setUp, if_pos rfl]
    exact ⟨s.newBatch k f source p, rfl, rfl, rfl, rfl, rfl, rfl, rfl, rfl, rfl, rfl, rfl, rfl, rfl, rfl, rfl, rfl, rfl⟩
  case others =>
    intro j other
    rw [arm_setUp, if_neg other]
  case session => rw [form]
  case stands =>
    rw [form]
    exact ⟨rfl, rfl, rfl, rfl, rfl, rfl, rfl, rfl⟩

/-! ### The checks (R87) -/

theorem State.setupCheck_idle {k : Fin 4} {f : SetupFields} {p : SetupPlan} (passes : s.setupCheck k f = .ok p) :
    (s.arm k).state = .idle := by
  by_contra busy
  rw [setupCheck, if_pos busy] at passes
  cases passes

theorem State.setupCheck_of_busy {k : Fin 4} (busy : (s.arm k).state ≠ .idle) (f : SetupFields) :
    s.setupCheck k f = .error .armBusy := by
  rw [setupCheck, if_pos busy]

theorem State.setupCheck_of_closed {k : Fin 4} (idle : (s.arm k).state = .idle) (closed : s.bayState ≠ .session)
    (f : SetupFields) : s.setupCheck k f = .error .noSession := by
  rw [setupCheck, if_neg (by simp [idle]), if_pos closed]

/-- In an open session the arm's entry, its latch and the session's lines are checked, then the plan is made. -/
theorem State.setupCheck_of_open {k : Fin 4} (idle : (s.arm k).state = .idle) {r : Session}
    (record : s.session.record = some r) (unclosing : r.closing = none) (f : SetupFields) : s.setupCheck k f =
      if (s.armEntry k).enabled = false then .error .armDisabled
      else if s.armLatched k = true then .error .armFaulted
      else if 16 ≤ r.lines.length + (armIxs.filter fun j => j != k && (s.arm j).state != .idle).length
        then .error .batchLimit
      else s.setupPlan k r f := by
  have isOpen : s.bayState = .session := s.bayState_eq_session_iff.2 ⟨r, record, unclosing⟩
  rw [setupCheck, if_neg (by simp [idle]), if_neg (by simp [isOpen]), record]
  simp only [Bool.not_eq_true', otherArms] <;> rfl

theorem onlyIndex_eq_some_iff (b : BitVec 16) (p : Fin 16) :
    onlyIndex b = some p ↔ ∀ q : Fin 16, b.getLsbD q.val = true ↔ q = p := by
  have listed (q : Fin 16) : q ∈ (List.finRange 16).filter (fun i => b.getLsbD i.val) ↔ b.getLsbD q.val = true := by
    simp
  have distinct : ((List.finRange 16).filter fun i => b.getLsbD i.val).Nodup := (List.nodup_finRange 16).filter _
  simp only [← listed]
  unfold onlyIndex
  generalize (List.finRange 16).filter (fun i => b.getLsbD i.val) = l at distinct
  have single : l = [p] ↔ ∀ q, q ∈ l ↔ q = p := by
    rw [← List.perm_singleton, List.perm_ext_iff_of_nodup distinct (List.nodup_singleton p)]
    simp
  rw [← single]
  split
  · simp
  · rename_i other
    exact ⟨nofun, fun only => absurd only (other p)⟩

/-! ### The plan (R87, R88, R5, R18) -/

theorem State.productOf_of_named (k : Fin 4) (r : Session) (p : Fin 16) : s.productOf k r (some p) =
    if (s.armEntry k).products.getLsbD p.val = false ∨ (s.product p).code = 0 then .error .productNotOnArm
    else if (s.permittedProducts r).getLsbD p.val then .ok p else .error .productNotPermitted := by
  simp only [productOf, Option.orElse_some, Bool.or_eq_true, Bool.not_eq_true', beq_iff_eq]
  cases (s.permittedProducts r).getLsbD p.val <;> rfl

/-- R87, check 6: with no product named, the arm's only one. -/
theorem State.productOf_of_only {k : Fin 4} {p : Fin 16}
    (only : ∀ q : Fin 16, (s.armEntry k).products.getLsbD q.val = true ↔ q = p) (r : Session) :
    s.productOf k r none = s.productOf k r (some p) := by
  simp only [productOf, (onlyIndex_eq_some_iff _ p).2 only, Option.orElse_none, Option.orElse_some]

theorem State.productOf_of_several {k : Fin 4}
    (several : ¬∃ p : Fin 16, ∀ q : Fin 16, (s.armEntry k).products.getLsbD q.val = true ↔ q = p) (r : Session) :
    s.productOf k r none = .error .productNotOnArm := by
  have none : onlyIndex (s.armEntry k).products = none :=
    Option.eq_none_iff_forall_ne_some.2 fun p only => several ⟨p, (onlyIndex_eq_some_iff _ p).1 only⟩
  simp only [productOf, none, Option.orElse_none]

theorem State.remainingQuota_server {r : Session} (source : r.source = .server) :
    s.remainingQuota r = if r.quota = 0 then none else some ((r.quota : Int) - r.delivered - r.reserved) := by
  simp only [remainingQuota, quotaLimit, source]

theorem State.remainingQuota_local {r : Session} {i : Nat} (source : r.source = .local_) (permit : r.permit = some i) :
    s.remainingQuota r = if (s.permit i).dailyQuota = 0 then none
      else some (((s.permit i).dailyQuota : Int) - (s.permit i).usedToday - r.reserved) := by
  simp only [remainingQuota, quotaLimit, source, permit]

theorem State.setupPlan_of_unknown {k : Fin 4} {r : Session} {f : SetupFields}
    (unknown : (s.vehicle r.vehicle).compartments[f.compartment.val]? = none) :
    s.setupPlan k r f = .error .compartmentUnknown := by
  rw [setupPlan, compartment, unknown]

/-- Of a known compartment the claim, the product, the compatibility and the preset are checked in this order. -/
theorem State.setupPlan_of_known {k : Fin 4} {r : Session} {f : SetupFields} {c : Compartment}
    (known : (s.vehicle r.vehicle).compartments[f.compartment.val]? = some c) : s.setupPlan k r f =
      if (Vec.get r.claims f.compartment).isSome = true then .error .compartmentClaimed
      else (s.productOf k r f.product).bind fun p =>
        if s.compatible c.last p = false then .error .incompatibleLastProduct
        else (presetRule f.preset c.capacity s.bay.minBatch s.bay.maxBatch (s.remainingQuota r)).bind fun n =>
          .ok ⟨p, n⟩ := by
  rw [setupPlan, compartment, known]
  dsimp only
  cases s.productOf k r f.product with
  | error e => rfl
  | ok p =>
    dsimp only [Except.bind]
    cases s.compatible c.last p <;>
      cases presetRule f.preset c.capacity s.bay.minBatch s.bay.maxBatch (s.remainingQuota r) <;> rfl

end

/-! ### The commands -/

@[simp] theorem State.linkFrame_setupCheck (s : State) (k : Fin 4) (f : SetupFields) :
    s.linkFrame.setupCheck k f = s.setupCheck k f := by
  rw [linkFrame_eq]
  rfl

theorem exec_batchSetup_of_hearing {s : State} (hearing : s.hearing = true) (tag : Byte) {p : List Byte}
    (length : p.length = 7) : exec (.batchSetup tag p) s = .next ((s.linkFrame.setupRequest p).1.reply 0x07 tag
      (s.linkFrame.setupRequest p).2) := request_of_hearing hearing (by simp [length]) _ _ _

/-- SETUP from a keypad of the directory, its preset within its range. -/
theorem exec_keySetup_of_holds {s : State} (live : s.live = true) {a : Byte} {i : Fin 12} (station : s.holds a i .keypad)
    (arm c g : Byte) {v : BitVec 24} (range : v.toNat ≤ 999999) (r : Byte) : exec (.keySetup a arm c g v r) s =
      .next (s.copied (s.keySetup a arm c g v r) i a .keypad (keyRecord .setup arm c g v r)) := by
  have offered := s.offer_of_holds station (keyRecord .setup arm c g v r) fun _ => s.keySetup a arm c g v r
  have accepted : decide (v.toNat ≤ 999999) = true := decide_eq_true range
  rw [← offered, ← accepted]
  exact whenPowered_of_live s live fun t => t.keySetupFrom a arm c g v r

/-- BATCH_SETUP answers by its fields, then by the checks (R86, R87). -/
theorem batchSetup_server (s : State) (tag : Byte) (p : List Byte) (hearing : s.hearing = true) (length : p.length = 7) :
    (setupFields p = none ∨ 4 ≤ field p 0 1 →
      exec (.batchSetup tag p) s = .next (s.linkFrame.reply 0x07 tag (deny .badValue))) ∧
    (∀ f k, setupFields p = some f → finOf 4 (field p 0 1) = some k →
      (∀ e, s.setupCheck k f = .error e → exec (.batchSetup tag p) s =
        .next (s.linkFrame.reply 0x07 tag ⟨.refused, batchReasonCode e, []⟩)) ∧
      (∀ pl, s.setupCheck k f = .ok pl → ∃ u : State, exec (.batchSetup tag p) s = .next (u.reply 0x07 tag
          (accept 0 (be 3 pl.preset ++ be 1 (bit (pl.preset < f.preset))))) ∧
        s.linkFrame.setsUp u k f .server pl)) := by
  rw [exec_batchSetup_of_hearing hearing tag length]
  refine ⟨fun bad => ?_, fun f k fields arm => ⟨fun e fails => ?_, fun pl passes =>
    ⟨s.linkFrame.setUp k f .server pl, ?_, State.setUp_setsUp _ ?_ f .server pl⟩⟩⟩
  · unfold State.setupRequest
    cases fields : setupFields p with
    | none => rfl
    | some f =>
      have outside : 4 ≤ field p 0 1 := bad.resolve_left (by simp [fields])
      simp only [State.armRequest, finOf_of_le outside]
  · simp only [State.setupRequest, fields, State.armRequest, arm,
      State.setup_of_error s.linkFrame ((s.linkFrame_setupCheck k f).trans fails), opAnswer]
  · simp only [State.setupRequest, fields, State.armRequest, arm,
      State.setup_of_ok s.linkFrame ((s.linkFrame_setupCheck k f).trans passes), opAnswer]
  · simpa using s.setupCheck_idle passes

/-- A keypad's SETUP answers by its arm, its fields, then the checks (R86, R87). -/
theorem batchSetup_keypad (s : State) (a arm c g r : Byte) (v : BitVec 24) (i : Fin 12) (live : s.live = true)
    (station : s.holds a i .keypad) (range : v.toNat ≤ 999999) :
    (4 ≤ arm.toNat → exec (.keySetup a arm c g v r) s = .next (s.copied
      ((s.raise (.batchRefused arm.toNat .setup (.keypad a) .armDisabled)).tellKeypad a (.refused arm .armDisabled))
      i a .keypad (keyRecord .setup arm c g v r))) ∧
    (∀ e, arm.toNat < 4 → keySetupFields c g v r = .error e → exec (.keySetup a arm c g v r) s = .next (s.copied
      ((s.raise (.batchRefused arm.toNat .setup (.keypad a) e)).tellKeypad a (.refused arm e))
      i a .keypad (keyRecord .setup arm c g v r))) ∧
    (∀ f k, finOf 4 arm.toNat = some k → keySetupFields c g v r = .ok f →
      (∀ e, s.setupCheck k f = .error e → exec (.keySetup a arm c g v r) s = .next (s.copied
        ((s.raise (.batchRefused arm.toNat .setup (.keypad a) e)).tellKeypad a (.refused arm e))
        i a .keypad (keyRecord .setup arm c g v r))) ∧
      (∀ pl, s.setupCheck k f = .ok pl → ∃ u : State, exec (.keySetup a arm c g v r) s = .next (s.copied
          (u.tellKeypad a (.setupAccepted arm pl.preset (pl.preset < f.preset)))
          i a .keypad (keyRecord .setup arm c g v r)) ∧ s.setsUp u k f (.keypad a) pl)) := by
  rw [exec_keySetup_of_holds live station arm c g range r, State.keySetup]
  refine ⟨fun outside => ?_, fun e inside fails => ?_, fun f k named fields => ⟨fun e fails => ?_, fun pl passes =>
    ⟨s.setUp k f (.keypad a) pl, ?_, s.setUp_setsUp (s.setupCheck_idle passes) f (.keypad a) pl⟩⟩⟩
  · rw [State.keyOp_of_le _ _ _ outside, State.tellResult]
  · rw [State.keyOp_of_eq s a .setup (k := ⟨arm.toNat, inside⟩) rfl, fails, State.tellResult]
  · simp only [State.keyOp, named, fields, s.setup_of_error fails, State.tellResult]
  · simp only [State.keyOp, named, fields, s.setup_of_ok passes, State.tellResult]

/-- Settles O30: both sources hand their fields to the one setup, whose checks are spelled in their order. -/
theorem batchSetup : Obligations.BatchSetup := by
  refine ⟨batchSetup_server, batchSetup_keypad, fun s k f => ⟨fun busy => s.setupCheck_of_busy busy f, fun idle =>
    ⟨fun closed => s.setupCheck_of_closed idle closed f, fun r record unclosing => ?_⟩⟩, fun s k r f => ⟨fun unknown =>
    s.setupPlan_of_unknown unknown, fun c known => ?_⟩, fun s k r => ⟨fun p => ⟨fun off => ?_, fun on known => ?_,
    fun only => s.productOf_of_only only r⟩, fun several => s.productOf_of_several several r, fun source => ⟨?_, ?_⟩,
    fun i source permit => ⟨?_, ?_⟩, fun p => rfl, fun l p sound => ?_⟩⟩
  · rw [s.setupCheck_of_open idle record unclosing]
    refine ⟨fun disabled => ?_, fun enabled latched => ?_, fun enabled unlatched => ⟨fun full => ?_, fun room => ?_⟩⟩
    · rw [if_pos disabled]
    · rw [if_neg (by simp [enabled]), if_pos latched]
    · rw [if_neg (by simp [enabled]), if_neg (by simp [unlatched]), if_pos full]
    · rw [if_neg (by simp [enabled]), if_neg (by simp [unlatched]), if_neg (Nat.not_le.2 room)]
  · rw [s.setupPlan_of_known known]
    refine ⟨fun claimed => ?_, fun free => ⟨fun e fails => ?_, fun p product => ⟨fun bad => ?_, fun good =>
      ⟨fun e fails => ?_, fun n passes => ?_⟩⟩⟩⟩
    · rw [if_pos claimed]
    · rw [if_neg (by simp [free]), fails, Except.bind]
    · rw [if_neg (by simp [free]), product, Except.bind, if_pos bad]
    · rw [if_neg (by simp [free]), product, Except.bind, if_neg (by simp [good]), fails, Except.bind]
    · rw [if_neg (by simp [free]), product, Except.bind, if_neg (by simp [good]), passes, Except.bind]
  · rw [s.productOf_of_named k r p, if_pos off]
  · rw [s.productOf_of_named k r p, if_neg (by simp [on, known])]
  · rw [State.permittedProducts, source]
  · exact s.remainingQuota_server source
  · rw [State.permittedProducts, source, permit]
  · exact s.remainingQuota_local source permit
  · simp only [State.compatible, State.compatVerdict, sound]
    rfl

end Sys2Proof.Machine
end

section
/-! SUPPORT and PROOFS. The evaluation and the grant of a recipe; the start of a batch, which waits or flows (R90 to R92, R115
to R119). -/

namespace Sys2Proof.Machine

section
variable (s : State)

/-! ### The grant (R116) -/

/-- The dose records of arm `k` go on with `more`, the rest of every arm standing. -/
def State.dosedMore (s : State) (k : Fin 4) (more : List DoseRec) (j : Fin 4) : Arm :=
  if j = k then { s.arm k with batch := (s.arm k).batch.map fun b => { b with doses := b.doses ++ more } } else s.arm j

theorem State.dosedMore_nil (k j : Fin 4) : s.dosedMore k [] j = s.arm j := by
  unfold dosedMore
  split_ifs with same
  · subst same
    cases batch : (s.arm j).batch <;> simp [← batch]
  · rfl

variable {s} in
theorem State.dosedMore_append {t : State} {k : Fin 4} {x : List DoseRec} (first : ∀ j, t.arm j = s.dosedMore k x j)
    (y : List DoseRec) (j : Fin 4) : t.dosedMore k y j = s.dosedMore k (x ++ y) j := by
  have own : t.arm k = s.dosedMore k x k := first k
  unfold dosedMore
  rw [own, first]
  unfold dosedMore
  rw [if_pos rfl]
  split_ifs
  · cases (s.arm k).batch <;> simp
  · rfl

theorem State.pick_eq (k : Fin 4) (d : Dose) : (injIxs.find? fun j => s.fit k d j && s.injFree j) = s.pick k d := rfl

theorem State.grantDose_of_some {k : Fin 4} {d : Dose} {j : Fin 6} (picked : s.pick k d = some j) (r : RecipeEntry) :
    State.grantDose k r s d = (s.setInj j { s.inj j with state := .claimedIdle, claimant := some k }).updBatch k fun b =>
      { b with doses := b.doses ++ [s.doseGiven r d j] } := by
  rw [grantDose, pick_eq, picked]
  rfl

theorem State.grantDose_of_none {k : Fin 4} {d : Dose} (unpicked : s.pick k d = none) (r : RecipeEntry) :
    State.grantDose k r s d = s := by
  rw [grantDose, pick_eq, unpicked]

variable {s} in
/-- A picked injector holds the dose's additive, and is FREE. -/
theorem State.pick_spec {k : Fin 4} {d : Dose} {j : Fin 6} (picked : s.pick k d = some j) :
    s.suits k d j = true ∧ (s.inj j).state = .free := by
  have found := List.find?_some picked
  simpa using found

theorem State.code_of_suits {k : Fin 4} {d : Dose} {j : Fin 6} (suits : s.suits k d j = true) :
    (s.injEntry j).code = d.code := by
  simp only [State.suits, State.serves, Bool.and_eq_true, beq_iff_eq] at suits
  exact suits.1.1.1

/-- A grant of one dose leaves what another additive's dose picks. -/
theorem State.pick_grantDose {k : Fin 4} {d x : Dose} (r : RecipeEntry) (differs : x.code ≠ d.code) :
    (State.grantDose k r s d).pick k x = s.pick k x := by
  cases picked : s.pick k d with
  | none => rw [grantDose_of_none s picked]
  | some j =>
    rw [grantDose_of_some s picked]
    have entry (i : Fin 6) : ((s.setInj j { s.inj j with state := .claimedIdle, claimant := some k }).updBatch k fun b =>
        { b with doses := b.doses ++ [s.doseGiven r d j] }).suits k x i = s.suits k x i := rfl
    have inj (i : Fin 6) : ((s.setInj j { s.inj j with state := .claimedIdle, claimant := some k }).updBatch k fun b =>
        { b with doses := b.doses ++ [s.doseGiven r d j] }).inj i =
        if i = j then { s.inj j with state := .claimedIdle, claimant := some k } else s.inj i := s.inj_setInj j i _
    unfold pick
    congr 1
    funext i
    rw [entry, inj]
    split_ifs with same
    · have unsuited : s.suits k x i = false := by
        refine Bool.eq_false_iff.2 fun suits => differs ?_
        rw [← s.code_of_suits suits, same, s.code_of_suits (pick_spec picked).1]
      rw [unsuited]
      rfl
    · rfl

/-- The grant of doses of different additives, each of which picks an injector (R116). -/
theorem State.foldl_grantDose (k : Fin 4) (r : RecipeEntry) (l : List Dose) (s : State) (distinct : (l.map Dose.code).Nodup)
    (all : ∀ d ∈ l, (s.pick k d).isSome = true) : ∃ js : List (Fin 6), l.map (s.pick k) = js.map some ∧
      (∀ j, (l.foldl (grantDose k r) s).arm j = s.dosedMore k (List.zipWith (s.doseGiven r) l js) j) ∧
      ∀ j, (l.foldl (grantDose k r) s).inj j =
        if j ∈ js then { s.inj j with state := .claimedIdle, claimant := some k } else s.inj j := by
  induction l generalizing s with
  | nil =>
    exact ⟨[], rfl, fun j => (s.dosedMore_nil k j).symm, fun j => rfl⟩
  | cons d l ih =>
    obtain ⟨fresh, distinct⟩ := List.nodup_cons.1 distinct
    obtain ⟨i, picked⟩ := Option.isSome_iff_exists.1 (all d (by simp))
    have differs : ∀ x ∈ l, x.code ≠ d.code := fun x listed same => fresh (same ▸ List.mem_map_of_mem listed)
    have kept : ∀ x ∈ l, (grantDose k r s d).pick k x = s.pick k x := fun x listed =>
      s.pick_grantDose r (differs x listed)
    obtain ⟨js, picks, arms, injs⟩ := ih (grantDose k r s d) distinct fun x listed => by
      rw [kept x listed]
      exact all x (List.mem_cons_of_mem _ listed)
    have given : (grantDose k r s d).doseGiven r = s.doseGiven r := by
      rw [grantDose_of_some s picked]
      rfl
    refine ⟨i :: js, ?_, fun j => ?_, fun j => ?_⟩
    · rw [List.map_cons, List.map_cons, picked, ← picks]
      exact congrArg _ (List.map_congr_left fun x listed => (kept x listed).symm)
    · have one (m : Fin 4) : (grantDose k r s d).arm m = s.dosedMore k [s.doseGiven r d i] m := by
        rw [grantDose_of_some s picked, arm_updBatch]
        rfl
      rw [List.foldl_cons, arms, given]
      exact dosedMore_append one _ j
    · have one : (grantDose k r s d).inj j =
          if j = i then { s.inj i with state := .claimedIdle, claimant := some k } else s.inj j := by
        rw [grantDose_of_some s picked]
        exact s.inj_setInj i j _
      rw [List.foldl_cons, injs, one]
      by_cases same : j = i
      · subst same
        simp
      · simp [same]

/-- A grant adds dose records to the arm's batch, whatever the doses name. -/
theorem State.grant_doses (s : State) (k : Fin 4) (recipe : Option (Fin 16)) :
    ∃ more, ∀ j, (s.grant k recipe).arm j = s.dosedMore k more j := by
  unfold grant
  cases recipe with
  | none => exact ⟨[], fun j => (s.dosedMore_nil k j).symm⟩
  | some q =>
    dsimp only
    generalize s.recipe q = r
    generalize r.doses = l
    induction l generalizing s with
    | nil => exact ⟨[], fun j => (s.dosedMore_nil k j).symm⟩
    | cons d l ih =>
      obtain ⟨more, arms⟩ := ih (grantDose k r s d)
      have one : ∃ first, ∀ j, (grantDose k r s d).arm j = s.dosedMore k first j := by
        cases picked : s.pick k d with
        | none => exact ⟨[], fun j => by rw [grantDose_of_none s picked, dosedMore_nil]⟩
        | some i =>
          refine ⟨[s.doseGiven r d i], fun j => ?_⟩
          rw [grantDose_of_some s picked, arm_updBatch]
          rfl
      obtain ⟨first, one⟩ := one
      exact ⟨first ++ more, fun j => by rw [List.foldl_cons, arms, dosedMore_append one]⟩

/-! ### The evaluation (R115) -/

theorem mem_injIxs (j : Fin 6) : j ∈ injIxs := by
  revert j
  decide

theorem State.evaluate_of_empty {k : Fin 4} {q : Fin 16} (empty : (s.recipe q).doses = []) :
    s.evaluate k (some q) = .refused .recipeUnavailable := by
  simp [evaluate, empty]

theorem State.doseRefusal_of_suits {k : Fin 4} {d : Dose} (suits : ∃ j, s.suits k d j = true) :
    s.doseRefusal k d = none := by
  obtain ⟨j, suits⟩ := suits
  have served : s.candidate k d j = true := by
    have fits : (s.candidate k d j && decide (2000 ≤ doseInterval (s.injEntry j).stroke d.rate)) = true := suits
    exact (Bool.and_eq_true _ _ ▸ fits).1
  have anyServed : injIxs.any (s.candidate k d) = true := List.any_eq_true.2 ⟨j, mem_injIxs j, served⟩
  have anyFit : injIxs.any (s.fit k d) = true := List.any_eq_true.2 ⟨j, mem_injIxs j, suits⟩
  simp [doseRefusal, anyServed, anyFit]

theorem State.doseRefusal_of_unserved {k : Fin 4} {d : Dose} (unserved : ∀ j, s.serves k d j = false) :
    s.doseRefusal k d = some .recipeUnavailable := by
  have none : injIxs.any (s.candidate k d) = false := List.any_eq_false.2 fun j _ => by
    have off : s.candidate k d j = false := unserved j
    simp [off]
  simp [doseRefusal, none]

theorem State.doseRefusal_of_unsuited {k : Fin 4} {d : Dose} (served : ∃ j, s.serves k d j = true)
    (unsuited : ∀ j, s.suits k d j = false) : s.doseRefusal k d = some .doseRateInvalid := by
  obtain ⟨j, serves⟩ := served
  have anyServed : injIxs.any (s.candidate k d) = true := List.any_eq_true.2 ⟨j, mem_injIxs j, serves⟩
  have none : injIxs.any (s.fit k d) = false := List.any_eq_false.2 fun j _ => by
    have off : s.fit k d j = false := unsuited j
    simp [off]
  simp [doseRefusal, anyServed, none]

/-- The first dose that fails refuses the recipe. -/
theorem State.evaluate_of_failing {k : Fin 4} {q : Fin 16} {l m : List Dose} {d : Dose} {e : BatchReason}
    (doses : (s.recipe q).doses = l ++ d :: m) (before : ∀ x ∈ l, ∃ j, s.suits k x j = true)
    (fails : s.doseRefusal k d = some e) : s.evaluate k (some q) = .refused e := by
  have first : (s.recipe q).doses.findSome? (s.doseRefusal k) = some e := by
    have clear : l.findSome? (s.doseRefusal k) = none :=
      List.findSome?_eq_none_iff.2 fun x listed => s.doseRefusal_of_suits (before x listed)
    rw [doses, List.findSome?_append, clear, List.findSome?_cons, fails]
    rfl
  have some : (s.recipe q).doses.isEmpty = false := by rw [doses]; simp
  simp only [evaluate, some, first]
  rfl

/-- A recipe whose doses all have a fit injector is granted where each finds a FREE one. -/
theorem State.evaluate_of_suited {k : Fin 4} {q : Fin 16} (doses : (s.recipe q).doses ≠ [])
    (all : ∀ d ∈ (s.recipe q).doses, ∃ j, s.suits k d j = true) : s.evaluate k (some q) =
      if (s.recipe q).doses.all (fun d => (s.pick k d).isSome) then .granted else .wait := by
  have clear : (s.recipe q).doses.findSome? (s.doseRefusal k) = none :=
    List.findSome?_eq_none_iff.2 fun x listed => s.doseRefusal_of_suits (all x listed)
  have some : (s.recipe q).doses.isEmpty = false := by simpa using doses
  have picks (d : Dose) : (injIxs.any fun j => s.fit k d j && s.injFree j) = (s.pick k d).isSome :=
    List.isSome_find?.symm
  simp only [evaluate, some, clear, picks]
  rfl

/-- In a granted recipe every dose picks an injector. -/
theorem State.pick_of_granted {k : Fin 4} {q : Fin 16} (granted : s.evaluate k (some q) = .granted) {d : Dose}
    (listed : d ∈ (s.recipe q).doses) : (s.pick k d).isSome = true := by
  have picks (d : Dose) : (injIxs.any fun j => s.fit k d j && s.injFree j) = (s.pick k d).isSome :=
    List.isSome_find?.symm
  simp only [evaluate, picks] at granted
  split at granted
  · cases granted
  · split at granted
    · cases granted
    · split_ifs at granted with every
      exact List.all_eq_true.1 every d listed

/-! ### The start (R91, R92) -/

theorem State.grant_waiting (k : Fin 4) (recipe : Option (Fin 16)) :
    (s.grant k recipe).additive.waiting = s.additive.waiting := by
  unfold grant
  split
  · refine foldl_frame (p := fun t : State => t.additive.waiting) (fun t d => ?_) _ s
    unfold grantDose
    split <;> rfl
  · rfl

/-- The batch an arm holds begins to flow: the arm is written, moves to LOW_START, and BATCH_STARTED is raised. -/
theorem State.enterFlow_eq {k : Fin 4} {b : Batch} (batch : (s.arm k).batch = some b) : s.enterFlow k =
    ((s.setArm k { s.arm k with batch := some (b.started (Vec.get s.custody.gross k)), noFlow := 0 }).moveArm k
      .lowStart).raise (.batchStarted k b.compartment b.code b.recipe b.preset (Vec.get s.custody.gross k).value) := by
  simp only [enterFlow, batch, updBatch, Option.map_some, setArm_setArm, arm_setArm, if_true]

/-- A granted batch flows (R92, R93): the dose records and the claims of its recipe, then the entry to LOW_START. -/
theorem State.grant_flows {k : Fin 4} {b : Batch} (batch : (s.arm k).batch = some b)
    (granted : s.evaluate k b.recipe = .granted) :
    s.flows ((s.grant k b.recipe).enterFlow k) k b b.source 0 := by
  obtain ⟨more, arms⟩ := s.grant_doses k b.recipe
  obtain ⟨-, now, -, tables, session, safety, meters, volumes, custody, uport, -⟩ := s.grant_frame k b.recipe
  have grantedInj : (∀ q, b.recipe = some q → ((s.recipe q).doses.map Dose.code).Nodup → ∃ js : List (Fin 6),
      (s.recipe q).doses.map (s.pick k) = js.map some ∧
        (∀ j, (s.grant k b.recipe).arm j =
          s.dosedMore k (List.zipWith (s.doseGiven (s.recipe q)) (s.recipe q).doses js) j) ∧
        ∀ j, (s.grant k b.recipe).inj j =
          if j ∈ js then { s.inj j with state := .claimedIdle, claimant := some k } else s.inj j) := by
    intro q recipe distinct
    rw [recipe] at granted ⊢
    exact foldl_grantDose k (s.recipe q) (s.recipe q).doses s distinct fun d listed => s.pick_of_granted granted listed
  have waiting : (s.grant k b.recipe).additive.waiting = s.additive.waiting := s.grant_waiting k b.recipe
  have unclaimed : b.recipe = none → s.grant k b.recipe = s := fun none => by rw [none, grant]
  generalize s.grant k b.recipe = t at *
  have own : (t.arm k).batch = some { b with doses := b.doses ++ more } := by
    rw [arms, dosedMore, if_pos rfl, batch]
    rfl
  have flows : t.enterFlow k = _ :=
    (t.enterFlow_eq own).trans (congrArg (State.raise · _) (rearm_of_active t k _ (by simp)))
  have flowed : (t.enterFlow k).arm k = { t.arm k with
      state := .lowStart, noFlow := 0
      batch := some ({ b with doses := b.doses ++ more }.started (Vec.get t.custody.gross k)) } := by
    rw [flows, arm_raise]
    exact (t.arm_setArm k k _).trans (if_pos rfl)
  have additive : (t.enterFlow k).additive = t.additive := by simp
  constructor
  case state => rw [flowed]
  case valve => rw [valve, flowed]; rfl
  case noFlow => rw [flowed]
  case batch =>
    rw [flowed]
    exact ⟨_, rfl, rfl, rfl, rfl, by rw [← custody]; rfl, rfl, rfl, rfl⟩
  case others =>
    intro j other
    rw [flows, arm_raise]
    refine ((t.arm_setArm k j _).trans (if_neg other)).trans ?_
    rw [arms, dosedMore, if_neg other]
  case session =>
    have same : s.session.record.map (fun r => { r with reserved := r.reserved + 0 }) = s.session.record := by simp
    rw [same, flows, (raise_frame _ _).2.2.2.2.1, session]
  case event =>
    rw [flows, raise_eq_raised, raise_eq_raised, ← uport, ← custody]
    rfl
  case deadman =>
    intro noneFlowing
    have stillNone : (t.setArm k { t.arm k with
        batch := some ({ b with doses := b.doses ++ more }.started (Vec.get t.custody.gross k)), noFlow := 0
        }).anyFlowing = false := by
      refine (anyFlowing_setArm t k _ (by rfl)).trans ?_
      rw [← noneFlowing, Bool.eq_iff_iff, anyFlowing_iff, anyFlowing_iff]
      refine exists_congr fun j => ?_
      rw [arms, dosedMore]
      split_ifs with same
      · rw [same]
      · rfl
    have restart : t.deadmanRestart = s.deadmanRestart := by
      rw [deadmanRestart, deadmanRestart, bay, bay, tables, now]
    rw [flows, (raise_frame _ _).2.2.2.2.2.1, ← restart]
    exact deadmanAfter_of_first _ rfl stillNone
  case unclaimed =>
    intro none
    rw [additive, unclaimed none]
  case granted =>
    intro q recipe distinct
    obtain ⟨js, picks, doses, injs⟩ := grantedInj q recipe distinct
    refine ⟨js, picks, ?_, fun j => ?_⟩
    · have dosed := doses k
      rw [dosedMore, if_pos rfl, batch] at dosed
      rw [flowed]
      have same : some { b with doses := b.doses ++ more } = some { b with
          doses := b.doses ++ List.zipWith (s.doseGiven (s.recipe q)) (s.recipe q).doses js } :=
        own.symm.trans (congrArg Arm.batch dosed)
      exact congrArg (Option.map Batch.doses) same
    · rw [← injs, inj, additive, inj]
  case stands => simp [tables, custody, meters, volumes, safety, waiting]

/-- The batch takes its start source, and its preset is reserved (R19, R91). -/
def State.committed (s : State) (k : Fin 4) (b : Batch) (source : StartSource) : State :=
  (s.updBatch k fun b => { b with source := source }).reserve b.preset

theorem State.arm_committed {k : Fin 4} {b : Batch} (batch : (s.arm k).batch = some b) (source : StartSource)
    (j : Fin 4) : (s.committed k b source).arm j =
      if j = k then { s.arm k with batch := some { b with source := source } } else s.arm j := by
  have arms : (s.committed k b source).arm j = (s.updBatch k fun b => { b with source := source }).arm j := rfl
  rw [arms, arm_updBatch, batch]
  rfl

variable {s} in
/-- A start whose recipe is granted flows, its preset reserved. -/
theorem State.committed_flows {k : Fin 4} {b : Batch} (batch : (s.arm k).batch = some b)
    (granted : s.evaluate k b.recipe = .granted) (source : StartSource) :
    s.flows (((s.committed k b source).grant k b.recipe).enterFlow k) k b source b.preset := by
  have committed : ((s.committed k b source).arm k).batch = some { b with source := source } := by
    rw [s.arm_committed batch, if_pos rfl]
  have flows := (s.committed k b source).grant_flows committed granted
  refine { flows with others := fun j other => ?_, session := ?_, event := ?_, deadman := fun noneFlowing => ?_ }
  · rw [flows.others j other, s.arm_committed batch, if_neg other]
  · rw [flows.session]
    have reserved : (s.committed k b source).session.record.map (fun r => { r with reserved := r.reserved + 0 }) =
        s.session.record.map fun r => { r with reserved := r.reserved + b.preset } := by
      simp only [Nat.add_zero]
      exact Option.map_id'
    rw [reserved]
    rfl
  · rw [flows.event, raise_eq_raised, raise_eq_raised]
    rfl
  · refine flows.deadman ?_
    have same : (s.committed k b source).anyFlowing = (s.updBatch k fun b => { b with source := source }).anyFlowing := rfl
    rw [same]
    exact (anyFlowing_setArm s k _ (by rfl)).trans noneFlowing

variable {s} in
/-- A start whose injectors are busy waits (R91, R117). -/
theorem State.joinWaiting_waits {k : Fin 4} {b : Batch} (ready : (s.arm k).state = .ready)
    (batch : (s.arm k).batch = some b) (source : StartSource) :
    s.waits ((s.committed k b source).joinWaiting k b.recipe) k b source := by
  have commits := s.arm_committed batch source
  generalize joined : (s.committed k b source).withAdditive { s.additive with waiting := s.additive.waiting ++ [k] } = t
  have arms (j : Fin 4) : t.arm j = (s.committed k b source).arm j := by
    rw [← joined]
    rfl
  have waits : (s.committed k b source).joinWaiting k b.recipe =
      (t.moveArm k .waitInjector).raise (.injectorWait k (s.additive.waiting.length + 1) (s.blockers k b.recipe)) := by
    have stood : (t.moveArm k .waitInjector).additive.waiting.length = s.additive.waiting.length + 1 := by
      rw [(moveArm_frame _ _ _).2.2.2.2.2.2.2.2.2.2.1, ← joined]
      exact List.length_append
    rw [← stood, ← joined]
    rfl
  have own : t.arm k = { s.arm k with batch := some { b with source := source } } := by
    rw [arms, commits, if_pos rfl]
  have deadman : t.deadmanAfter k .waitInjector = s.safety.deadman := by
    rw [deadmanAfter_of_same _ (by rw [own]; simp only [ready]; rfl), ← joined]
    rfl
  rw [waits, moveArm_of_active _ (by simp), deadman]
  constructor
  case arm =>
    rw [arm_raise]
    refine ((t.arm_setArm k k _).trans (if_pos rfl)).trans ?_
    rw [own]
  case others =>
    intro j other
    rw [arm_raise]
    refine ((t.arm_setArm k j _).trans (if_neg other)).trans ?_
    rw [arms, commits, if_neg other]
  all_goals
    rw [raise_eq_raised, ← joined]
  case waiting => rfl
  case session => rfl
  case event =>
    rw [raise_eq_raised]
    rfl
  case stands => exact ⟨rfl, rfl, rfl, rfl, rfl, rfl⟩

theorem State.start_of_unready {k : Fin 4} (unready : (s.arm k).state ≠ .ready) (source : StartSource) :
    s.start k source = (s, .notNow) := by
  unfold start
  split
  · exact absurd ‹_› unready
  · rfl

section
variable {s} {k : Fin 4} {x : Batch} (ready : (s.arm k).state = .ready) (batch : (s.arm k).batch = some x)
include ready batch

/-- R90: a start condition, the evaluation, or a full waiting list refuses the start. -/
theorem State.start_of_refusal {e : BatchReason}
    (refusal : s.startRefusal k = some e ∨ s.startRefusal k = none ∧ (s.evaluate k x.recipe = .refused e ∨
      s.evaluate k x.recipe = .wait ∧ 3 ≤ s.additive.waiting.length ∧ e = .recipeUnavailable)) (source : StartSource) :
    s.start k source = (s, .refused e) := by
  rcases refusal with condition | ⟨none, refused | ⟨wait, full, rfl⟩⟩
  · simp only [start, ready, batch, condition]
  · simp only [start, ready, batch, none, refused]
  · simp only [start, ready, batch, none, wait, if_pos full]

theorem State.start_of_wait (none : s.startRefusal k = none) (wait : s.evaluate k x.recipe = .wait)
    (room : s.additive.waiting.length < 3) (source : StartSource) :
    s.start k source = ((s.committed k x source).joinWaiting k x.recipe, .waiting) := by
  simp only [start, ready, batch, none, wait, if_neg (Nat.not_le.2 room), takeStart, if_true, committed]

theorem State.start_of_granted (none : s.startRefusal k = none) (granted : s.evaluate k x.recipe = .granted)
    (source : StartSource) :
    s.start k source = (((s.committed k x source).grant k x.recipe).enterFlow k, .started) := by
  simp only [start, ready, batch, none, granted, takeStart, Bool.false_eq_true, if_false, committed]

end

/-! ### The start conditions (R90) -/

theorem State.startRefusal_of_latched {k : Fin 4} (latched : s.armLatched k = true) :
    s.startRefusal k = some .armFaulted := by
  rw [startRefusal, if_pos latched]

theorem State.startRefusal_of_open {k : Fin 4} (unlatched : s.armLatched k = false) (isOpen : s.permitted = false) :
    s.startRefusal k = some .permissiveOpen := by
  rw [startRefusal, if_neg (by simp [unlatched]), if_pos (by simp [isOpen])]

theorem State.startRefusal_of_permitted {k : Fin 4} (unlatched : s.armLatched k = false) (permitted : s.permitted = true) :
    s.startRefusal k = if (s.vol k).temp.state = .fresh then none else some .tempMissing := by
  rw [startRefusal, if_neg (by simp [unlatched]), if_neg (by simp [permitted])]
  by_cases fresh : (s.vol k).temp.state = .fresh <;> simp [fresh]

end

/-! ### The commands -/

@[simp] theorem State.linkFrame_startRefusal (s : State) (k : Fin 4) : s.linkFrame.startRefusal k = s.startRefusal k := by
  rw [linkFrame_eq]
  rfl

@[simp] theorem State.linkFrame_evaluate (s : State) (k : Fin 4) (recipe : Option (Fin 16)) :
    s.linkFrame.evaluate k recipe = s.evaluate k recipe := by
  rw [linkFrame_eq]
  rfl

@[simp] theorem State.linkFrame_waiting (s : State) : s.linkFrame.additive.waiting = s.additive.waiting := by
  rw [linkFrame_eq]

theorem exec_batchStart_of_hearing {s : State} (hearing : s.hearing = true) (tag b : Byte) :
    exec (.batchStart tag [b]) s = .next
      ((s.linkFrame.armRequest [b] fun k => s.linkFrame.start k .server).1.reply 0x08 tag
        (s.linkFrame.armRequest [b] fun k => s.linkFrame.start k .server).2) :=
  whenPowered_request_of_hearing s hearing 0x08 tag fun u => u.armRequest [b] fun k => u.start k .server

theorem exec_keyStart_of_holds {s : State} (live : s.live = true) {a : Byte} {i : Fin 12} (station : s.holds a i .keypad)
    (arm : Byte) : exec (.keyStart a arm) s = .next
      (s.copied (s.keyOp a arm .start fun k => s.start k (.keypad a)) i a .keypad (keyRecord .start arm 0 0 0 0)) :=
  (whenPowered_of_live s live fun t => t.keyFrom a arm .start [] (t.keyStart a arm)).trans
    (congrArg _ (s.keyFrom_of_holds station arm .start _))

/-- Settles O31: both sources hand the arm to the one start, which refuses, waits or flows; the start conditions and the
evaluation are spelled in their order. -/
theorem batchStart : Obligations.BatchStart := by
  intro s k live
  refine ⟨fun tag b hearing => ?_, fun a arm i station => ?_, s.startRefusal_of_latched, fun unlatched =>
    ⟨fun isOpen => s.startRefusal_of_open unlatched ?_, fun ground overfill estop =>
      s.startRefusal_of_permitted unlatched ?_⟩, rfl, fun q => ⟨s.evaluate_of_empty, fun l d m doses before =>
    ⟨fun unserved => s.evaluate_of_failing doses before (s.doseRefusal_of_unserved unserved), fun served unsuited =>
      s.evaluate_of_failing doses before (s.doseRefusal_of_unsuited served unsuited)⟩, s.evaluate_of_suited⟩⟩
  · rw [exec_batchStart_of_hearing hearing]
    refine ⟨fun outside => ?_, fun named => ?_⟩
    · rw [State.armRequest_of_le _ outside]
    · rw [State.armRequest_of_eq _ named]
      refine ⟨fun unready => ?_, fun x ready batch => ?_⟩
      · rw [State.start_of_unready _ (by simpa using unready), opAnswer]
      · rw [← s.linkFrame_arm] at ready batch
        rw [← s.linkFrame_startRefusal, ← s.linkFrame_evaluate, ← s.linkFrame_waiting]
        refine ⟨fun e refusal => ?_, fun none wait room => ⟨_, ?_, State.joinWaiting_waits ready batch .server⟩,
          fun none granted => ⟨_, ?_, State.committed_flows batch granted .server⟩⟩
        · rw [State.start_of_refusal ready batch refusal, opAnswer]
        · rw [State.start_of_wait ready batch none wait room, opAnswer]
        · rw [State.start_of_granted ready batch none granted, opAnswer]
  · rw [exec_keyStart_of_holds live station]
    refine ⟨fun outside => ?_, fun named => ?_⟩
    · rw [State.keyOp_of_le _ _ _ outside, State.tellResult]
    · rw [State.keyOp_of_eq _ _ _ named]
      refine ⟨fun unready => ?_, fun x ready batch => ⟨fun e refusal => ?_, fun none wait room =>
        ⟨_, ?_, State.joinWaiting_waits ready batch (.keypad a)⟩, fun none granted =>
        ⟨_, ?_, State.committed_flows batch granted (.keypad a)⟩⟩⟩
      · rw [s.start_of_unready unready, State.tellResult]
      · rw [State.start_of_refusal ready batch refusal, State.tellResult]
      · rw [State.start_of_wait ready batch none wait room, State.tellResult]
      · rw [State.start_of_granted ready batch none granted, State.tellResult]
  · rcases isOpen with low | low | low <;> simp [State.permitted, low]
  · simp [State.permitted, ground, overfill, estop]

end Sys2Proof.Machine
end

section
/-! PROOFS. The note requests and the serial form of a note, a table's entry as it is read, and the relays of the server (R140
to R143, R172, R179). -/

namespace Sys2Proof.Machine

/-! ### The serial form (R141) -/

theorem doseBytes_length (d : LineDose) : (doseBytes d).length = 16 := by
  simp [doseBytes]

theorem lineBytes_length (i : Nat) (l : BatchLine) : (lineBytes i l).length = 40 + 16 * l.doses.length := by
  have doses : ((l.doses.map doseBytes).flatten).length = 16 * l.doses.length := by
    induction l.doses with
    | nil => rfl
    | cons d r ih =>
      rw [List.map_cons, List.flatten_cons, List.length_append, ih, doseBytes_length, List.length_cons]
      omega
  simp only [lineBytes, List.length_append, be_length, beFig_length, beIntFig_length, doses]

theorem linesBytes_length (i : Nat) (l : List BatchLine) :
    (linesBytes i l).length = 40 * l.length + 16 * (l.map fun x => x.doses.length).sum := by
  induction l generalizing i with
  | nil => rfl
  | cons x l ih =>
    rw [linesBytes, List.length_append, lineBytes_length, ih, List.length_cons, List.map_cons, List.sum_cons]
    omega

theorem headerBytes_length (n : NoteRec) : (headerBytes n).length = 32 := by
  simp [headerBytes]

theorem noteForm_length (n : NoteRec) :
    (noteForm n).length = 34 + 40 * n.lines.length + 16 * (n.lines.map fun l => l.doses.length).sum := by
  simp only [noteForm, List.length_append, headerBytes_length, linesBytes_length, be_length]
  omega

/-- The segments of a form, put in a row, are what it holds up to the last of them. -/
theorem flatten_segments (l : List Byte) (n : Nat) :
    ((List.range n).map (segment l)).flatten = l.take (192 * n) := by
  induction n with
  | zero => simp
  | succ n ih =>
    rw [List.range_succ, List.map_append, List.flatten_append, ih, Nat.mul_succ, List.take_add]
    simp [segment]

theorem segment_length (l : List Byte) (i : Nat) : (segment l i).length = min 192 (l.length - 192 * i) := by
  simp [segment]

/-- Settles O41: the length is counted field by field; the note check is what follows the body. -/
theorem noteSerialForm : Obligations.NoteSerialForm := by
  intro n
  have length := noteForm_length n
  refine ⟨length, ?_, rfl, ?_, fun i inner => ?_, fun i last => ?_⟩
  · have cut : (noteForm n).length - 2 = (headerBytes n ++ linesBytes 1 n.lines).length := by
      simp only [noteForm, List.length_append, be_length]
      omega
    rw [cut, noteForm, List.drop_left, List.take_left]
  · rw [flatten_segments]
    exact List.take_of_length_le (by rw [segmentCount]; omega)
  · rw [segment_length]
    rw [segmentCount] at inner
    omega
  · rw [segment_length]
    rw [segmentCount] at last
    omega

/-! ### The note requests (R140 to R143) -/

section
variable {s : State}

theorem exec_noteList_of_hearing (hearing : s.hearing = true) (tag : Byte) (reads : List Finding) :
    exec (.noteList tag [] reads) s =
      .next ((s.linkFrame.noteList reads).1.reply 0x0C tag (s.linkFrame.noteList reads).2) :=
  request_of_hearing hearing (by simp) _ _ _

theorem exec_noteRead_of_hearing (hearing : s.hearing = true) (tag : Byte) {p : List Byte} (length : p.length = 5)
    (reads : List Finding) : exec (.noteRead tag p reads) s =
      .next ((s.linkFrame.noteRead p reads).1.reply 0x0D tag (s.linkFrame.noteRead p reads).2) :=
  request_of_hearing hearing (by simp [length]) _ _ _

theorem exec_noteRelease_of_hearing (hearing : s.hearing = true) (tag : Byte) {p : List Byte} (length : p.length = 4)
    (reads : List Finding) : exec (.noteRelease tag p reads) s =
      .next ((s.linkFrame.noteRelease p reads).1.reply 0x0E tag (s.linkFrame.noteRelease p reads).2) :=
  request_of_hearing hearing (by simp [length]) _ _ _

end

/-- Words in which the ECC finds nothing change nothing (R188). -/
theorem State.readWords_of_clean (s : State) {l : List Finding} (clean : ∀ f ∈ l, f.ecc = .clean) : s.readWords l = s := by
  induction l with
  | nil => rfl
  | cons f l ih =>
    have first : State.readWord false s f = s := by rw [readWord, clean f (by simp)]
    unfold readWords at ih ⊢
    rw [List.foldl_cons, first, ih fun g listed => clean g (List.mem_cons_of_mem _ listed)]

/-- R143: the places that stand after the notes of a number are released. -/
def unreleased (n : Nat) (l : List Place) : List Place := l.filter fun y => y.number != n || y.state == .reserved

section
variable (s : State)

theorem State.placeBytes_of_reserved {x : Place} (reserved : x.state = .reserved) {r : Session}
    (record : s.session.record = some r) : s.placeBytes x = be 1 1 ++ beFig 4 r.number ++ [0, 0] := by
  have none : beFig 1 0 = [0] := beFig_of_lt 1 0 (by decide)
  simp only [placeBytes, listedNumber, reserved, record, none, List.append_assoc]
  rfl

theorem State.placeBytes_of_note {x : Place} (kept : x.state ≠ .reserved) {n : NoteRec} (note : x.note = some n) :
    s.placeBytes x = be 1 (placeStateCode x.state) ++ beFig 4 x.number ++ beFig 1 n.lines.length ++
      beFig 1 ((x.form.length + 191) / 192) := by
  cases state : x.state with
  | reserved => exact absurd state kept
  | ready => simp only [placeBytes, listedNumber, state, note, segmentCount]
  | damaged => simp only [placeBytes, listedNumber, state, note, segmentCount]

variable {s} {p : List Byte} {reads : List Finding}

theorem State.noteRead_of_none (unknown : (s.readWords reads).findNote (field p 0 4) = none) :
    s.noteRead p reads = (s.readWords reads, deny .noSuchNote) := by
  simp only [noteRead, unknown]

theorem State.noteRead_of_some {x : Place} (found : (s.readWords reads).findNote (field p 0 4) = some x) :
    s.noteRead p reads = (s.readWords reads,
      if segmentCount x.form ≤ field p 4 1 then deny .badIndex
      else accept 0 (be 4 x.number ++ be 1 (placeStateCode x.state) ++ be 1 (field p 4 1) ++
        beFig 1 (segmentCount x.form) ++ segment x.form (field p 4 1))) := by
  by_cases beyond : segmentCount x.form ≤ field p 4 1
  · simp only [noteRead, found, if_pos beyond]
  · simp only [noteRead, found, if_neg beyond]

theorem State.noteRelease_of_none (unknown : (s.readWords reads).findNote (field p 0 4) = none) :
    s.noteRelease p reads = (s.readWords reads, deny .noSuchNote) := by
  simp only [noteRelease, unknown]

variable (s) in
/-- The queue without the notes of a number. -/
def State.releasing (s : State) (n : Nat) : State :=
  s.withCustody { s.custody with places := unreleased n s.custody.places }

theorem State.noteRelease_of_some {x : Place} (found : (s.readWords reads).findNote (field p 0 4) = some x) :
    s.noteRelease p reads = ((s.readWords reads).releasing x.number,
      accept 0 (be 1 ((s.readWords reads).releasing x.number).custody.places.length)) := by
  simp only [noteRelease, found]
  rfl

/-- R143: no place holds the number after its release. -/
theorem State.findNote_releasing (n : Nat) : (s.releasing n).findNote n = none := by
  refine List.find?_eq_none.2 fun y listed => ?_
  have kept := (List.mem_filter.1 listed).2
  cases h : y.number == n <;> simp_all

theorem State.placesIn_releasing (n : Nat) : (s.releasing n).placesIn .reserved = s.placesIn .reserved := by
  refine congrArg List.length ?_
  refine (List.filter_filter ..).trans (List.filter_congr fun y _ => ?_)
  cases y.state == PlaceState.reserved <;> simp

end

/-- Settles O40: each request answers on the queue as its reads leave it. -/
theorem noteRequests : Obligations.NoteRequests := by
  intro s tag reads hearing v
  refine ⟨s.linkFrame.readWords_of_clean, exec_noteList_of_hearing hearing tag reads, fun x reserved r record =>
    v.placeBytes_of_reserved reserved record, fun x n kept note => v.placeBytes_of_note kept note, fun p length =>
    ⟨fun unknown => ?_, fun x found beyond => ?_, fun x found inside => ?_⟩, fun p length => ⟨fun unknown => ?_,
    fun x found => ⟨v.releasing x.number, ?_, rfl, ?_, State.placesIn_releasing _, fun y listed =>
      (List.mem_filter.1 listed).1, fun y listed other => ?_⟩⟩⟩
  · rw [exec_noteRead_of_hearing hearing tag length, State.noteRead_of_none unknown]
  · rw [exec_noteRead_of_hearing hearing tag length, State.noteRead_of_some found,
      if_pos (show segmentCount x.form ≤ _ from beyond)]
  · rw [exec_noteRead_of_hearing hearing tag length, State.noteRead_of_some found,
      if_neg (Nat.not_le.2 (show _ < segmentCount x.form from inside))]
    rfl
  · rw [exec_noteRelease_of_hearing hearing tag length, State.noteRelease_of_none unknown]
  · rw [exec_noteRelease_of_hearing hearing tag length, State.noteRelease_of_some found]
  all_goals
    have named : x.number = field p 0 4 ∧ x.state ≠ .reserved := by simpa using List.find?_some found
  · rw [← named.1]
    exact State.findNote_releasing _
  · exact List.mem_filter.2 ⟨listed, by simp [named.1, other]⟩

/-! ### A table's entry (R179) -/

theorem exec_tableRead_of_hearing {s : State} (hearing : s.hearing = true) (tag : Byte) {p : List Byte}
    (length : p.length = 3) (reads : List Finding) : exec (.tableRead tag p reads) s =
      .next ((s.linkFrame.tableRead p reads).1.reply 0x11 tag (s.linkFrame.tableRead p reads).2) :=
  request_of_hearing hearing (by simp [length]) _ _ _

theorem tableOf_of_le {n : Nat} (unknown : 10 ≤ n) : tableOf n = none := by
  obtain ⟨m, rfl⟩ := Nat.exists_eq_add_of_le' unknown
  rfl

@[simp] theorem pad_length (w : Nat) (l : List Byte) : (pad w l).length = w := by
  simp [pad]

theorem encodeVehicle_length (e : VehicleEntry) : (encodeVehicle e).length = 32 := by
  have each (i : Nat) : (encodeCompartment e.compartments i).length = 3 := by
    unfold encodeCompartment
    split <;> simp
  simp [encodeVehicle, List.range_succ, each]

theorem encodeCompat_length (m : Vector (BitVec 16) 16) : (encodeCompat m).length = 32 := by
  simp [encodeCompat, List.finRange_succ]

/-- Each entry is written in its table's layout (Table 9-2). -/
theorem entryBytes_length (t : Tables) {id : TableId} {i : Nat} (inside : i < tableSize id) :
    (t.entryBytes id i).length = entryLength id := by
  cases id with
  | permit => simp [Tables.entryBytes, encodePermit, entryLength]
  | vehicle => exact encodeVehicle_length _
  | compat => exact encodeCompat_length _
  | product => simp [Tables.entryBytes, encodeProduct, entryLength]
  | recipe => simp [Tables.entryBytes, encodeRecipe, entryLength]
  | injector => simp [Tables.entryBytes, encodeInjector, entryLength]
  | arm => simp [Tables.entryBytes, encodeArm, entryLength]
  | device => simp [Tables.entryBytes, encodeDevice, entryLength]
  | faultPolicy =>
    have named : finOf 11 i = some ⟨i, inside⟩ := finOf_of_eq rfl
    simp only [Tables.entryBytes, named]
    simp [encodePolicy, entryLength]
  | bay => simp [Tables.entryBytes, encodeBay, armIxs, entryLength]

/-- Settles O44: the table and the index are checked, then the entry is read as the words that it reads leave it. -/
theorem tableRead : Obligations.TableRead := by
  intro s tag p reads hearing length v
  rw [exec_tableRead_of_hearing hearing tag length reads]
  refine ⟨fun unknown => ?_, fun id table => ⟨fun beyond => ?_, fun inside damaged => ?_, fun inside sound =>
    ⟨?_, entryBytes_length _ inside⟩⟩⟩
  · simp only [State.tableRead, tableOf_of_le unknown]
  · simp only [State.tableRead, table, if_pos beyond]
  · simp only [State.tableRead, table, if_neg (Nat.not_le.2 inside)]
    rw [if_pos damaged]
  · simp only [State.tableRead, table, if_neg (Nat.not_le.2 inside)]
    rw [if_neg (by simp [v] at sound ⊢; exact sound)]

/-! ### A relay of the server (R172) -/

theorem exec_relay_of_hearing {s : State} (hearing : s.hearing = true) (tag a t : Byte) {p : List Byte}
    (length : p.length ≤ 48) : exec (.relay tag (a :: t :: p)) s = .next
      ((s.linkFrame.relay (a :: t :: p)).1.reply 0x0F tag (s.linkFrame.relay (a :: t :: p)).2) :=
  request_of_hearing hearing (by simp [within]; omega) _ _ _

theorem State.lockedEntry_eq_true_iff (s : State) (e : DeviceEntry) :
    s.lockedEntry e = true ↔ e.role = some .tempXmtr ∧ ∃ k, e.arm = some k ∧ (s.arm k).state ≠ .idle := by
  unfold lockedEntry
  cases e.arm <;> simp

/-- Settles O50: RELAY looks for the station, its lock and a place in the queue. -/
theorem relayTaken : Obligations.RelayTaken := by
  intro s tag a t p hearing length
  have station : (BitVec.ofNat 8 (field (a :: t :: p) 0 1) : Byte) = a := by simp [field, ofBe]
  have relayTag : (BitVec.ofNat 8 (field (a :: t :: p) 1 1) : Byte) = t := by simp [field, ofBe]
  rw [exec_relay_of_hearing hearing tag a t length]
  have form : s.linkFrame = { s with uport := s.linkFrame.uport } := s.linkFrame_eq
  have found : s.linkFrame.findDevice a = s.findDevice a := by rw [form]; rfl
  have locked (i : Fin 12) : s.linkFrame.lockedEntry (s.linkFrame.device i) = s.lockedEntry (s.device i) := by
    rw [form]
    rfl
  have queue : s.linkFrame.dport = s.dport := by rw [form]
  simp only [State.relay, station, relayTag, found, queue]
  refine ⟨fun unknown => ?_, fun i known => ⟨fun k xmtr arm busy => ?_, fun unlocked => ?_⟩⟩
  · simp only [unknown]
  · have lock : s.lockedEntry (s.device i) = true := (s.lockedEntry_eq_true_iff _).2 ⟨xmtr, k, arm, busy⟩
    simp only [known, locked, lock, if_true]
  · have noLock : ¬s.lockedEntry (s.device i) = true := fun lock => by
      obtain ⟨xmtr, k, arm, busy⟩ := (s.lockedEntry_eq_true_iff _).1 lock
      exact unlocked.elim (fun other => other xmtr) fun idle => busy (idle k arm)
    refine ⟨fun full => ?_, fun room => ?_⟩
    · simp only [known, locked, if_neg noLock, if_pos full]
    · simp only [known, locked, if_neg noLock, if_neg (Nat.not_le.2 room)]
      have one (n : Nat) : be 1 n = [BitVec.ofNat 8 n] := by simp [be]
      simp only [one, State.withDport_dport, List.length_append]
      rfl

end Sys2Proof.Machine
end

section
/-! SUPPORT and PROOFS. The bay clock and its rollovers (R20, R184). -/

namespace Sys2Proof.Machine

/-! ### A sweep over a table -/

section
variable {α : Type} [DecidableEq α] {empty : α}

/-- Reading a slot after a sweep: a DAMAGED entry keeps its words (R20). -/
theorem tabGet_tabMap (f : α → α) (fixed : f empty = empty) (t : Tab α) (h : tabWf empty t = true) (i : Nat) :
    tabGet empty (tabMap empty f t) i =
      if (tabGet empty t i).damaged = true then tabGet empty t i else ⟨f (tabGet empty t i).entry, false⟩ := by
  induction t with
  | nil =>
    simp only [tabMap, tabGet, fixed, List.map_nil, List.filter_nil]
    rfl
  | cons p t ih =>
    obtain ⟨below, -, wf⟩ := (tabWf_cons _ _).1 h
    have later : ∀ q ∈ tabMap empty f t, p.1 < q.1 := by
      intro q listed
      simp only [tabMap, List.mem_filter, List.mem_map] at listed
      obtain ⟨⟨x, found, rfl⟩, -⟩ := listed
      exact below x found
    generalize swept : (if p.2.damaged = true then p.2 else (⟨f p.2.entry, false⟩ : Slot α)) = x
    have head : tabMap empty f (p :: t) = tabCons empty p.1 x (tabMap empty f t) := by
      rw [tabMap, List.map_cons, List.filter_cons, swept, tabCons, tabMap]
      by_cases cleared : x = ⟨empty, false⟩ <;> simp [cleared]
    rw [head, tabGet_tabCons _ _ _ _ fun _ => tabGet_below _ _ later, ih wf]
    by_cases own : i = p.1
    · rw [if_pos own, ← swept]
      simp [tabGet, own]
    · rw [if_neg own]
      simp [tabGet, Ne.symm own]

/-- What an entry reads as after a sweep. -/
theorem tabRead_tabMap (f : α → α) (fixed : f empty = empty) (t : Tab α) (h : tabWf empty t = true) (i : Nat) :
    tabRead empty (tabMap empty f t) i = f (tabRead empty t i) := by
  simp only [tabRead, tabGet_tabMap f fixed t h]
  by_cases damaged : (tabGet empty t i).damaged = true
  · simp only [if_pos damaged, fixed]
  · simp only [if_neg damaged, Bool.false_eq_true, if_false]

end

/-! ### The rollover (R20) -/

section
variable (s : State)

/-- A permit entry on a new day: nothing of its quota is used. -/
def unused (e : PermitEntry) : PermitEntry := { e with usedToday := 0 }

theorem State.rollover_eq : s.rollover = { s with
    tables := { s.tables with permits := tabMap emptyPermit unused s.tables.permits }
    session := { s.session with quotaDay := s.bayDay }
    uport := s.uport.raised s.custody.clock (.dayRollover s.bayDay) } := by
  rw [rollover, raise_eq_raised]
  rfl

variable {s} in
theorem State.permit_rollover (canonical : s.canonical = true) (i : Nat) :
    s.rollover.permit i = { s.permit i with usedToday := 0 } := by
  rw [rollover_eq]
  exact tabRead_tabMap unused rfl _ (s.canonical_iff.1 canonical).1 i

variable {s} in
theorem State.rollover_canonical (canonical : s.canonical = true) : s.rollover.canonical = true := by
  rw [rollover_eq]
  obtain ⟨permits, rest⟩ := s.canonical_iff.1 canonical
  exact (canonical_iff _).2 ⟨tabMap_wf unused _ permits, rest⟩

/-- The clock before it is set: a rollover still owed is made (log 47). -/
theorem State.owedRollover_of_owed (owed : s.custody.midnight = true) :
    s.owedRollover = (s.withCustody { s.custody with midnight := false }).rollover := by
  rw [owedRollover, if_pos owed]

theorem State.owedRollover_of_made (made : s.custody.midnight = false) : s.owedRollover = s := by
  rw [owedRollover, if_neg (by simp [made])]

end

theorem exec_clockSet_of_hearing {s : State} (hearing : s.hearing = true) (tag : Byte) {p : List Byte}
    (length : p.length = 5) : exec (.clockSet tag p) s = .next ((s.linkFrame.clockSet p).1.reply 0x15 tag
      (s.linkFrame.clockSet p).2) := request_of_hearing hearing (by simp [length]) _ _ _

/-- The clock set to `v` after the rollover still owed, before a later day's. -/
def State.clocked (s : State) (v : Nat) : State :=
  s.owedRollover.withCustody { s.custody with clock := v, phase := 0, midnight := false }

section
variable {s : State}

theorem State.clockSet_of_range {p : List Byte} (beyond : 5662310399 < field p 0 5) :
    s.clockSet p = (s, deny .badValue) := if_pos beyond

theorem State.clockSet_of_open {p : List Byte} (range : field p 0 5 ≤ 5662310399)
    (isOpen : s.session.record.isSome = true) : s.clockSet p = (s, deny .inUse) :=
  (if_neg (Nat.not_lt.2 range)).trans (if_pos isOpen)

theorem State.clockSet_of_free {p : List Byte} (range : field p 0 5 ≤ 5662310399)
    (closed : s.session.record = none) : s.clockSet p =
      (if s.custody.clock / 86400 < field p 0 5 / 86400 then (s.clocked (field p 0 5)).rollover
        else s.clocked (field p 0 5), taken) := by
  have set : s.owedRollover.withCustody { s.owedRollover.custody with clock := field p 0 5, phase := 0 } =
      s.clocked (field p 0 5) := by
    cases owed : s.custody.midnight with
    | true =>
      rw [clocked, s.owedRollover_of_owed owed, rollover_eq]
      rfl
    | false => rw [clocked, s.owedRollover_of_made owed, ← owed]
  have unlocked : ¬s.session.record.isSome = true := by simp [closed]
  refine (if_neg (Nat.not_lt.2 range)).trans ((if_neg unlocked).trans ?_)
  simp only [set]
  rfl

theorem State.clocked_stands (v : Nat) : s.clocked v = { s with
    custody := { s.custody with clock := v, phase := 0, midnight := false }
    tables := { s.tables with permits := (s.clocked v).tables.permits }
    session := { s.session with quotaDay := (s.clocked v).session.quotaDay }, uport := (s.clocked v).uport } := by
  cases owed : s.custody.midnight with
  | true =>
    rw [clocked, s.owedRollover_of_owed owed, rollover_eq]
    rfl
  | false =>
    rw [clocked, s.owedRollover_of_made owed]
    rfl

theorem State.clocked_of_owed (owed : s.custody.midnight = true) (canonical : s.canonical = true) (v : Nat) :
    (s.clocked v).session.quotaDay = s.custody.clock / 86400 ∧
      (∀ i, (s.clocked v).permit i = { s.permit i with usedToday := 0 }) ∧ (s.clocked v).canonical = true ∧
      (s.clocked v).uport = (s.raise (.dayRollover (s.custody.clock / 86400))).uport := by
  have made : (s.clocked v).tables = (s.withCustody { s.custody with midnight := false }).rollover.tables := by
    rw [clocked, s.owedRollover_of_owed owed]
    rfl
  have sound : (s.withCustody { s.custody with midnight := false }).canonical = true := canonical
  refine ⟨?_, fun i => ?_, ?_, ?_⟩
  · rw [clocked, s.owedRollover_of_owed owed, rollover_eq]
    rfl
  · rw [permit, made]
    exact permit_rollover sound i
  · rw [canonical_congr made]
    exact rollover_canonical sound
  · rw [clocked, s.owedRollover_of_owed owed, rollover_eq, raise_eq_raised]
    rfl

theorem State.clocked_of_made (made : s.custody.midnight = false) (v : Nat) : s.clocked v =
    { s with custody := { s.custody with clock := v, phase := 0, midnight := false } } := by
  rw [clocked, s.owedRollover_of_made made]
  rfl

/-- A CLOCK_SET to a later day: the rollover owed, then the new day's (R20, R184). -/
theorem State.clocked_rollover (canonical : s.canonical = true) (v : Nat) :
    let u := (s.clocked v).rollover
    u = { s with
        custody := { s.custody with clock := v, phase := 0, midnight := false }
        tables := { s.tables with permits := u.tables.permits }
        session := { s.session with quotaDay := v / 86400 }, uport := u.uport } ∧
      (∀ i, u.permit i = { s.permit i with usedToday := 0 }) ∧
      u.uport = (({ (if s.custody.midnight then s.raise (.dayRollover (s.custody.clock / 86400)) else s) with
        custody := { s.custody with clock := v, phase := 0, midnight := false } } : State).raise
          (.dayRollover (v / 86400))).uport := by
  have stands := s.clocked_stands v
  refine ⟨?_, fun i => ?_, ?_⟩
  · rw [rollover_eq, stands]
    rfl
  · cases owed : s.custody.midnight with
    | true =>
      obtain ⟨-, permits, sound, -⟩ := s.clocked_of_owed owed canonical v
      rw [permit_rollover sound, permits]
    | false =>
      have same := s.clocked_of_made owed v
      have sound : (s.clocked v).canonical = true := by rw [same]; exact canonical
      rw [permit_rollover sound, same]
      rfl
  · have uport : (s.clocked v).uport =
        (if s.custody.midnight then s.raise (.dayRollover (s.custody.clock / 86400)) else s).uport := by
      cases owed : s.custody.midnight with
      | true => exact (s.clocked_of_owed owed canonical v).2.2.2
      | false => rw [s.clocked_of_made owed v]; rfl
    rw [rollover_eq, raise_eq_raised, ← uport, stands]
    rfl

end

/-- What a CLOCK_SET that is taken does (R184). -/
theorem State.clockSet_sets (s : State) (canonical : s.canonical = true) (p : List Byte)
    (range : field p 0 5 ≤ 5662310399) (closed : s.session.record = none) :
    let u := (s.clockSet p).1
    (s.clockSet p).2 = taken ∧
      u = { s with
        custody := { s.custody with clock := field p 0 5, phase := 0, midnight := false }
        tables := { s.tables with permits := u.tables.permits }
        session := { s.session with quotaDay := u.session.quotaDay }, uport := u.uport } ∧
      (s.custody.clock / 86400 < field p 0 5 / 86400 → u.session.quotaDay = field p 0 5 / 86400 ∧
        (∀ i, u.permit i = { s.permit i with usedToday := 0 }) ∧
        u.uport = (({ (if s.custody.midnight then s.raise (.dayRollover (s.custody.clock / 86400)) else s) with
          custody := u.custody } : State).raise (.dayRollover (field p 0 5 / 86400))).uport) ∧
      (field p 0 5 / 86400 ≤ s.custody.clock / 86400 → s.custody.midnight = false →
        u.session.quotaDay = s.session.quotaDay ∧ u.tables = s.tables ∧ u.uport = s.uport) ∧
      (field p 0 5 / 86400 ≤ s.custody.clock / 86400 → s.custody.midnight = true →
        u.session.quotaDay = s.custody.clock / 86400 ∧ (∀ i, u.permit i = { s.permit i with usedToday := 0 }) ∧
        u.uport = (s.raise (.dayRollover (s.custody.clock / 86400))).uport) := by
  rw [clockSet_of_free range closed]
  by_cases later : s.custody.clock / 86400 < field p 0 5 / 86400
  · obtain ⟨stands, permits, uport⟩ := s.clocked_rollover canonical (field p 0 5)
    simp only [if_pos later]
    have custody : (s.clocked (field p 0 5)).rollover.custody =
        { s.custody with clock := field p 0 5, phase := 0, midnight := false } := by rw [stands]
    have day : (s.clocked (field p 0 5)).rollover.session.quotaDay = field p 0 5 / 86400 := by rw [stands]
    refine ⟨trivial, ?_, fun _ => ⟨day, permits, ?_⟩, fun earlier => absurd later (Nat.not_lt.2 earlier),
      fun earlier => absurd later (Nat.not_lt.2 earlier)⟩
    · rw [day]
      exact stands
    · rw [custody]
      exact uport
  · simp only [if_neg later]
    refine ⟨trivial, s.clocked_stands _, fun day => absurd day later, fun _ made => ?_, fun _ owed => ?_⟩
    · rw [s.clocked_of_made made]
      exact ⟨rfl, rfl, rfl⟩
    · obtain ⟨day, permits, -, uport⟩ := s.clocked_of_owed owed canonical (field p 0 5)
      exact ⟨day, permits, uport⟩

section
variable (s : State)

theorem exec_dayRollover_of_live {s : State} (live : s.live = true) : exec .dayRollover s = .next s.midnightPassed :=
  whenPowered_of_live s live State.midnightPassed

theorem State.midnightPassed_of_owed (owed : s.custody.midnight = true) :
    s.midnightPassed = (s.withCustody { s.custody with midnight := false }).rollover := by
  rw [midnightPassed, if_pos owed, s.owedRollover_of_owed owed]

theorem State.midnightPassed_of_made (made : s.custody.midnight = false)
    (inside : (s.custody.clock / 86400 + 1) * 86400 ≤ 5662310399) : s.midnightPassed =
      (s.withCustody { s.custody with clock := (s.custody.clock / 86400 + 1) * 86400, phase := 0 }).rollover :=
  (if_neg (by simp [made])).trans (if_pos inside)

theorem State.midnightPassed_of_last (made : s.custody.midnight = false)
    (last : 5662310399 < (s.custody.clock / 86400 + 1) * 86400) : s.midnightPassed = s :=
  (if_neg (by simp [made])).trans (if_neg (Nat.not_le.2 last))

variable {s} in
/-- A rollover after the clock is moved. -/
theorem State.rollover_of_custody (canonical : s.canonical = true) (c : CustodyBlk) :
    let u := (s.withCustody c).rollover
    u.custody = c ∧ u = { s with
        custody := u.custody, tables := { s.tables with permits := u.tables.permits }
        session := { s.session with quotaDay := u.custody.clock / 86400 }, uport := u.uport } ∧
      (∀ i, u.permit i = { s.permit i with usedToday := 0 }) ∧
      u.uport = (({ s with custody := u.custody } : State).raise (.dayRollover (u.custody.clock / 86400))).uport := by
  refine ⟨?_, ?_, permit_rollover (s := s.withCustody c) canonical, ?_⟩
  · rw [rollover_eq]
    rfl
  · rw [rollover_eq]
    rfl
  · rw [rollover_eq, raise_eq_raised]
    rfl

end

/-- Settles O42: the rollover owed is made, the clock set, and a later day rolls over. -/
theorem bayClock : Obligations.BayClock := by
  refine ⟨fun s tag p hearing canonical length => ⟨fun beyond => ?_, fun range isOpen => ?_, fun range closed => ?_⟩,
    fun s live canonical => ⟨fun turns => ?_, fun made last => ?_, ?_⟩⟩
  · rw [exec_clockSet_of_hearing hearing tag length, State.clockSet_of_range beyond]
  · rw [exec_clockSet_of_hearing hearing tag length, State.clockSet_of_open range (by simpa using isOpen)]
  · obtain ⟨answer, sets⟩ := s.linkFrame.clockSet_sets (by rw [s.linkFrame_eq]; exact canonical) p range
      (by simpa using closed)
    refine ⟨(s.linkFrame.clockSet p).1, ?_, ?_⟩
    · rw [exec_clockSet_of_hearing hearing tag length, answer]
    · rw [State.linkFrame_eq] at sets ⊢
      exact sets
  · rw [exec_dayRollover_of_live live]
    cases owed : s.custody.midnight with
    | true =>
      rw [s.midnightPassed_of_owed owed]
      obtain ⟨custody, stands, permits, uport⟩ := s.rollover_of_custody canonical { s.custody with midnight := false }
      exact ⟨_, rfl, stands, fun _ => custody, nofun, permits, uport⟩
    | false =>
      have inside : (s.custody.clock / 86400 + 1) * 86400 ≤ 5662310399 := turns.resolve_left (by simp [owed])
      rw [s.midnightPassed_of_made owed inside]
      obtain ⟨custody, stands, permits, uport⟩ := s.rollover_of_custody canonical
        { s.custody with clock := (s.custody.clock / 86400 + 1) * 86400, phase := 0 }
      exact ⟨_, rfl, stands, nofun, fun _ => custody, permits, uport⟩
  · rw [exec_dayRollover_of_live live, s.midnightPassed_of_last made last]
  · exact whenPowered_of_live s live fun t => t.withCustody { t.custody with clock := clockMax, phase := 0 }

end Sys2Proof.Machine
end

section
/-! PROOFS. The status groups and the counter groups (R46, R59, R80, R131, R156, R181 to R183, R187, R198). -/

namespace Sys2Proof.Machine

/-! ### The lengths of the status groups (Table 10-12) -/

@[simp] theorem beBit_length (b : Bool) : (beBit b).length = 1 := be_length 1 _

@[simp] theorem beSat_length (w n : Nat) : (beSat w n).length = w := be_length w _

@[simp] theorem latchByte_length (l : Option Latch) : (latchByte l).length = 1 := by
  cases l <;> simp [latchByte]

section
variable (s : State)

@[simp] theorem State.since_length (w t : Nat) : (s.since w t).length = w := beSat_length w _

@[simp] theorem State.left_length (w : Nat) (t : Option Nat) : (s.left w t).length = w := beSat_length w _

@[simp] theorem State.timer_length (w : Nat) (t : Option Nat) : (s.timer w t).length = 1 + w := by
  simp [timer]

theorem State.statusSummary_length : s.statusSummary.length = 12 := by
  simp [statusSummary, armIxs]

theorem State.statusRecord_length (r : Option Session) : (s.statusRecord r).length = 46 := by
  cases r <;> simp [statusRecord, List.finRange_succ]

theorem State.statusSession_length : s.statusSession.length = 76 := by
  unfold statusSession
  dsimp only
  cases s.session.tagRecord <;> cases s.session.presentation <;> simp [statusRecord_length]

theorem State.statusSafety_length : s.statusSafety.length = 36 := by
  simp [statusSafety, inputIxs, faultClasses]

theorem State.statusChannel_length (k : Fin 4) : (s.statusChannel k).length = 24 := by
  simp [statusChannel]

theorem State.statusVolume_length (k : Fin 4) : (s.statusVolume k).length = 18 := by
  have temp : (if (s.vol k).temp.state = .absent then beInt 2 (-32768) ++ be 1 0 ++ be 2 0
      else beInt 2 (s.vol k).temp.t ++ beBit (s.vol k).temp.clamped ++ s.since 2 (s.vol k).temp.accepted).length = 5 := by
    split_ifs <;> simp
  simp only [statusVolume, List.length_append, temp, be_length, beFig_length, timer_length]

theorem State.statusBatch_length (k : Fin 4) : (s.statusBatch k).length = 17 := by
  unfold statusBatch
  cases (s.arm k).batch <;> simp

theorem State.statusArm_length (k : Fin 4) : (s.statusArm k).length = 70 := by
  have timer : (if (s.arm k).state = .suspended ∨ (s.arm k).state = .stopping
      then s.timer 1 (s.arm k).stopTimer ++ beFig 1 (s.arm k).zeroCloses else be 3 0).length = 3 := by
    split_ifs <;> simp
  simp [statusArm, statusChannel_length, statusVolume_length, statusBatch_length, timer]

theorem State.statusWaiting_length (i : Nat) : (s.statusWaiting i).length = 2 := by
  unfold statusWaiting
  split <;> simp

theorem statusDose_length (l : List DoseRec) (i : Nat) : (statusDose l i).length = 17 := by
  unfold statusDose
  split <;> simp

theorem State.statusAdditive_length (k : Fin 4) : (s.statusAdditive k).length = 107 := by
  simp [statusAdditive, injIxs, statusInjector, List.range_succ, statusWaiting_length, statusDose_length]

theorem State.statusCustody_length : s.statusCustody.length = 24 := by
  simp [statusCustody]

theorem State.statusLines_length : s.statusLines.length = 50 := by
  unfold statusLines
  dsimp only
  cases s.dport.relayDown <;> simp [deviceIxs]

theorem State.statusRetention_length : s.statusRetention.length = 26 := by
  simp [statusRetention]

/-- R181: each group, an arm of the arms' groups named, has its figures at the length of Table 10-12. -/
theorem State.statusGroup_of_range {g a : Nat} (group : g < 8) (arm : g = 3 ∨ g = 4 → a < 4) :
    ∃ d, s.statusGroup g a = some d ∧ d.length = statusLength g := by
  have named (h : a < 4) : finOf 4 a = some ⟨a, h⟩ := finOf_of_eq rfl
  match g, group with
  | 0, _ => exact ⟨_, rfl, s.statusSummary_length⟩
  | 1, _ => exact ⟨_, rfl, s.statusSession_length⟩
  | 2, _ => exact ⟨_, rfl, s.statusSafety_length⟩
  | 3, _ => exact ⟨s.statusArm ⟨a, arm (by simp)⟩, by simp only [statusGroup, named (arm (by simp))],
    s.statusArm_length _⟩
  | 4, _ => exact ⟨s.statusAdditive ⟨a, arm (by simp)⟩, by simp only [statusGroup, named (arm (by simp))],
    s.statusAdditive_length _⟩
  | 5, _ => exact ⟨_, rfl, s.statusCustody_length⟩
  | 6, _ => exact ⟨_, rfl, s.statusLines_length⟩
  | 7, _ => exact ⟨_, rfl, s.statusRetention_length⟩

theorem State.statusGroup_of_beyond {g a : Nat} (beyond : 8 ≤ g ∨ (g = 3 ∨ g = 4) ∧ 4 ≤ a) :
    s.statusGroup g a = none := by
  rcases beyond with high | ⟨rfl | rfl, high⟩
  · obtain ⟨m, rfl⟩ := Nat.exists_eq_add_of_le' high
    rfl
  · simp only [statusGroup, finOf_of_le high]
  · simp only [statusGroup, finOf_of_le high]

end

theorem exec_statusRead_of_hearing {s : State} (hearing : s.hearing = true) (tag g a : Byte) :
    exec (.statusRead tag [g, a]) s = .next ((s.linkFrame.statusRead [g, a]).1.reply 0x13 tag
      (s.linkFrame.statusRead [g, a]).2) := request_of_hearing hearing (by simp) _ _ _

/-- Settles O47: a group out of range is refused, any other answered at its length. -/
theorem statusRead : Obligations.StatusRead := by
  intro s tag g a hearing
  rw [exec_statusRead_of_hearing hearing, State.statusRead, (field_pair g a).1, (field_pair g a).2]
  refine ⟨fun beyond => ?_, fun group arm => ?_⟩
  · rw [State.statusGroup_of_beyond _ beyond]
  · obtain ⟨d, figures, length⟩ := s.linkFrame.statusGroup_of_range group arm
    refine ⟨d, figures, length, ?_⟩
    rw [figures]

/-! ### The counter groups (Table 10-13) -/

section
variable (s : State)

theorem faultBytes_length (r : FaultRec) : (faultBytes r).length = 16 := by
  simp [faultBytes]

theorem totalizerBytes_length (t : Totalizer) : (totalizerBytes t).length = 9 := by
  simp [totalizerBytes]

/-- R183: each group has its counters at the length of Table 10-13. -/
theorem State.counterGroup_of_range {g : Nat} (group : g < 7) :
    ∃ d, s.counterGroup g = some d ∧ d.length = counterLength g := by
  match g, group with
  | 0, _ => exact ⟨_, rfl, by simp [countersSafety, faultClasses, inputIxs, faultBytes_length, counterLength]⟩
  | 1, _ => exact ⟨_, rfl, by simp [countersMeter, armIxs, counterLength]⟩
  | 2, _ => exact ⟨_, rfl, by simp [countersTemp, armIxs, counterLength]⟩
  | 3, _ => exact ⟨_, rfl, by simp [countersAdditive, injIxs, counterLength]⟩
  | 4, _ => exact ⟨_, rfl, by simp [countersCustody, armIxs, injIxs, totalizerBytes_length, counterLength]⟩
  | 5, _ => exact ⟨_, rfl, by simp [countersLine, counterLength]⟩
  | 6, _ => exact ⟨_, rfl, by simp [countersRetention, counterLength]⟩

theorem State.counterGroup_of_le {g : Nat} (beyond : 7 ≤ g) : s.counterGroup g = none := by
  obtain ⟨m, rfl⟩ := Nat.exists_eq_add_of_le' beyond
  rfl

end

theorem exec_counterRead_of_hearing {s : State} (hearing : s.hearing = true) (tag g f : Byte) :
    exec (.counterRead tag [g, f]) s = .next ((s.linkFrame.counterRead [g, f]).1.reply 0x14 tag
      (s.linkFrame.counterRead [g, f]).2) := request_of_hearing hearing (by simp) _ _ _

theorem flagOf_of_le {n : Nat} (beyond : 2 ≤ n) : flagOf n = none := by
  obtain ⟨m, rfl⟩ := Nat.exists_eq_add_of_le' beyond
  rfl

/-- R183, Table 9-6: what the clear of each group sets to 0. -/
theorem State.clearGroup_clears (s : State) :
    (s.clearGroup 0 = { s with safety := { s.safety with
        inputs := (s.clearGroup 0).safety.inputs, deadman := { s.safety.deadman with presses := 0 } } } ∧
      ∀ i, (s.clearGroup 0).input i = { s.input i with chatter := 0 }) ∧
    (s.clearGroup 1 = { s with
        meters := (s.clearGroup 1).meters, session := { s.session with chattered := 0 } } ∧
      ∀ k, (s.clearGroup 1).meter k = { s.meter k with discrepancies := 0, reverses := 0 }) ∧
    (s.clearGroup 2 = { s with volumes := (s.clearGroup 2).volumes } ∧
      ∀ k, (s.clearGroup 2).vol k = { s.vol k with badSamples := 0, clamps := 0, overruns := 0 }) ∧
    (s.clearGroup 3 = { s with additive := { s.additive with injectors := (s.clearGroup 3).additive.injectors } } ∧
      ∀ j, (s.clearGroup 3).inj j = { s.inj j with stray := 0 }) :=
  ⟨⟨rfl, fun i => Vec.get_ofFn _ (inputIx i)⟩, ⟨rfl, fun k => Vec.get_ofFn _ k⟩, ⟨rfl, fun k => Vec.get_ofFn _ k⟩,
    rfl, fun j => Vec.get_ofFn _ j⟩

/-- Settles O48: the counters are answered as they stand, and the flag clears those of the group. -/
theorem counterRead : Obligations.CounterRead := by
  intro s tag g f hearing
  rw [exec_counterRead_of_hearing hearing, State.counterRead, (field_pair g f).1, (field_pair g f).2]
  refine ⟨fun beyond => ?_, fun group flag => ?_⟩
  · rcases beyond with group | flag
    · rw [State.counterGroup_of_le _ group]
    · rw [flagOf_of_le flag]
      cases s.linkFrame.counterGroup g.toNat <;> rfl
  · obtain ⟨d, counters, length⟩ := s.linkFrame.counterGroup_of_range group
    have flags : f = 0 ∨ f = 1 := by bv_omega
    rcases flags with rfl | rfl
    · refine ⟨d, s.linkFrame, counters, length, ?_, fun _ => rfl, nofun⟩
      rw [counters]
      rfl
    · refine ⟨d, s.linkFrame.clearGroup g.toNat, counters, length, ?_, nofun, fun _ => ?_⟩
      · rw [counters]
        rfl
      · rw [State.linkFrame_eq]
        generalize s.linkFrame.uport = u
        obtain ⟨safety, meters, volumes, additive⟩ := State.clearGroup_clears { s with uport := u }
        refine ⟨?_, ?_, ?_, ?_, ?_, ?_, ?_⟩ <;> rintro rfl
        · exact safety
        · exact meters
        · exact volumes
        · exact additive
        · rfl
        · rfl
        · rfl

end Sys2Proof.Machine
end

section
/-! PROOFS. What reaches an owner over the U line and what the receivers of the two lines count (R153 to R158, R164, R185). -/

namespace Sys2Proof.Machine

/-! ### The checks of a request (R155, R157, R158) -/

/-- Every request goes through the one check of the U port. -/
theorem exec_of_asRequest {c : Instr} {kind tag : Byte} {ok : Bool} (request : asRequest c = some (kind, tag, ok)) :
    ∃ owner : State → State × Answer, ∀ s, exec c s = whenPowered (fun t => t.request kind tag ok owner) s := by
  cases c <;> cases request <;> exact ⟨_, fun _ => rfl⟩

section
variable {s : State}

theorem State.request_of_ude (kind tag : Byte) (ok : Bool) (owner : State → State × Answer) (ude : s.ude = true) :
    s.request kind tag ok owner = s := if_pos ude

theorem State.request_of_inHand (kind tag : Byte) (ok : Bool) (owner : State → State × Answer) (quiet : s.ude = false)
    (busy : s.uport.inHand.isSome = true) : s.request kind tag ok owner = s.countOverlap :=
  (if_neg (by simp [quiet])).trans (if_pos busy)

theorem State.request_of_unaddressed (kind tag : Byte) (ok : Bool) (owner : State → State × Answer)
    (free : s.uport.inHand = none) (unaddressed : s.addressed = false) : s.request kind tag ok owner = s := by
  simp [request, ude, free, unaddressed]

theorem State.request_of_badLength (kind tag : Byte) (owner : State → State × Answer) (free : s.uport.inHand = none)
    (addressed : s.addressed = true) :
    s.request kind tag false owner = s.linkFrame.reply kind tag (deny .badLength) := by
  simp [request, ude, free, addressed]

theorem State.live_of_hearing (hearing : s.hearing = true) :
    s.live = true ∧ s.uport.inHand = none ∧ s.addressed = true := by
  simpa [State.hearing, and_assoc] using hearing

end

/-- R164: the frame of a request that is heard. -/
theorem State.linkFrame_of_online {s : State} (online : s.uport.link = .online) : s.linkFrame = { s with uport := { s.uport with
    silence := some (s.now + s.bay.linkSilence * 1000), assembling := false } } := by
  rw [linkFrame, if_neg (by simp [online])]
  rfl

theorem State.linkFrame_of_standalone {s : State} (standalone : s.uport.link = .standalone) : s.linkFrame =
    ({ s with uport := { s.uport with
      silence := some (s.now + s.bay.linkSilence * 1000), assembling := false, link := .online } } : State).raise
        (.linkState .online) := by
  rw [linkFrame, if_pos standalone]
  rfl

/-- Settles O51: every request is one call of the U port's check, whose branches come in order. -/
theorem requestChecks : Obligations.RequestChecks := by
  refine ⟨fun s c kind tag ok request live => ?_, fun s kind tag p hearing length => ?_, fun s =>
    ⟨State.linkFrame_of_online, State.linkFrame_of_standalone⟩⟩
  · obtain ⟨owner, run⟩ := exec_of_asRequest request
    rw [run, whenPowered_of_live s live]
    refine ⟨fun ude => ?_, fun quiet busy => ?_, fun free address => ?_, fun hearing bad => ?_⟩
    · rw [State.request_of_ude _ _ _ _ ude]
    · rw [State.request_of_inHand _ _ _ _ quiet busy]
      rfl
    · have unaddressed : s.addressed = false := by
        rcases address with zero | all
        · simp [State.addressed, zero]
        · simp [State.addressed, all]
      rw [State.request_of_unaddressed _ _ _ _ free unaddressed]
    · obtain ⟨-, free, addressed⟩ := State.live_of_hearing hearing
      rw [bad, State.request_of_badLength _ _ _ free addressed]
  · exact request_of_hearing hearing (by simpa using length) _ _ _

/-! ### The service flag and the broadcasts (R157, R185) -/

theorem exec_bayCommand_of_hearing {s : State} (hearing : s.hearing = true) (tag b : Byte) :
    exec (.bayCommand tag [b]) s = .next ((s.linkFrame.bayCommand [b]).1.reply 0x16 tag
      (s.linkFrame.bayCommand [b]).2) := request_of_hearing hearing (by simp) _ _ _

theorem exec_broadcastRequest_of_live {s : State} (live : s.live = true) (kind : Byte) (p : List Byte) :
    exec (.broadcastRequest kind p) s = .next (
      if s.ude then s
      else if s.uport.inHand.isSome then s.countOverlap
      else if kind = 0x15 ∧ p.length = 5 then (s.linkFrame.clockSet p).1
      else if kind = 0x16 ∧ p = [0] then (s.linkFrame.bayCommand p).1
      else s.linkFrame) :=
  whenPowered_of_live s live fun t =>
    if t.ude then t
    else if t.uport.inHand.isSome then t.countOverlap
    else if kind = 0x15 ∧ p.length = 5 then (t.linkFrame.clockSet p).1
    else if kind = 0x16 ∧ p = [0] then (t.linkFrame.bayCommand p).1
    else t.linkFrame

section
variable {s : State}

theorem State.bayCommand_of_le {b : Byte} (bad : 2 ≤ b.toNat) : s.bayCommand [b] = (s, deny .badValue) := by
  simp only [bayCommand, field_singleton, flagOf_of_le bad]

theorem State.bayCommand_on : s.bayCommand [1] =
    ({ s with session := { s.session with inService := true } }, taken) := rfl

theorem State.bayCommand_of_open (isOpen : s.session.record.isSome = true) :
    s.bayCommand [0] = (s, deny .wrongState) := if_pos isOpen

/-- R185: out of service, a presentation pending is refused. -/
theorem State.bayCommand_off (closed : s.session.record = none) : s.bayCommand [0] =
    (({ s with session := { s.session with inService := false } } : State).settlePresentation, taken) :=
  if_neg (by simp [closed])

theorem State.ude_of_free (free : s.uport.inHand = none) : s.ude = false := by simp [ude, free]

end

/-- Out of service no bay without a session is IDLE (R9). -/
theorem State.bayState_out_of_service {s : State} (closed : s.session.record = none) (out : s.session.inService = false) :
    s.bayState ≠ .idle := by
  rw [bayState_of_none s closed]
  split_ifs <;> simp_all

/-- Settles O49: BAY_COMMAND by its byte and the session, and the two broadcasts that reach an owner. -/
theorem serviceFlag : Obligations.ServiceFlag := by
  refine ⟨fun s tag b hearing => ⟨fun bad => ?_, ?_, ?_, ?_, ?_⟩, fun s kind p live => ?_⟩
  · rw [exec_bayCommand_of_hearing hearing, State.bayCommand_of_le bad]
  · rintro rfl
    rw [exec_bayCommand_of_hearing hearing, State.bayCommand_on, State.linkFrame_eq]
  · rintro rfl isOpen
    rw [exec_bayCommand_of_hearing hearing, State.bayCommand_of_open (by simpa using isOpen)]
  · rintro rfl closed none
    rw [exec_bayCommand_of_hearing hearing, State.bayCommand_off (by simpa using closed), State.linkFrame_eq]
    simp only [State.settlePresentation, none]
  · rintro x rfl closed pending
    rw [exec_bayCommand_of_hearing hearing, State.bayCommand_off (by simpa using closed), State.linkFrame_eq]
    generalize s.linkFrame.uport = u
    have shut : ({ s with session := { s.session with inService := false }, uport := u } : State).bayState ≠ .idle :=
      State.bayState_out_of_service closed rfl
    refine ⟨_, rfl, ?_⟩
    rw [State.settlePresentation_of_shut shut, State.unseated]
    simp only [pending, State.tellReader_eq_pushed]
    exact ⟨trivial, trivial, rfl⟩
  · rw [exec_broadcastRequest_of_live live]
    refine ⟨fun ude => ?_, fun quiet busy => ?_, fun free clock length => ?_, fun free service off => ?_,
      fun free notClock notService => ?_⟩
    · rw [if_pos ude]
    · rw [if_neg (by simp [quiet]), if_pos busy]
      rfl
    · rw [if_neg (by simp [State.ude_of_free free]), if_neg (by simp [free]), if_pos ⟨clock, length⟩]
    · rw [if_neg (by simp [State.ude_of_free free]), if_neg (by simp [free]), if_neg (by simp [service]),
        if_pos ⟨service, off⟩, off]
    · rw [if_neg (by simp [State.ude_of_free free]), if_neg (by simp [free]), if_neg notClock, if_neg notService]

/-! ### The receivers (R153 to R155, R157) -/

section
variable {s : State}

theorem exec_framingError_of_live (live : s.live = true) (line : Line) (f : Bool) : exec (.framingError line f) s =
    .next (if s.driving line then s else s.framingError line f) :=
  whenPowered_of_live s live fun t => if t.driving line then t else t.framingError line f

theorem exec_frameSilenceTimeout_of_live (live : s.live = true) (line : Line) : exec (.frameSilenceTimeout line) s =
    .next (if s.driving line then s else s.endFrame line) :=
  whenPowered_of_live s live fun t => if t.driving line then t else t.endFrame line

theorem exec_payloadLengthOverMaximum_of_live (live : s.live = true) (line : Line) :
    exec (.payloadLengthOverMaximum line) s = .next (if s.driving line then s else s.endFrame line) :=
  whenPowered_of_live s live fun t => if t.driving line then t else t.endFrame line

theorem exec_frameCheckError_of_live (live : s.live = true) (line : Line) : exec (.frameCheckError line) s =
    .next (if s.driving line then s else s.checkError line) :=
  whenPowered_of_live s live fun t => if t.driving line then t else t.checkError line

theorem exec_frameEndedByAddressCharacter_of_live (live : s.live = true) (line : Line) (a : Byte) :
    exec (.frameEndedByAddressCharacter line a) s =
      .next (if s.driving line then s else (s.endFrame line).addressCharacter line a) :=
  whenPowered_of_live s live fun t => if t.driving line then t else (t.endFrame line).addressCharacter line a

theorem exec_overlappingRequest_of_live (live : s.live = true) : exec .overlappingRequest s = .next (
    if s.ude then s
    else if s.uport.inHand.isSome then s.countOverlap
    else s.withUport { s.uport with assembling := true }) :=
  whenPowered_of_live s live fun t =>
    if t.ude then t
    else if t.uport.inHand.isSome then t.countOverlap
    else t.withUport { t.uport with assembling := true }

theorem exec_unexpectedFrame_of_live (live : s.live = true) : exec .unexpectedFrame s = .next s.unexpectedFrame :=
  whenPowered_of_live s live State.unexpectedFrame

theorem exec_stationResponse_of_live (live : s.live = true) (a k : Byte) (p : List Byte) :
    exec (.stationResponse a k p) s = .next (if s.dde then s else s.stationFrame a k p) :=
  whenPowered_of_live s live fun t => if t.dde then t else t.stationFrame a k p

theorem exec_relayResponse_of_live (live : s.live = true) (a : Byte) (p : List Byte) :
    exec (.relayResponse a p) s = .next (if s.dde then s else s.relayAnswered a p) :=
  whenPowered_of_live s live fun t => if t.dde then t else t.relayAnswered a p

/-- A turn that has not outlived its timeout goes on after a frame that is not its response. -/
theorem State.endOverdue_of_timely (timely : ∀ t, s.dport.turn = some t → t.phase ≠ .overdue) : s.endOverdue = s := by
  unfold endOverdue
  split
  · exact if_neg (timely _ ‹_›)
  · rfl

theorem State.framingError_u (f : Bool) : s.framingError .u f = { s with uport := { s.uport with
    framing := min 65535 (s.uport.framing + 1)
    incomplete := if f || s.uport.assembling then min 65535 (s.uport.incomplete + 1) else s.uport.incomplete
    assembling := false } } := by
  unfold framingError
  cases h : s.uport.assembling
  case true => simp [h, endFrameU, withUport, bump]
  case false => cases f <;> simp [h, endFrameU, withUport, bump]

/-- The address characters that call on the UB4: its own, and that of all stations. -/
def State.calledBy (s : State) (a : Byte) : Bool := a == 31 || (s.addressed && a == s.uport.address.zeroExtend 8)

/-- An address character of the UB4, or of all stations, ends a frame and starts one when no request is in hand. -/
theorem State.addressCharacter_u_of_free (free : s.uport.inHand = none) (a : Byte) :
    (s.endFrame .u).addressCharacter .u a = { s with uport := { s.uport with
      incomplete := min 65535 (s.uport.incomplete + 1), assembling := s.calledBy a } } := by
  have called : (a = 31 ∨ ((s.endFrame .u).addressed = true ∧ a = (s.endFrame .u).uport.address.zeroExtend 8)) ↔
      s.calledBy a = true := by
    simp [calledBy, endFrame, endFrameU, addressed, withUport]
  have idle : (s.endFrame .u).uport.inHand.isSome = false := by simp [endFrame, endFrameU, withUport, free]
  unfold addressCharacter
  by_cases h : s.calledBy a = true
  · refine (if_pos (called.2 h)).trans ?_
    rw [h, if_neg (by simp [idle])]
    rfl
  · refine (if_neg (mt called.1 h)).trans ?_
    rw [Bool.eq_false_iff.2 h]
    rfl

/-- With a request in hand it starts none, and counts as overlapping. -/
theorem State.addressCharacter_u_of_busy (busy : s.uport.inHand.isSome = true) (a : Byte) :
    (s.endFrame .u).addressCharacter .u a = { s with uport := { s.uport with
      incomplete := min 65535 (s.uport.incomplete + 1), assembling := false
      overlapping := if s.calledBy a then min 65535 (s.uport.overlapping + 1) else s.uport.overlapping } } := by
  have called : (a = 31 ∨ ((s.endFrame .u).addressed = true ∧ a = (s.endFrame .u).uport.address.zeroExtend 8)) ↔
      s.calledBy a = true := by
    simp [calledBy, endFrame, endFrameU, addressed, withUport]
  have taken : (s.endFrame .u).uport.inHand.isSome = true := busy
  unfold addressCharacter
  by_cases h : s.calledBy a = true
  · refine (if_pos (called.2 h)).trans ?_
    rw [if_pos h, if_pos taken]
    rfl
  · refine (if_neg (mt called.1 h)).trans ?_
    rw [if_neg h]
    rfl

section
variable (timely : ∀ t, s.dport.turn = some t → t.phase ≠ .overdue)
include timely

theorem State.endFrame_d : s.endFrame .d = { s with dport := { s.dport with
    incomplete := min 65535 (s.dport.incomplete + 1), assembling := false } } :=
  State.endOverdue_of_timely (s := s.withDport
    { s.dport with incomplete := bump 65535 s.dport.incomplete, assembling := false }) timely

theorem State.checkError_d : s.checkError .d = { s with dport := { s.dport with
    check := min 65535 (s.dport.check + 1), assembling := false } } :=
  State.endOverdue_of_timely (s := s.withDport
    { s.dport with check := bump 65535 s.dport.check, assembling := false }) timely

theorem State.framingError_d (f : Bool) : s.framingError .d f = { s with dport := { s.dport with
    framing := min 65535 (s.dport.framing + 1)
    incomplete := if f || s.dport.assembling then min 65535 (s.dport.incomplete + 1) else s.dport.incomplete
    assembling := false } } := by
  have ended := State.endFrame_d (s := s.withDport { s.dport with framing := bump 65535 s.dport.framing }) timely
  unfold endFrame at ended
  unfold framingError
  dsimp only at ended ⊢
  rw [ended]
  cases h : s.dport.assembling
  case true => simp [withDport, bump]
  case false => cases f <;> simp [withDport, bump]

theorem State.addressCharacter_d (a : Byte) : (s.endFrame .d).addressCharacter .d a = { s with dport := { s.dport with
    incomplete := min 65535 (s.dport.incomplete + 1), assembling := a == 0 || a == 31 } } := by
  rw [State.endFrame_d timely]
  unfold addressCharacter
  by_cases h : a = 0 ∨ a = 31
  · have shown : (a == 0 || a == 31) = true := by simpa using h
    rw [if_pos h, shown]
    rfl
  · have shown : (a == 0 || a == 31) = false := by simpa using h
    rw [if_neg h, shown]

theorem State.unexpectedFrame_of_timely (quiet : s.dde = false) : s.unexpectedFrame = { s with dport := { s.dport with
    unexpected := min 65535 (s.dport.unexpected + 1), assembling := false } } := by
  rw [State.unexpectedFrame, if_neg (by simp [quiet])]
  exact State.endOverdue_of_timely
    (s := (s.withDport { s.dport with assembling := false }).countUnexpected) timely

end

end

/-- Settles O54: while its driver enable is asserted a receiver takes nothing; else each frame error ends the assembly and
counts, and no turn that has not outlived its timeout ends. -/
theorem receiverErrors : Obligations.ReceiverErrors := by
  refine fun s live => ⟨fun ude c received => ?_, fun quiet => ?_, fun dde c received => ?_, fun quiet timely => ?_⟩
  · have driving : s.driving .u = true := ude
    rcases received with rfl | rfl | rfl | rfl | rfl | rfl | ⟨a, rfl⟩
    · rw [exec_framingError_of_live live, if_pos driving]
    · rw [exec_framingError_of_live live, if_pos driving]
    · rw [exec_frameSilenceTimeout_of_live live, if_pos driving]
    · rw [exec_frameCheckError_of_live live, if_pos driving]
    · rw [exec_payloadLengthOverMaximum_of_live live, if_pos driving]
    · rw [exec_overlappingRequest_of_live live, if_pos ude]
    · rw [exec_frameEndedByAddressCharacter_of_live live, if_pos driving]
  · have quiet' : ¬s.driving .u = true := Bool.eq_false_iff.1 quiet
    have quietLine : ¬s.ude = true := Bool.eq_false_iff.1 quiet
    refine ⟨fun f => ?_, fun c ended => ?_, ?_, fun busy => ?_, fun free => ?_, fun a free => ?_, fun a busy => ?_⟩
    · rw [exec_framingError_of_live live, if_neg quiet', State.framingError_u]
    · rcases ended with rfl | rfl
      · rw [exec_frameSilenceTimeout_of_live live, if_neg quiet']
        rfl
      · rw [exec_payloadLengthOverMaximum_of_live live, if_neg quiet']
        rfl
    · rw [exec_frameCheckError_of_live live, if_neg quiet']
      rfl
    · rw [exec_overlappingRequest_of_live live, if_neg quietLine, if_pos busy]
      rfl
    · rw [exec_overlappingRequest_of_live live, if_neg quietLine, if_neg (by simp [free])]
      rfl
    · rw [exec_frameEndedByAddressCharacter_of_live live, if_neg quiet', State.addressCharacter_u_of_free free]
      rfl
    · rw [exec_frameEndedByAddressCharacter_of_live live, if_neg quiet', State.addressCharacter_u_of_busy busy]
      rfl
  · have driving : s.driving .d = true := dde
    rcases received with rfl | rfl | rfl | rfl | rfl | rfl | ⟨a, rfl⟩ | ⟨a, k, p, rfl⟩ | ⟨a, p, rfl⟩
    · rw [exec_framingError_of_live live, if_pos driving]
    · rw [exec_framingError_of_live live, if_pos driving]
    · rw [exec_frameSilenceTimeout_of_live live, if_pos driving]
    · rw [exec_frameCheckError_of_live live, if_pos driving]
    · rw [exec_payloadLengthOverMaximum_of_live live, if_pos driving]
    · rw [exec_unexpectedFrame_of_live live, State.unexpectedFrame, if_pos dde]
    · rw [exec_frameEndedByAddressCharacter_of_live live, if_pos driving]
    · rw [exec_stationResponse_of_live live, if_pos dde]
    · rw [exec_relayResponse_of_live live, if_pos dde]
  · have quiet' : ¬s.driving .d = true := Bool.eq_false_iff.1 quiet
    refine ⟨fun f => ?_, fun c ended => ?_, ?_, fun a => ?_, ?_⟩
    · rw [exec_framingError_of_live live, if_neg quiet', State.framingError_d timely]
    · rcases ended with rfl | rfl
      · rw [exec_frameSilenceTimeout_of_live live, if_neg quiet', State.endFrame_d timely]
      · rw [exec_payloadLengthOverMaximum_of_live live, if_neg quiet', State.endFrame_d timely]
    · rw [exec_frameCheckError_of_live live, if_neg quiet', State.checkError_d timely]
    · rw [exec_frameEndedByAddressCharacter_of_live live, if_neg quiet', State.addressCharacter_d timely]
    · rw [exec_unexpectedFrame_of_live live, State.unexpectedFrame_of_timely timely quiet]

end Sys2Proof.Machine
end

section
/-! PROOFS. RESET's answer, the end of a reply (R158, R186) and the link silence timer's expiry (R164), which decides a
pending presentation by the local permit (R14). -/

namespace Sys2Proof.Machine

section
variable {s : State}

theorem exec_replyComplete_of_live (live : s.live = true) : exec .replyComplete s = .next (
    if s.uport.inHand.isSome then
      s.withUport { s.uport with
        inHand := none, phase := .none, resetDue := s.uport.resetDue || s.uport.resetAsked, resetAsked := false }
    else s) :=
  whenPowered_of_live s live fun t =>
    if t.uport.inHand.isSome then
      t.withUport { t.uport with
        inHand := none, phase := .none, resetDue := t.uport.resetDue || t.uport.resetAsked, resetAsked := false }
    else t

theorem exec_linkSilenceExpiry_of_live (live : s.live = true) : exec .linkSilenceExpiry s = .next (
    if s.uport.silence.isSome then s.linkSilent else s) :=
  whenPowered_of_live s live fun t => if t.uport.silence.isSome then t.linkSilent else t

/-- The link as its silence leaves it (R164), before the pending presentation is decided. -/
def State.silenced (s : State) : State :=
  ({ s with uport := { s.uport with silence := none, link := .standalone } } : State).raise (.linkState .standalone)

theorem State.silenced_eq : s.silenced = { s with uport := s.silenced.uport } := by
  unfold silenced
  rw [raise_eq_raised]

theorem State.linkSilent_of_online (online : s.uport.link = .online) : s.linkSilent = s.silenced.decideLocally :=
  if_pos online

theorem State.linkSilent_of_standalone (standalone : s.uport.link = .standalone) :
    s.linkSilent = { s with uport := { s.uport with silence := none } } :=
  if_neg (by simp [standalone])

theorem State.decideLocally_of_none (none : s.session.presentation = none) : s.decideLocally = s := by
  rw [decideLocally, none]

theorem State.decideLocally_of_some {x : Presentation} (pending : s.session.presentation = some x) :
    s.decideLocally = s.unpresent.localDecision x.card x.tag x.vehicle s.heldTag := by
  rw [decideLocally, pending]

/-- The link's silence is nothing to the local permit's check (R13). -/
theorem State.permitCheck_silenced (card tag : Nat) : s.silenced.unpresent.permitCheck card tag = s.permitCheck card tag := by
  rw [silenced_eq]
  rfl

end

/-- Settles O53: the link's silence and the presentation's decision are `silenced` and the decision of R14. -/
theorem replyEndAndLinkLoss : Obligations.ReplyEndAndLinkLoss := by
  refine fun s live => ⟨fun tag hearing => ?_, fun busy => ?_, fun free => ?_, fun stopped => ?_,
    fun running standalone => ?_, fun running online => ?_⟩
  · exact request_of_hearing hearing (by simp) _ _ _
  · rw [exec_replyComplete_of_live live, if_pos busy]
    rfl
  · rw [exec_replyComplete_of_live live, if_neg (by simp [free])]
  · rw [exec_linkSilenceExpiry_of_live live, if_neg (by simp [stopped])]
  · rw [exec_linkSilenceExpiry_of_live live, if_pos running, State.linkSilent_of_standalone standalone]
  · have run : exec .linkSilenceExpiry s = .next s.silenced.decideLocally := by
      rw [exec_linkSilenceExpiry_of_live live, if_pos running, State.linkSilent_of_online online]
    intro v
    have named : v = s.silenced := rfl
    clear_value v
    subst named
    have session : s.silenced.session = s.session := by rw [State.silenced_eq]
    refine ⟨fun none => ?_, fun x e pending refused => ?_, fun x p pending granted canonical =>
      ⟨s.silenced.unpresent.openSession ⟨x.card, x.tag, some p, x.vehicle, .local_, 0, 0⟩,
        s.newSession ⟨x.card, x.tag, some p, x.vehicle, .local_, 0, 0⟩, ?_, ?_⟩⟩
    · rw [run, State.decideLocally_of_none (session ▸ none)]
    · rw [run, State.decideLocally_of_some (session ▸ pending),
        State.localDecision_of_error ((State.permitCheck_silenced _ _).trans refused), State.heldTag, State.unpresent, session]
      rfl
    · rw [run, State.decideLocally_of_some (session ▸ pending),
        State.localDecision_of_ok ((State.permitCheck_silenced _ _).trans granted)]
    · have order : s.silenced.unpresent.canonical = true := by
        rw [State.silenced_eq]
        exact canonical
      have permits := State.permit_openSession order ⟨x.card, x.tag, some p, x.vehicle, .local_, 0, 0⟩ fun i named =>
        Option.some.inj named ▸ State.undamaged_of_findPermit order
          (State.findPermit_of_ok ((State.permitCheck_silenced _ _).trans granted))
      have stands : ∀ j, s.silenced.unpresent.permit j = s.permit j := fun j => by
        rw [State.silenced_eq]
        rfl
      simp only [stands] at permits
      refine ⟨?_, rfl, rfl, rfl, rfl, rfl, rfl, rfl, rfl, rfl, ?_, ?_, ?_, ?_⟩
      · rw [State.openSession_eq, State.silenced_eq]
        rfl
      · rw [permits, if_pos rfl]
      · intro y other
        rw [permits, if_neg fun same => other (Option.some.inj same).symm]
      · rw [State.openSession_eq, State.tellReader_eq_pushed, State.silenced_eq]
        rfl
      · rw [State.openSession_eq, State.silenced_eq]
        exact (State.raise_highRaised { s with uport := s.silenced.uport } _).symm

end Sys2Proof.Machine
end

section
/-! SUPPORT. Figures in bytes: what a field reads from bytes laid out one after another (R192). -/

namespace Sys2Proof.Machine

theorem ofBe_foldl (l : List Byte) (m : Nat) :
    l.foldl (fun n b => n * 256 + b.toNat) m = m * 256 ^ l.length + ofBe l := by
  unfold ofBe
  induction l generalizing m with
  | nil => simp
  | cons b l ih =>
    rw [List.foldl_cons, ih, List.foldl_cons, ih (0 * 256 + b.toNat), List.length_cons, Nat.pow_succ']
    ring

theorem ofBe_cons (b : Byte) (l : List Byte) : ofBe (b :: l) = b.toNat * 256 ^ l.length + ofBe l := by
  rw [ofBe, List.foldl_cons, ofBe_foldl, Nat.zero_mul, Nat.zero_add]

theorem ofBe_lt (l : List Byte) : ofBe l < 256 ^ l.length := by
  induction l with
  | nil => simp [ofBe]
  | cons b l ih =>
    rw [ofBe_cons, List.length_cons, Nat.pow_succ']
    have byte : b.toNat + 1 ≤ 256 := b.isLt
    calc b.toNat * 256 ^ l.length + ofBe l
        < (b.toNat + 1) * 256 ^ l.length := by rw [Nat.succ_mul]; omega
      _ ≤ 256 * 256 ^ l.length := Nat.mul_le_mul_right _ byte

/-- The bytes of a figure spell it, as far as they hold it. -/
theorem ofBe_be (w n : Nat) : ofBe (be w n) = n % 256 ^ w := by
  induction w with
  | zero => simp [be, ofBe, Nat.mod_one]
  | succ w ih =>
    rw [be, ofBe_cons, ih, be_length, BitVec.toNat_ofNat, Nat.mod_pow_succ (b := 256), Nat.add_comm, Nat.mul_comm]

theorem field_lt (p : List Byte) (a w : Nat) : field p a w < 256 ^ w :=
  (ofBe_lt _).trans_le (Nat.pow_le_pow_right (by omega) (List.length_take_le _ _))

@[simp] theorem field_be (w n : Nat) : field (be w n) 0 w = n % 256 ^ w := by
  rw [field, List.drop_zero, List.take_of_length_le (be_length w n).le, ofBe_be]

@[simp] theorem field_be_append (w n : Nat) (r : List Byte) : field (be w n ++ r) 0 w = n % 256 ^ w := by
  rw [field, List.drop_zero, List.take_left' (be_length w n), ofBe_be]

/-- A field behind a part of known length. -/
theorem field_behind {l : List Byte} {k a : Nat} (length : l.length = k) (behind : k ≤ a) (r : List Byte) (v : Nat) :
    field (l ++ r) a v = field r (a - k) v := by
  rw [field, field, List.drop_append, List.drop_eq_nil_of_le (by omega), List.nil_append, length]

@[simp] theorem field_behind_be {w n a : Nat} (behind : w ≤ a) (r : List Byte) (v : Nat) :
    field (be w n ++ r) a v = field r (a - w) v := field_behind (be_length w n) behind r v

@[simp] theorem field_cons_zero (b : Byte) (r : List Byte) : field (b :: r) 0 1 = b.toNat := by simp [field, ofBe]

@[simp] theorem field_cons {a : Nat} (behind : 1 ≤ a) (b : Byte) (r : List Byte) (v : Nat) :
    field (b :: r) a v = field r (a - 1) v := field_behind (l := [b]) rfl behind r v

@[simp] theorem byteAt_behind_be {w n i : Nat} (behind : w ≤ i) (r : List Byte) :
    byteAt (be w n ++ r) i = byteAt r (i - w) := by
  rw [byteAt, List.getD_append_right _ _ _ _ (by simpa using behind), be_length, byteAt]

@[simp] theorem byteAt_cons_zero (b : Byte) (r : List Byte) : byteAt (b :: r) 0 = b := rfl

@[simp] theorem byteAt_cons {i : Nat} (behind : 1 ≤ i) (b : Byte) (r : List Byte) :
    byteAt (b :: r) i = byteAt r (i - 1) := by
  obtain ⟨j, rfl⟩ := Nat.exists_eq_add_of_le' behind
  rfl

end Sys2Proof.Machine
end

section
/-! PROOFS. Records from stations: the end of a turn that they answer (R167 to R170), their routing (R171, R195), and the
frames that are no response (R169). -/

namespace Sys2Proof.Machine

section
variable {s : State}

/-! ### A turn that is answered (R167 to R170) -/

/-- The end of a turn moves the cursor and the round alone. -/
theorem State.advance_eq (s : State) : s.advance = { s with
    dport := { s.dport with cursor := s.advance.dport.cursor, round := s.advance.dport.round } } := by
  unfold advance
  split
  · split <;> rfl
  · rfl

/-- A station as the response to a turn leaves it; an answered verdict frame leaves the list (R170). -/
def Station.responded (x : Station) (kind : TurnKind) : Station := { x with
  state := .online, misses := 0
  verdicts := if kind = .verdict then x.verdicts.drop x.carried else x.verdicts
  carried := if kind = .verdict then 0 else x.carried }

/-- The state after a station's response, its turn over, before the cursor moves on. -/
def State.responded (s : State) (i : Fin 12) (kind : TurnKind) : State := { s with
  dport := { s.dport with turn := none, stations := Vec.set s.dport.stations i ((s.station i).responded kind) }
  uport := if (s.station i).state = .offline then s.uport.raised s.custody.clock
      (.deviceState (s.device i).address (s.device i).role (s.device i).arm .online) else s.uport }

/-- What an answered turn leaves, before its own end (R167, R170): an address that no entry holds is no station's. -/
def State.answered (s : State) (t : Turn) : State :=
  match s.findDevice t.address with
  | some i => s.responded i t.kind
  | none => s.clearTurn

theorem State.stationResponded_eq (s : State) (i : Fin 12) : s.stationResponded i = { s with
    dport := { s.dport with
      stations := Vec.set s.dport.stations i { s.station i with state := .online, misses := 0 } }
    uport := if (s.station i).state = .offline then s.uport.raised s.custody.clock
      (.deviceState (s.device i).address (s.device i).role (s.device i).arm .online) else s.uport } := by
  unfold stationResponded
  dsimp only
  split
  · rw [raise_eq_raised]
    rfl
  · rfl

theorem Vec.set_set {α : Type} {n : Nat} (v : Vector α n) (k : Fin n) (x y : α) :
    Vec.set (Vec.set v k x) k y = Vec.set v k y := by
  simp [Vec.set]

/-- A verdict frame's answer leaves the station as the one assignment does. -/
theorem State.stationResponded_responded (s : State) (i : Fin 12) (kind : TurnKind) :
    (if kind = TurnKind.verdict then (s.clearTurn.stationResponded i).dropCarried i else s.clearTurn.stationResponded i) =
      s.responded i kind := by
  rw [stationResponded_eq, responded, Station.responded]
  by_cases verdict : kind = .verdict
  · simp only [if_pos verdict]
    simp only [dropCarried, station, setStation, withDport, clearTurn, Vec.get_set_same, Vec.set_set]
    rfl
  · simp only [if_neg verdict]
    rfl

theorem State.turnAnswered_eq (t : Turn) (p : List Byte) : s.turnAnswered t p =
    if t.kind = .relay then (s.answered t).relayOutcome .replied p else (s.answered t).advance := by
  have same : s.clearTurn.findDevice t.address = s.findDevice t.address := rfl
  unfold turnAnswered answered
  simp only [same]
  cases s.findDevice t.address with
  | none => rfl
  | some i => simp only [stationResponded_responded]

/-! ### The records' bytes (Table 10-8) -/

theorem State.route_card (a : Byte) (n : BitVec 40) : s.route a 0x48 (cardRecord n) = s.cardFrom a n := by
  simp [route, cardRecord, Nat.mod_eq_of_lt (show n.toNat < 1099511627776 from n.isLt)]

theorem State.route_tag (a : Byte) (n : BitVec 32) : s.route a 0x48 (tagRecord n) = s.tagFrom a n := by
  simp [route, tagRecord, Nat.mod_eq_of_lt (show n.toNat < 4294967296 from n.isLt)]

theorem State.route_temp (a : Byte) (x : BitVec 16) (q : Byte) : s.route a 0x48 (tempRecord x q) = s.tempFrom a x q := by
  simp [route, tempRecord, Nat.mod_eq_of_lt (show x.toNat < 65536 from x.isLt)]

theorem State.route_keySetup (a k c g : Byte) (v : BitVec 24) (r : Byte) :
    s.route a 0x48 (keyRecord .setup k c g v r) = s.keySetupFrom a k c g v r := by
  simp [route, keyRecord, opCode, Nat.mod_eq_of_lt (show v.toNat < 16777216 from v.isLt)]

/-- A KEY record without a recipe's choice takes the keypad's operation on the arm. -/
theorem State.keyFrom_record (a k : Byte) (op : BatchOp) (t : State) :
    s.keyFrom a k op (keyRecord op k 0 0 0 0) t = s.keyFrom a k op [] t := by
  simp [keyFrom, keyRecord]

theorem State.route_key (a k : Byte) : 
    s.route a 0x48 (keyRecord .start k 0 0 0 0) = s.keyFrom a k .start [] (s.keyStart a k) ∧
    s.route a 0x48 (keyRecord .stop k 0 0 0 0) = s.keyFrom a k .stop [] (s.keyStop a k) ∧
    s.route a 0x48 (keyRecord .suspend k 0 0 0 0) = s.keyFrom a k .suspend [] (s.keySuspend a k) ∧
    s.route a 0x48 (keyRecord .resume k 0 0 0 0) = s.keyFrom a k .resume [] (s.keyResume a k) := by
  simp only [← s.keyFrom_record]
  refine ⟨?_, ?_, ?_, ?_⟩ <;> simp [route, keyRecord, opCode]

theorem State.route_none (a : Byte) : s.route a 0x48 [0] = s := by simp [route]

/-- R195: a payload of another kind, of a length that no record has, or of no record's kind. -/
theorem State.route_of_other {kind : Byte} {p : List Byte}
    (other : kind ≠ 0x48 ∨ p.length ∉ [1, 4, 5, 6, 9] ∨ 5 ≤ field p 0 1) (a : Byte) :
    s.route a kind p = s.countUnexpected := by
  unfold route
  by_cases record : kind ≠ 0x48
  · exact if_pos record
  · have unlike := other.resolve_left record
    simp only [List.mem_cons, List.not_mem_nil, or_false, not_or] at unlike
    rw [if_neg record]
    split <;> try omega
    rfl

/-! ### A frame that is the turn's response, and one that is not (R166, R169) -/

section
variable {t : Turn} (turn : s.dport.turn = some t)
include turn

theorem State.dde_of_turn (sent : t.phase ≠ .sending) : s.dde = false := by
  simpa [dde, turn] using sent

theorem State.awaited_of_held (sent : t.phase ≠ .sending) (held : (s.findDevice t.address).isSome = true) :
    s.awaited t.address = some t := by
  rw [awaited, turn]
  exact if_pos ⟨sent, rfl, held⟩

theorem State.awaited_of_other {a : Byte} (other : a ≠ t.address ∨ s.findDevice t.address = none) :
    s.awaited a = none := by
  rw [awaited, turn]
  refine if_neg fun ⟨_, same, held⟩ => ?_
  subst same
  rcases other with other | unheld
  · exact other rfl
  · simp [unheld] at held

/-- A frame that is no response leaves a turn that waits waiting. -/
theorem State.unexpectedFrame_of_waiting (waiting : t.phase = .waiting) : s.unexpectedFrame = { s with
    dport := { s.dport with unexpected := min 65535 (s.dport.unexpected + 1), assembling := false } } :=
  State.unexpectedFrame_of_timely (fun u same => by simp_all) (State.dde_of_turn turn (by simp [waiting]))

end

/-- The state after a response to a poll or a verdict frame, before its record is offered (log 80). -/
def State.heard (s : State) (t : Turn) : State :=
  (s.withDport { s.dport with assembling := false }).turnAnswered t []

theorem State.stationFrame_of_awaited {a : Byte} {t : Turn} (awaited : s.awaited a = some t) (kind : Byte) (p : List Byte)
    (noRelay : t.kind ≠ .relay) : s.stationFrame a kind p = (s.heard t).route a kind p := by
  rw [stationFrame, awaited]
  exact if_neg noRelay

theorem State.relayAnswered_of_awaited {a : Byte} {t : Turn} (awaited : s.awaited a = some t) (p : List Byte)
    (noRelay : t.kind ≠ .relay) : s.relayAnswered a p = (s.heard t).countUnexpected := by
  rw [relayAnswered, awaited]
  exact if_neg noRelay

theorem State.answered_turn (t : Turn) : (s.answered t).dport.turn = none := by
  unfold answered
  cases s.findDevice t.address <;> rfl

theorem State.heard_turn {t : Turn} (noRelay : t.kind ≠ .relay) : (s.heard t).dport.turn = none := by
  rw [heard, turnAnswered_eq, if_neg noRelay, advance_eq]
  exact answered_turn t

theorem State.heard_live (t : Turn) : (s.heard t).live = s.live := by simp [live, heard]

/-! ### Records that no entry of their role may send (R171, R195) -/

/-- A record is not accepted: its address has no entry of its role, or its layout is broken. -/
theorem State.offer_of_unheld {a : Byte} {role : Role} {ok : Bool}
    (unheld : (∀ i, s.findDevice a = some i → (s.device i).role ≠ some role) ∨ ok = false) (record : List Byte)
    (block : Fin 12 → State) : s.offer a role ok record block =
      { s with dport := { s.dport with unexpected := min 65535 (s.dport.unexpected + 1) } } := by
  unfold offer
  cases found : s.findDevice a with
  | none => rfl
  | some i =>
    refine if_neg fun ⟨held, fits⟩ => ?_
    rcases unheld with other | broken
    · exact other i found held
    · simp [broken] at fits

end

section
variable {s : State}

theorem exec_card_of_live (live : s.live = true) (a : Byte) (n : BitVec 40) :
    exec (.card a n) s = .next (s.cardFrom a n) := whenPowered_of_live s live fun t => t.cardFrom a n

theorem exec_tag_of_live (live : s.live = true) (a : Byte) (n : BitVec 32) :
    exec (.tag a n) s = .next (s.tagFrom a n) := whenPowered_of_live s live fun t => t.tagFrom a n

theorem exec_temp_of_live (live : s.live = true) (a : Byte) (x : BitVec 16) (q : Byte) :
    exec (.temp a x q) s = .next (s.tempFrom a x q) := whenPowered_of_live s live fun t => t.tempFrom a x q

theorem exec_keySetup_of_live (live : s.live = true) (a k c g : Byte) (v : BitVec 24) (r : Byte) :
    exec (.keySetup a k c g v r) s = .next (s.keySetupFrom a k c g v r) :=
  whenPowered_of_live s live fun t => t.keySetupFrom a k c g v r

theorem exec_keyStart_of_live (live : s.live = true) (a k : Byte) :
    exec (.keyStart a k) s = .next (s.keyFrom a k .start [] (s.keyStart a k)) :=
  whenPowered_of_live s live fun t => t.keyFrom a k .start [] (t.keyStart a k)

theorem exec_keyStop_of_live (live : s.live = true) (a k : Byte) :
    exec (.keyStop a k) s = .next (s.keyFrom a k .stop [] (s.keyStop a k)) :=
  whenPowered_of_live s live fun t => t.keyFrom a k .stop [] (t.keyStop a k)

theorem exec_keySuspend_of_live (live : s.live = true) (a k : Byte) :
    exec (.keySuspend a k) s = .next (s.keyFrom a k .suspend [] (s.keySuspend a k)) :=
  whenPowered_of_live s live fun t => t.keyFrom a k .suspend [] (t.keySuspend a k)

theorem exec_keyResume_of_live (live : s.live = true) (a k : Byte) :
    exec (.keyResume a k) s = .next (s.keyFrom a k .resume [] (s.keyResume a k)) :=
  whenPowered_of_live s live fun t => t.keyFrom a k .resume [] (t.keyResume a k)

end

/-- Settles O57: what an unaccepted record, a turn's record, a stray frame and a forwarded copy each do. -/
theorem wrongRoleCounted : Obligations.WrongRoleCounted := by
  refine ⟨fun s a c role live record wrong => ?_, fun s t live turn sent noRelay held => ?_,
    fun s t a kind p live turn waiting other => ?_, fun s a role x => ⟨fun few => if_pos few, fun full => if_neg (by omega)⟩⟩
  · rcases record with ⟨n, rfl, rfl⟩ | ⟨n, rfl, rfl⟩ | ⟨x, q, rfl, rfl⟩ | ⟨k, c, g, v, r, rfl, rfl⟩ | ⟨k, op, rfl⟩
    · rw [exec_card_of_live live, State.cardFrom, State.offer_of_unheld (.inl (by simpa using wrong))]
    · rw [exec_tag_of_live live, State.tagFrom, State.offer_of_unheld (.inl (by simpa using wrong))]
    · rw [exec_temp_of_live live, State.tempFrom, State.offer_of_unheld (wrong.imp id fun broken => by simp at broken ⊢; omega)]
    · rw [exec_keySetup_of_live live, State.keySetupFrom,
        State.offer_of_unheld (wrong.imp id fun broken => by simp at broken ⊢; omega)]
    · have unheld := wrong.resolve_right (by rcases op with rfl | rfl | rfl | rfl <;> simp)
      rcases op with rfl | rfl | rfl | rfl
      · rw [exec_keyStart_of_live live, State.keyFrom, State.offer_of_unheld (.inl unheld)]
      · rw [exec_keyStop_of_live live, State.keyFrom, State.offer_of_unheld (.inl unheld)]
      · rw [exec_keySuspend_of_live live, State.keyFrom, State.offer_of_unheld (.inl unheld)]
      · rw [exec_keyResume_of_live live, State.keyFrom, State.offer_of_unheld (.inl unheld)]
  · have quiet : ¬s.dde = true := by simp [State.dde_of_turn turn sent]
    have awaited := State.awaited_of_held turn sent held
    have run : ∀ kind p, exec (.stationResponse t.address kind p) s = .next ((s.heard t).route t.address kind p) :=
      fun kind p => by rw [exec_stationResponse_of_live live, if_neg quiet, State.stationFrame_of_awaited awaited _ _ noRelay]
    have heard : (s.heard t).live = true := (State.heard_live t).trans live
    refine ⟨s.heard t, ?_, heard, State.heard_turn noRelay, fun n => ?_, fun n => ?_, fun x q => ?_,
      fun k c g v r => ?_, fun k => ?_, fun kind p other => ?_, fun p => ?_⟩
    · rw [run, State.route_none]
    · rw [run, State.route_card, exec_card_of_live heard]
    · rw [run, State.route_tag, exec_tag_of_live heard]
    · rw [run, State.route_temp, exec_temp_of_live heard]
    · rw [run, State.route_keySetup, exec_keySetup_of_live heard]
    · obtain ⟨start, stop, suspend, resume⟩ := (s.heard t).route_key t.address k
      rw [run, run, run, run, start, stop, suspend, resume, exec_keyStart_of_live heard, exec_keyStop_of_live heard,
        exec_keySuspend_of_live heard, exec_keyResume_of_live heard]
      exact ⟨rfl, rfl, rfl, rfl⟩
    · rw [run, State.route_of_other other]
      rfl
    · rw [exec_relayResponse_of_live live, if_neg quiet, State.relayAnswered_of_awaited awaited _ noRelay]
      rfl
  · have quiet : ¬s.dde = true := by simp [State.dde_of_turn turn (by simp [waiting])]
    have stray := State.unexpectedFrame_of_waiting turn waiting
    rw [exec_stationResponse_of_live live, exec_relayResponse_of_live live, if_neg quiet, if_neg quiet, State.stationFrame,
      State.relayAnswered, State.awaited_of_other turn other, stray]
    exact ⟨rfl, rfl⟩

end Sys2Proof.Machine
end

section
/-! PROOFS. How a turn of the D line ends (R167 to R170, R173). -/

namespace Sys2Proof.Machine

/-! ### What a fault's response leaves of the D port -/

/-- At most verdicts have joined the stations' lists. -/
structure DPort.Told (d e : DPort) : Prop where
  stands : e = { d with stations := e.stations, verdictDrop := e.verdictDrop }
  station : ∀ i, (Vec.get e.stations i).state = (Vec.get d.stations i).state ∧
    (Vec.get e.stations i).misses = (Vec.get d.stations i).misses

theorem DPort.told_refl (d : DPort) : d.Told d := ⟨rfl, fun _ => ⟨rfl, rfl⟩⟩

theorem DPort.told_pushed (d : DPort) (i : Option (Fin 12)) (v : Verdict) : d.Told (d.pushed i v) := by
  cases i with
  | none => exact ⟨rfl, fun _ => ⟨rfl, rfl⟩⟩
  | some i =>
    unfold pushed
    dsimp only
    split_ifs
    · refine ⟨rfl, fun j => ?_⟩
      rw [Vec.get_set]
      split_ifs with same
      · subst same; exact ⟨rfl, rfl⟩
      · exact ⟨rfl, rfl⟩
    · refine ⟨rfl, fun j => ?_⟩
      rw [Vec.get_set]
      split_ifs with same
      · subst same; exact ⟨rfl, rfl⟩
      · exact ⟨rfl, rfl⟩

section
variable (s : State)

theorem State.settlePresentation_told : s.dport.Told s.settlePresentation.dport := by
  unfold settlePresentation
  split
  · split_ifs
    · exact s.dport.told_refl
    · rw [refuse_eq]
      exact s.dport.told_pushed _ _
  · exact s.dport.told_refl

theorem State.stopBayResponse_told (c : FaultClass) : s.dport.Told (s.stopBayResponse c).dport := by
  unfold stopBayResponse
  dsimp only
  split
  · rw [(State.abort_frame _ _ _).2.2.2.2.2.2.2.2.2.2.2.1]
    exact s.dport.told_refl
  · exact s.dport.told_refl
  · exact (State.settlePresentation_told _ : DPort.Told (s.setFault c _).dport _)
  · exact (State.settlePresentation_told _ : DPort.Told (s.setFault c _).dport _)
  · exact (State.settlePresentation_told _ : DPort.Told (s.setFault c _).dport _)

/-- A fault raised tells the card reader at most. -/
theorem State.raiseFault_told (c : FaultClass) (k : Option (Fin 4)) (x : Subject) (drill : Bool)
    (action : Option FailureAction) : s.dport.Told (s.raiseFault c k x drill action).dport := by
  have reported : ((s.flagMeter c k).reportFault c k x drill (s.response c action)).dport = s.dport := by simp
  unfold raiseFault
  dsimp only
  rw [← reported]
  cases s.response c action with
  | report => exact DPort.told_refl _
  | recipe => exact DPort.told_refl _
  | stopArm => simpa [respond] using DPort.told_refl _
  | stopBay => exact State.stopBayResponse_told _ c

end

/-! ### A station that goes OFFLINE (R167) -/

/-- A station OFFLINE with its event and the fault, before its verdicts are dropped. -/
def State.offlined (s : State) (i : Fin 12) : State :=
  let e := s.device i
  let s1 := (s.setStation i { s.station i with state := .offline, misses := 3 }).raise
    (.deviceState e.address e.role e.arm .offline)
  match e.role with
  | some .cardReader | some .tagReader | some .tempXmtr => s1.raiseFault .deviceLost e.arm (.device e.address) false none
  | some .keypad | none => s1

section
variable (s : State) (i : Fin 12)

theorem State.goOffline_eq : s.goOffline i = ((s.offlined i).dropVerdicts i).dropCandidate (s.device i).role := rfl

theorem State.offlined_told : DPort.Told
    { s.dport with stations := Vec.set s.dport.stations i { s.station i with state := .offline, misses := 3 } }
    (s.offlined i).dport := by
  have raised : ((s.setStation i { s.station i with state := .offline, misses := 3 }).raise
      (.deviceState (s.device i).address (s.device i).role (s.device i).arm .offline)).dport =
      { s.dport with stations := Vec.set s.dport.stations i { s.station i with state := .offline, misses := 3 } } := by
    rw [raise_eq_raised]
    rfl
  unfold offlined
  dsimp only
  rw [← raised]
  split
  · exact State.raiseFault_told _ _ _ _ _ _
  · exact State.raiseFault_told _ _ _ _ _ _
  · exact State.raiseFault_told _ _ _ _ _ _
  · exact DPort.told_refl _
  · exact DPort.told_refl _

/-- The fault of a station that is lost names no keypad (R167). -/
theorem State.offlined_safety :
    ((s.device i).role = some .keypad → (s.offlined i).safety = s.safety) ∧
    ((s.device i).role ≠ some .keypad → (s.device i).role ≠ none →
      ((s.offlined i).fault .deviceLost).count = min 255 ((s.fault .deviceLost).count + 1)) := by
  have raised : ((s.setStation i { s.station i with state := .offline, misses := 3 }).raise
      (.deviceState (s.device i).address (s.device i).role (s.device i).arm .offline)).safety = s.safety := by
    rw [raise_eq_raised]
    rfl
  have struck : ∀ k x, ((((s.setStation i { s.station i with state := .offline, misses := 3 }).raise
      (.deviceState (s.device i).address (s.device i).role (s.device i).arm .offline)).raiseFault
        .deviceLost k x false none).fault .deviceLost).count = min 255 ((s.fault .deviceLost).count + 1) := fun k x => by
    rw [fault_raiseFault, if_pos rfl]
    change min 255 ((State.fault _ _).count + 1) = _
    rw [State.fault_congr (s := s) (congrArg SafetyBlk.faults raised)]
  unfold offlined
  dsimp only
  cases role : (s.device i).role with
  | none => exact ⟨fun keypad => (nomatch keypad), fun _ some => absurd rfl some⟩
  | some r =>
    rw [role] at raised struck
    cases r with
    | keypad => exact ⟨fun _ => raised, fun other => absurd rfl other⟩
    | cardReader => exact ⟨fun keypad => (nomatch keypad), fun _ _ => struck _ _⟩
    | tagReader => exact ⟨fun keypad => (nomatch keypad), fun _ _ => struck _ _⟩
    | tempXmtr => exact ⟨fun keypad => (nomatch keypad), fun _ _ => struck _ _⟩

theorem State.dropCandidate_eq (r : Option Role) : s.dropCandidate r = { s with session := { s.session with
    candidate := if r = some .tagReader then none else s.session.candidate } } := by
  unfold dropCandidate
  split_ifs <;> rfl

/-- What a station that goes OFFLINE leaves (R7, R167, R170). -/
theorem State.goOffline_leaves : (s.goOffline i).dport.turn = s.dport.turn ∧ (s.goOffline i).dport.cursor = s.dport.cursor ∧
    (s.goOffline i).dport.round = s.dport.round ∧ (s.goOffline i).station i = ⟨.offline, 3, [], 0⟩ ∧
    (s.goOffline i).safety = (s.offlined i).safety ∧
    ((s.device i).role = some .tagReader → (s.goOffline i).session.candidate = none) := by
  obtain ⟨stands, station⟩ := s.offlined_told i
  have here := station i
  rw [Vec.get_set_same] at here
  rw [goOffline_eq, dropCandidate_eq]
  generalize s.offlined i = v at stands here
  have turn : v.dport.turn = s.dport.turn := by rw [stands]
  have cursor : v.dport.cursor = s.dport.cursor := by rw [stands]
  have round : v.dport.round = s.dport.round := by rw [stands]
  refine ⟨turn, cursor, round, ?_, rfl, fun reader => if_pos reader⟩
  · refine (station_setStation _ _ _ _).trans ((if_pos rfl).trans ?_)
    change (⟨(Vec.get v.dport.stations i).state, (Vec.get v.dport.stations i).misses, [], 0⟩ :
      Station) = _
    rw [here.1, here.2]

end

/-! ### A turn that ends as a miss -/

section
variable {s : State} {t : Turn}

/-- What a missed turn leaves, before its own end (R167): an address that no entry holds is no station's. -/
def State.missed (s : State) (t : Turn) : State :=
  match s.findDevice t.address with
  | some i => (s.clearTurn.setStation i { s.station i with carried := 0 }).stationMissed i
  | none => s.clearTurn

/-- The frame in reception has ended (R153). -/
def State.frameEnded (s : State) : State := s.withDport { s.dport with assembling := false }

/-- The end of a turn by its kind: a relay's place takes the outcome, else the cursor goes on (R168, R173). -/
def State.ended (s : State) (kind : TurnKind) (o : RelayOutcome) (p : List Byte) : State :=
  if kind = .relay then s.relayOutcome o p else s.advance

theorem State.turnMissed_eq (s : State) (t : Turn) : s.turnMissed t = (s.missed t).ended t.kind .noResponse [] := by
  have same : s.clearTurn.findDevice t.address = s.findDevice t.address := rfl
  unfold turnMissed missed
  simp only [same]
  cases s.findDevice t.address <;> rfl

/-- The relay places with the outcome of a turn (R173). -/
def UPort.outcome (u : UPort) (o : RelayOutcome) (p : List Byte) : UPort := { u with
  relayUp := u.relayUp.map fun x => match x with
    | .reserved g a => .filled (.outcome g a o p)
    | .filled r => .filled r }

theorem State.ended_eq (s : State) (kind : TurnKind) (o : RelayOutcome) (p : List Byte) : s.ended kind o p = { s with
    dport := { s.dport with
      cursor := (s.ended kind o p).dport.cursor, round := (s.ended kind o p).dport.round }
    uport := if kind = .relay then s.uport.outcome o p else s.uport } := by
  unfold ended
  split_ifs
  · rfl
  · exact s.advance_eq

theorem State.station_ended (s : State) (kind : TurnKind) (o : RelayOutcome) (p : List Byte) (j : Fin 12) :
    (s.ended kind o p).station j = s.station j := by
  rw [ended_eq]
  rfl

/-- The cursor passes on from the turn's state by the turn's kind. -/
theorem State.passesOn_ended {v : State} (cursor : v.dport.cursor = s.dport.cursor)
    (round : v.dport.round = s.dport.round) (o : RelayOutcome) (p : List Byte) : s.passesOn (v.ended t.kind o p) t := by
  refine ⟨fun noRelay c here => ?_, fun relay => ?_⟩
  · have moved := v.advance_advances c (cursor.trans here)
    rw [ended, if_neg noRelay]
    exact ⟨round ▸ moved.next, round ▸ moved.past⟩
  · rw [ended, if_pos relay]
    exact ⟨cursor, round⟩

theorem State.endOverdue_of_overdue (turn : s.dport.turn = some t) (overdue : t.phase = .overdue) :
    s.endOverdue = s.turnMissed t := by
  rw [endOverdue, turn]
  exact if_pos overdue

section
variable {i : Fin 12} (found : s.findDevice t.address = some i)
include found

theorem State.missed_of_offline (offline : (s.station i).state = .offline) : s.missed t = { s with
    dport := { s.dport with
      turn := none, stations := Vec.set s.dport.stations i { s.station i with carried := 0 } } } := by
  have here : (s.clearTurn.setStation i { s.station i with carried := 0 }).station i = { s.station i with carried := 0 } :=
    (station_setStation _ _ _ _).trans (if_pos rfl)
  simp only [missed, found]
  unfold stationMissed
  rw [here]
  exact if_pos offline

theorem State.missed_of_few (heard : (s.station i).state ≠ .offline) (few : (s.station i).misses < 2) : s.missed t = { s with
    dport := { s.dport with
      turn := none
      stations := Vec.set s.dport.stations i { s.station i with
        state := .silent, misses := (s.station i).misses + 1, carried := 0 } } } := by
  have here : (s.clearTurn.setStation i { s.station i with carried := 0 }).station i = { s.station i with carried := 0 } :=
    (station_setStation _ _ _ _).trans (if_pos rfl)
  simp only [missed, found]
  unfold stationMissed
  rw [here]
  refine (if_neg heard).trans ((if_neg (Nat.not_le.2 (Nat.succ_lt_succ few))).trans ?_)
  simp only [setStation, withDport, clearTurn, Vec.set_set]

theorem State.missed_of_third (heard : (s.station i).state ≠ .offline) (third : 2 ≤ (s.station i).misses) :
    s.missed t = (s.clearTurn.setStation i { s.station i with carried := 0 }).goOffline i := by
  have here : (s.clearTurn.setStation i { s.station i with carried := 0 }).station i = { s.station i with carried := 0 } :=
    (station_setStation _ _ _ _).trans (if_pos rfl)
  simp only [missed, found]
  unfold stationMissed
  rw [here]
  exact (if_neg heard).trans (if_pos (by simpa using third))

theorem State.answered_eq : s.answered t = s.responded i t.kind := by
  rw [answered, found]

end

end

section
variable {s : State}

theorem exec_dResponseTimeout_of_turn (live : s.live = true) {t : Turn} (turn : s.dport.turn = some t) (r : Bool) :
    exec (.dResponseTimeout r) s = .next (
      if t.phase = .waiting then
        if r || s.dport.assembling then s.withDport { s.dport with turn := some { t with phase := .overdue, timer := none } }
        else s.turnMissed t
      else s) := by
  have run := whenPowered_of_live s live fun t =>
    match t.dport.turn with
    | some x =>
      if x.phase = TurnPhase.waiting then
        if r || t.dport.assembling then t.withDport { t.dport with turn := some { x with phase := .overdue, timer := none } }
        else t.turnMissed x
      else t
    | none => t
  refine Eq.trans ?_ (run.trans ?_)
  · rfl
  · rw [turn]

end

theorem State.inRound_iff (s : State) (r : Nat) (i : Fin 12) : s.inRound r i = true ↔
    (s.device i).address ≠ 0 ∧ ((s.station i).state ≠ .offline ∨ r = 0) := by
  simp [inRound]

/-- Settles O56. -/
theorem turnOutcomes : Obligations.TurnOutcomes := by
  refine ⟨State.inRound_iff, fun s t live turn unheld waiting quiet => ?_, fun s i t live turn found => ?_⟩
  · have left : s.missed t = s.clearTurn := by rw [State.missed, unheld]
    have run : exec (.dResponseTimeout false) s = .next (s.clearTurn.ended t.kind .noResponse []) := by
      rw [exec_dResponseTimeout_of_turn live turn, if_pos waiting, if_neg (by simp [quiet]), State.turnMissed_eq, left]
    refine ⟨_, run, State.passesOn_ended (s := s) (t := t) (v := s.clearTurn) rfl rfl _ _, ?_, fun noRelay => ?_,
      fun relay => ?_⟩
    · rw [State.ended_eq]
      rfl
    · rw [State.ended_eq]
      exact if_neg noRelay
    · rw [State.ended_eq]
      exact if_pos relay
  · have timeout : t.phase = .waiting → s.dport.assembling = false →
        exec (.dResponseTimeout false) s = .next ((s.missed t).ended t.kind .noResponse []) := fun waiting quiet => by
      rw [exec_dResponseTimeout_of_turn live turn, if_pos waiting, if_neg (by simp [quiet]), State.turnMissed_eq]
    refine ⟨fun sent noRelay => ?_, fun sent relay heard p => ?_, fun r waiting receiving => ?_, fun early r => ?_,
      fun waiting quiet heard few => ?_, fun waiting quiet offline => ?_, fun waiting quiet heard third => ?_,
      fun overdue heard few => ?_⟩
    · have awaited := State.awaited_of_held turn sent (by simp [found])
      have run : exec (.stationResponse t.address 0x48 [0]) s = .next
        ((s.frameEnded.responded i t.kind).ended t.kind .replied []) := by
        rw [exec_stationResponse_of_live live, if_neg (by simp [State.dde_of_turn turn sent]),
          State.stationFrame_of_awaited awaited _ _ noRelay, State.route_none, State.heard, ← State.frameEnded,
            State.turnAnswered_eq,
          State.answered_eq (s := s.frameEnded) (i := i) found]
        rfl
      refine ⟨_, run, State.passesOn_ended (s := s) (t := t) (v := s.frameEnded.responded i t.kind) rfl rfl _ _, ?_,
        fun j other => ?_, ?_, fun online => ?_, fun offline => ?_⟩
      · rw [State.station_ended]
        exact Vec.get_set_same _ _ _
      · rw [State.station_ended]
        exact Vec.get_set_ne _ _ _ _ other
      · rw [State.ended_eq]
        rfl
      · rw [State.ended_eq]
        exact (if_neg noRelay).trans (if_neg online)
      · rw [State.ended_eq, State.raise_eq_raised]
        exact (if_neg noRelay).trans (if_pos offline)
    · have awaited := State.awaited_of_held turn sent (by simp [found])
      have run : exec (.relayResponse t.address p) s = .next ((s.frameEnded.responded i t.kind).ended t.kind .replied p) := by
        rw [exec_relayResponse_of_live live, if_neg (by simp [State.dde_of_turn turn sent]), State.relayAnswered, awaited]
        dsimp only
        rw [if_pos relay, ← State.frameEnded, State.turnAnswered_eq, State.answered_eq (s := s.frameEnded) (i := i) found]
        rfl
      have here := Vec.get_set_same s.dport.stations i ((s.station i).responded t.kind)
      refine ⟨_, run, State.passesOn_ended (s := s) (t := t) (v := s.frameEnded.responded i t.kind) rfl rfl _ _, ?_,
        ?_, ?_, ?_, ?_⟩
      · rw [State.ended_eq]
        rfl
      · rw [State.station_ended]
        exact congrArg Station.state here
      · rw [State.station_ended]
        exact congrArg Station.misses here
      · rw [State.ended_eq]
        exact (if_pos relay).trans (congrArg (UPort.outcome · .replied p) (if_neg heard))
      · rw [State.ended_eq]
        rfl
    · rw [exec_dResponseTimeout_of_turn live turn, if_pos waiting, if_pos (by simpa using receiving)]
      rfl
    · rw [exec_dResponseTimeout_of_turn live turn, if_neg early]
    · have left := State.missed_of_few found heard few
      refine ⟨_, timeout waiting quiet, State.passesOn_ended (s := s) (t := t) (v := s.missed t) ?_ ?_ _ _, ?_, ?_,
        fun j other => ?_, fun noRelay => ?_,
        fun relay => ?_⟩
      · rw [left]
      · rw [left]
      · rw [State.ended_eq, left]
      · rw [State.station_ended, left]
        exact Vec.get_set_same _ _ _
      · rw [State.station_ended, left]
        exact Vec.get_set_ne _ _ _ _ other
      · rw [State.ended_eq, left]
        exact if_neg noRelay
      · rw [State.ended_eq, left]
        exact if_pos relay
    · have left := State.missed_of_offline found offline
      refine ⟨_, timeout waiting quiet, State.passesOn_ended (s := s) (t := t) (v := s.missed t) ?_ ?_ _ _, ?_, ?_,
        fun j other => ?_, ?_, fun noRelay => ?_⟩
      · rw [left]
      · rw [left]
      · rw [State.ended_eq, left]
      · rw [State.station_ended, left]
        exact Vec.get_set_same _ _ _
      · rw [State.station_ended, left]
        exact Vec.get_set_ne _ _ _ _ other
      · rw [State.ended_eq, left]
      · rw [State.ended_eq, left]
        exact if_neg noRelay
    · have left := State.missed_of_third found heard third
      obtain ⟨ended, cursor, round, station, safety, candidate⟩ :=
        (s.clearTurn.setStation i { s.station i with carried := 0 }).goOffline_leaves i
      obtain ⟨keypad, struck⟩ := (s.clearTurn.setStation i { s.station i with carried := 0 }).offlined_safety i
      rw [← left] at ended cursor round station safety candidate
      refine ⟨_, timeout waiting quiet, State.passesOn_ended (s := s) (t := t) (v := s.missed t) cursor round _ _,
        ?_, ?_, fun reader => ?_,
        fun noKeypad role => ?_, fun role => ?_⟩
      · rw [State.ended_eq]
        exact ended
      · rw [State.station_ended, station]
      · rw [State.ended_eq]
        exact candidate reader
      · rw [State.ended_eq]
        exact (congrArg FaultRec.count (State.fault_congr (congrArg SafetyBlk.faults safety) _)).trans (struck noKeypad role)
      · rw [State.ended_eq]
        exact safety.trans (keypad role)
    · have stray : s.unexpectedFrame = ((({ s with dport := { s.dport with
          assembling := false, unexpected := min 65535 (s.dport.unexpected + 1) } } : State).missed t).ended
          t.kind .noResponse []) := by
        rw [State.unexpectedFrame, if_neg (by simp [State.dde_of_turn turn (by simp [overdue])]), ← State.frameEnded,
          State.endOverdue_of_overdue (s := s.frameEnded.countUnexpected) (t := t) turn overdue, State.turnMissed_eq]
        rfl
      have left := State.missed_of_few (s := { s with dport := { s.dport with
        assembling := false, unexpected := min 65535 (s.dport.unexpected + 1) } }) found heard few
      refine ⟨_, (exec_unexpectedFrame_of_live live).trans (congrArg Host.Outcome.next stray),
        State.passesOn_ended ?_ ?_ _ _, ?_, ?_, ?_⟩
      · rw [left]
      · rw [left]
      · rw [State.ended_eq, left]
      · rw [State.ended_eq, left]
      · rw [State.station_ended, left]
        exact Vec.get_set_same _ _ _

end Sys2Proof.Machine
end

section
/-! PROOFS. Which turn of the D line comes next (R155, R168 to R170, R173). -/

namespace Sys2Proof.Machine

section
variable {s : State}

theorem exec_poll_of_live (live : s.live = true) : exec .poll s = .next (match s.settleCursor.turnChoice with
    | .poll i => s.settleCursor.beginTurn .poll (s.settleCursor.device i).address []
    | _ => s) := by
  have run := whenPowered_of_live s live fun t =>
    let u := t.settleCursor
    match u.turnChoice with
    | .poll i => u.beginTurn .poll (u.device i).address []
    | _ => t
  exact run

theorem exec_verdictFrame_of_live (live : s.live = true) :
    exec .verdictFrame s = .next (match s.settleCursor.turnChoice with
      | .verdict i => s.settleCursor.verdictTurn i
      | _ => s) := by
  have run := whenPowered_of_live s live fun t =>
    let u := t.settleCursor
    match u.turnChoice with
    | .verdict i => u.verdictTurn i
    | _ => t
  exact run

theorem exec_relayTurn_of_live (live : s.live = true) :
    exec .relayTurn s = .next (match s.settleCursor.turnChoice with
      | .relay => s.settleCursor.handleRelay
      | _ => s) := by
  have run := whenPowered_of_live s live fun t =>
    let u := t.settleCursor
    match u.turnChoice with
    | .relay => u.handleRelay
    | _ => t
  exact run

theorem exec_turnLastCharacterSent_of_live (live : s.live = true) : exec .turnLastCharacterSent s =
    .next (match s.dport.turn with
      | some x =>
        if x.phase = TurnPhase.sending then
          s.withDport { s.dport with
            turn := some { x with phase := .waiting, timer := some (s.now + s.bay.dResponseMs) } }
        else s
      | none => s) := by
  have run := whenPowered_of_live s live fun t =>
    match t.dport.turn with
    | some x =>
      if x.phase = TurnPhase.sending then
        t.withDport { t.dport with
          turn := some { x with phase := .waiting, timer := some (t.now + t.bay.dResponseMs) } }
      else t
    | none => t
  exact run

/-! ### The choice (R169) -/

theorem State.turnChoice_of_busy (busy : s.dport.turn.isSome = true ∨ s.dport.assembling = true) :
    s.turnChoice = .nothing := if_pos (by simpa using busy)

theorem State.turnChoice_of_free (turn : s.dport.turn = none) (quiet : s.dport.assembling = false) :
    s.turnChoice = match s.turnStation with
      | some i =>
        if !(s.station i).verdicts.isEmpty then .verdict i
        else if s.relayReady && !s.dport.passed then .relay
        else .poll i
      | none => if s.relayReady then .relay else .nothing := if_neg (by simp [turn, quiet])

theorem State.turnStation_of_here {i : Fin 12} (here : s.dport.cursor = some i)
    (inRound : s.inRound s.dport.round i = true) : s.turnStation = some i := by
  simp [turnStation, here, inRound]

theorem State.turnStation_of_none (away : ∀ i, s.dport.cursor = some i → s.inRound s.dport.round i = false) :
    s.turnStation = none := by
  unfold turnStation
  cases here : s.dport.cursor with
  | none => rfl
  | some i => simp [away i here]

/-! ### The relay at the queue's head (R173) -/

theorem State.relayReady_of_waiting {x : Relay} {l : List Relay} (waiting : s.dport.relayDown = x :: l)
    (room : s.uport.relayUp.length < 8) : s.relayReady = true := by
  simp [relayReady, waiting, room]

section
variable {x : Relay} {l : List Relay} (waiting : s.dport.relayDown = x :: l)
include waiting

theorem State.handleRelay_of_none (unknown : s.findDevice x.address = none) : s.handleRelay = { s with
    dport := { s.dport with relayDown := l, passed := true }
    uport := { s.uport with relayUp := s.uport.relayUp ++ [.filled (.outcome x.tag x.address .noSuchStation [])] } } := by
  unfold handleRelay
  rw [waiting]
  dsimp only
  rw [show (s.withDport { s.dport with relayDown := l }).findDevice x.address = none from unknown]
  rfl

theorem State.handleRelay_of_locked {j : Fin 12} (found : s.findDevice x.address = some j)
    (locked : s.lockedEntry (s.device j) = true) : s.handleRelay = { s with
    dport := { s.dport with relayDown := l, passed := true }
    uport := { s.uport with relayUp := s.uport.relayUp ++ [.filled (.outcome x.tag x.address .locked [])] } } := by
  unfold handleRelay
  rw [waiting]
  dsimp only
  rw [show (s.withDport { s.dport with relayDown := l }).findDevice x.address = some j from found]
  exact if_pos locked

theorem State.handleRelay_of_some {j : Fin 12} (found : s.findDevice x.address = some j)
    (unlocked : s.lockedEntry (s.device j) = false) : s.handleRelay =
      (({ s with
        dport := { s.dport with relayDown := l }
        uport := { s.uport with relayUp := s.uport.relayUp ++ [.reserved x.tag x.address] } } : State).beginTurn
          .relay x.address x.payload) := by
  unfold handleRelay
  rw [waiting]
  dsimp only
  rw [show (s.withDport { s.dport with relayDown := l }).findDevice x.address = some j from found]
  exact if_neg (show ¬s.lockedEntry (s.device j) = true by simp [unlocked])

end

end

/-- Settles O55: the turn's command is the choice's, from the settled cursor; the other two have no effect. -/
theorem turnsBegin : Obligations.TurnsBegin := by
  refine fun s live => ⟨fun busy => ?_, fun turn quiet => ⟨s.settleCursor, s.settleCursor_settles, ?_⟩,
    fun t turn sending => ?_, fun notSending => ?_⟩
  · have choice : s.settleCursor.turnChoice = .nothing := State.turnChoice_of_busy (by
      rw [s.settleCursor_settles.stands]
      exact busy)
    rw [exec_poll_of_live live, exec_verdictFrame_of_live live, exec_relayTurn_of_live live, choice]
    exact ⟨rfl, rfl, rfl⟩
  · have choice := State.turnChoice_of_free (s := s.settleCursor) (by rw [s.settleCursor_settles.stands]; exact turn)
      (by rw [s.settleCursor_settles.stands]; exact quiet)
    have poll := exec_poll_of_live live
    have verdictFrame := exec_verdictFrame_of_live live
    have relayTurn := exec_relayTurn_of_live live
    generalize s.settleCursor = v at choice poll verdictFrame relayTurn
    refine ⟨fun i here inRound told => ?_, fun i here inRound untold passed => ?_, fun away => ?_,
      fun x l waiting room free => ?_⟩
    · rw [State.turnStation_of_here here inRound] at choice
      replace choice : v.turnChoice = .verdict i := choice.trans (if_pos (by simpa using told))
      rw [choice] at poll verdictFrame relayTurn
      refine ⟨poll, relayTurn, _, _, verdictFrame, rfl, rfl, rfl, rfl, rfl, rfl, ?_, fun j other => ?_⟩
      · exact Vec.get_set_same _ _ _
      · exact Vec.get_set_ne _ _ _ _ other
    · rw [State.turnStation_of_here here inRound] at choice
      replace choice : v.turnChoice = .poll i := choice.trans
        ((if_neg (by simp [untold])).trans (if_neg (by rcases passed with none | passed <;> simp_all)))
      rw [choice] at poll verdictFrame relayTurn
      exact ⟨verdictFrame, relayTurn, _, _, poll, rfl, rfl, rfl, rfl, rfl, rfl⟩
    · rw [State.turnStation_of_none away] at choice
      dsimp only at choice
      cases ready : v.relayReady with
      | true =>
        rw [if_pos ready] at choice
        rw [choice] at poll verdictFrame
        exact ⟨poll, verdictFrame, nofun⟩
      | false =>
        rw [if_neg (by simp [ready])] at choice
        rw [choice] at poll verdictFrame relayTurn
        exact ⟨poll, verdictFrame, fun _ => relayTurn⟩
    · have ready := State.relayReady_of_waiting waiting room
      replace choice : v.turnChoice = .relay := by
        rcases free with away | ⟨i, here, inRound, untold, passed⟩
        · rw [choice, State.turnStation_of_none away]
          exact if_pos ready
        · rw [choice, State.turnStation_of_here here inRound]
          exact (if_neg (by simp [untold])).trans (if_pos (by simp [ready, passed]))
      rw [choice] at poll verdictFrame relayTurn
      refine ⟨poll, verdictFrame, fun unknown => ?_, fun j found locked => ?_, fun j found unlocked => ?_⟩
      · rw [relayTurn, State.handleRelay_of_none waiting unknown]
      · rw [relayTurn, State.handleRelay_of_locked waiting found locked]
      · rw [State.handleRelay_of_some waiting found unlocked] at relayTurn
        exact ⟨_, _, relayTurn, rfl, rfl, rfl, rfl, rfl⟩
  · rw [exec_turnLastCharacterSent_of_live live, turn]
    exact congrArg Host.Outcome.next (if_pos sending)
  · rw [exec_turnLastCharacterSent_of_live live]
    unfold State.dde at notSending
    cases turn : s.dport.turn with
    | none => rfl
    | some t =>
      rw [turn] at notSending
      exact congrArg Host.Outcome.next (if_neg (by simpa using notSending))

end Sys2Proof.Machine
end

section
/-! PROOFS. Every entry that a TABLE_WRITE stores comes back from its own bytes (Table 10-4, R178, R197). -/

namespace Sys2Proof.Machine

/-! ### Lists of items -/

theorem pad_of_le {w : Nat} {l : List Byte} (fits : l.length ≤ w) : pad w l = l ++ List.replicate (w - l.length) 0 := by
  rw [pad, List.take_append, List.take_of_length_le fits, List.take_replicate, Nat.min_eq_left (by omega)]

theorem items_behind_be {w n a : Nat} (behind : w ≤ a) (r : List Byte) (v m : Nat) :
    items (be w n ++ r) a v m = items r (a - w) v m := by
  unfold items
  refine List.map_congr_left fun i _ => ?_
  rw [List.drop_append, List.drop_eq_nil_of_le (by simp; omega), List.nil_append, be_length, Nat.sub_add_comm behind]

/-- The items of a list written one after another are its own. -/
theorem items_flatten {α : Type} {w : Nat} {enc : α → List Byte} (width : ∀ a, (enc a).length = w) (l : List α)
    (r : List Byte) : items ((l.map enc).flatten ++ r) 0 w l.length = l.map enc := by
  induction l with
  | nil => rfl
  | cons a l ih =>
    unfold items at ih ⊢
    rw [List.length_cons, List.range_succ_eq_map, List.map_cons, List.map_map, List.map_cons]
    refine congrArg₂ List.cons ?_ (Eq.trans (List.map_congr_left fun i _ => ?_) ih)
    · simp [List.take_left' (width a)]
    · simp only [Function.comp, List.flatten_cons, List.append_assoc, Nat.zero_add]
      rw [List.drop_append, List.drop_eq_nil_of_le (by rw [width, Nat.mul_succ]; omega), List.nil_append, width,
        Nat.mul_succ, Nat.add_sub_cancel]

theorem length_flatten_map {α : Type} {w : Nat} {enc : α → List Byte} (width : ∀ a, (enc a).length = w) (l : List α) :
    (l.map enc).flatten.length = w * l.length := by
  induction l with
  | nil => rfl
  | cons a l ih => rw [List.map_cons, List.flatten_cons, List.length_append, ih, width, List.length_cons, Nat.mul_succ,
      Nat.add_comm]

theorem decodeAll_map {α β : Type} {f : α → Option β} {enc : β → α} {l : List β} (each : ∀ b ∈ l, f (enc b) = some b) :
    decodeAll f (l.map enc) = some l := by
  induction l with
  | nil => rfl
  | cons b l ih =>
    simp only [List.mem_cons, forall_eq_or_imp] at each
    rw [List.map_cons, decodeAll, each.1, ih each.2]

theorem decodeAll_some {α β : Type} {f : α → Option β} {l : List α} {r : List β} (all : decodeAll f l = some r) :
    r.length = l.length ∧ ∀ b ∈ r, ∃ a, f a = some b := by
  induction l generalizing r with
  | nil => simp_all [decodeAll]
  | cons a l ih =>
    unfold decodeAll at all
    split at all
    · rename_i b r' first rest
      obtain ⟨length, each⟩ := ih rest
      cases all
      refine ⟨by rw [List.length_cons, List.length_cons, length], fun c mem => ?_⟩
      rcases List.mem_cons.1 mem with rfl | mem
      · exact ⟨a, first⟩
      · exact each c mem
    · cases all

theorem items_pad {α : Type} {w W : Nat} {enc : α → List Byte} (width : ∀ a, (enc a).length = w) {l : List α}
    (fits : w * l.length ≤ W) (r : List Byte) :
    items (pad W (l.map enc).flatten ++ r) 0 w l.length = l.map enc := by
  rw [pad_of_le ((length_flatten_map width l).le.trans fits), List.append_assoc, items_flatten width]

/-- A padded list of entries reads back. -/
theorem decodeAll_pad {α : Type} {w W : Nat} {enc : α → List Byte} (width : ∀ a, (enc a).length = w)
    {f : List Byte → Option α} {l : List α} (each : ∀ a ∈ l, f (enc a) = some a) (fits : w * l.length ≤ W)
    (r : List Byte) : decodeAll f (items (pad W (l.map enc).flatten ++ r) 0 w l.length) = some l := by
  rw [items_pad width fits, decodeAll_map each]

@[simp] theorem field_behind_pad {w a : Nat} (behind : w ≤ a) (l r : List Byte) (v : Nat) :
    field (pad w l ++ r) a v = field r (a - w) v := field_behind (pad_length w l) behind r v

/-! ### Fields of one byte -/

theorem optField_optFin {m : Nat} (small : m ≤ 255) (o : Option (Fin m)) : optField m (optFin o % 256) = match o with
    | some k => .named k
    | none => .absent := by
  cases o with
  | none => exact optField_none small
  | some k => exact optField_of_eq (Nat.mod_eq_of_lt (k.isLt.trans_le (by omega)))

theorem flagOf_bit (b : Bool) : flagOf (bit b % 256) = some b := by cases b <;> rfl

/-! ### The tables -/

theorem decodeProduct_encode {p : List Byte} {e : ProductEntry} (stored : decodeProduct p = some e) :
    decodeProduct (encodeProduct e) = some e := by
  have code : field p 0 2 % 65536 = field p 0 2 := Nat.mod_eq_of_lt (field_lt p 0 2)
  have alpha : field p 2 2 % 65536 = field p 2 2 := Nat.mod_eq_of_lt (field_lt p 2 2)
  unfold decodeProduct at stored
  split at stored
  · cases stored
  · split_ifs at stored with absent
    · cases stored
      simp [decodeProduct, encodeProduct, emptyProduct, optField_optFin]
    · cases stored
      simp [decodeProduct, encodeProduct, optField_optFin, *]
  · split_ifs at stored with ok
    cases stored
    simp [decodeProduct, encodeProduct, optField_optFin, code, alpha, ok]

theorem decodePolicy_encode {c : FaultClass} {p : List Byte} {e : PolicyEntry} (stored : decodePolicy c p = some e) :
    decodePolicy c (encodePolicy e) = some e := by
  simp only [decodePolicy, Option.bind_eq_bind, Option.bind_eq_some_iff] at stored
  obtain ⟨m, -, mask, -, stored⟩ := stored
  split_ifs at stored with allowed
  cases stored
  have mode : modeOf (modeCode m % 256) = some m := by cases m <;> rfl
  simp [decodePolicy, encodePolicy, mode, flagOf_bit, allowed]

theorem decodeDevice_encode {p : List Byte} {e : DeviceEntry} (stored : decodeDevice p = some e) :
    decodeDevice (encodeDevice e) = some e := by
  have address : (BitVec.ofNat 8 (field p 0 1)).toNat = field p 0 1 := Nat.mod_eq_of_lt (field_lt p 0 1)
  have role : ∀ r, roleOf (roleCode r % 256) = some r := fun r => by cases r <;> rfl
  simp only [decodeDevice, Option.bind_eq_bind, Option.bind_eq_some_iff] at stored
  obtain ⟨forward, -, stored⟩ := stored
  have settled : ∀ arm : Option (Fin 4), (if field p 0 1 = 0 then
      if field p 1 1 = 0 ∧ arm = none ∧ (!forward) = true then some emptyDevice else none
    else match roleOf (field p 1 1) with
      | none => none
      | some r => if field p 0 1 ≤ 30 ∧ (arm.isSome = true ↔ r = .tempXmtr) then
          some ⟨BitVec.ofNat 8 (field p 0 1), some r, arm, forward⟩ else none) = some e →
      decodeDevice (encodeDevice e) = some e := by
    intro arm stored
    split_ifs at stored with empty
    · cases stored
      rfl
    · split at stored
      · cases stored
      · split_ifs at stored with ok
        cases stored
        cases arm <;> simp at ok <;>
          simp [decodeDevice, encodeDevice, optField_optFin, flagOf_bit, address, role, empty, ok]
  split at stored
  · exact settled _ stored
  · exact settled _ stored
  · cases stored

theorem decodeInjector_encode {p : List Byte} {e : InjectorEntry} (stored : decodeInjector p = some e) :
    decodeInjector (encodeInjector e) = some e := by
  have code : field p 0 1 % 256 = field p 0 1 := Nat.mod_eq_of_lt (field_lt p 0 1)
  have stroke : field p 1 2 % 65536 = field p 1 2 := Nat.mod_eq_of_lt (field_lt p 1 2)
  have ppl : field p 3 4 % 4294967296 = field p 3 4 := Nat.mod_eq_of_lt (field_lt p 3 4)
  have timeout : field p 7 2 % 65536 = field p 7 2 := Nat.mod_eq_of_lt (field_lt p 7 2)
  simp only [decodeInjector, Option.bind_eq_bind, Option.bind_eq_some_iff] at stored
  obtain ⟨inService, -, stored⟩ := stored
  split_ifs at stored with _ _ empty ok
  · cases stored
    rw [empty]
    rfl
  · cases stored
    have plumbing : field p 9 1 % 16 = field p 9 1 := Nat.mod_eq_of_lt (by omega)
    have byte : field p 9 1 % 256 = field p 9 1 := Nat.mod_eq_of_lt (by omega)
    simp [decodeInjector, encodeInjector, flagOf_bit, *]

theorem decodeDose_encode {p : List Byte} {d : Dose} (stored : decodeDose p = some d) :
    decodeDose (be 1 d.code ++ be 2 d.rate) = some d := by
  have code : field p 0 1 % 256 = field p 0 1 := Nat.mod_eq_of_lt (field_lt p 0 1)
  have rate : field p 1 2 % 65536 = field p 1 2 := Nat.mod_eq_of_lt (field_lt p 1 2)
  unfold decodeDose at stored
  split_ifs at stored with ok
  cases stored
  simp [decodeDose, code, rate, ok]

theorem decodeRecipe_encode {p : List Byte} {e : RecipeEntry} (stored : decodeRecipe p = some e) :
    decodeRecipe (encodeRecipe e) = some e := by
  have tolerance : field p 10 1 % 256 = field p 10 1 := Nat.mod_eq_of_lt (field_lt p 10 1)
  have code : ∀ a, actionOf (actionCode a % 256) = some a := fun a => by cases a <;> rfl
  simp only [decodeRecipe, Option.bind_eq_bind, Option.bind_eq_some_iff] at stored
  obtain ⟨action, -, doses, all, stored⟩ := stored
  split_ifs at stored with _ _ ok
  · cases stored
    rfl
  · cases stored
    obtain ⟨count, each⟩ := decodeAll_some all
    have length : doses.length = field p 0 1 := by simpa [items] using count
    have few : doses.length % 256 = doses.length := Nat.mod_eq_of_lt (by omega)
    have read := decodeAll_pad (w := 3) (W := 9) (enc := fun d : Dose => be 1 d.code ++ be 2 d.rate) (fun d => by simp)
      (fun d mem => decodeDose_encode (each d mem).choose_spec) (by omega)
    have some_ : doses ≠ [] := by
      rintro rfl
      exact absurd length.symm ‹_›
    rw [← length] at ok
    simp [decodeRecipe, encodeRecipe, code, tolerance, few, items_behind_be, read, ok, some_]

theorem decodePermit_encode {p : List Byte} {e : PermitEntry} (stored : decodePermit p = some e) :
    decodePermit (encodePermit e) = some e := by
  have code : ∀ a, permitStateOf (permitStateCode a % 256) = some a := fun a => by cases a <;> rfl
  have card : field p 0 5 % 1099511627776 = field p 0 5 := Nat.mod_eq_of_lt (field_lt p 0 5)
  have carrier : field p 6 2 % 65536 = field p 6 2 := Nat.mod_eq_of_lt (field_lt p 6 2)
  have products : field p 8 2 % 65536 = field p 8 2 := Nat.mod_eq_of_lt (field_lt p 8 2)
  have daily : field p 10 3 % 16777216 = field p 10 3 := Nat.mod_eq_of_lt (field_lt p 10 3)
  have used : field p 13 3 % 16777216 = field p 13 3 := Nat.mod_eq_of_lt (field_lt p 13 3)
  have expiry : field p 16 2 % 65536 = field p 16 2 := Nat.mod_eq_of_lt (field_lt p 16 2)
  simp only [decodePermit, Option.bind_eq_bind, Option.bind_eq_some_iff] at stored
  obtain ⟨state, -, stored⟩ := stored
  split_ifs at stored with ok empty
  · cases stored
    simp [decodePermit, encodePermit, emptyPermit, code, items]
  · cases stored
    generalize count : field p 18 1 = n at ok
    generalize listed : (items p 19 4 n).map ofBe = tags at ok
    have length : tags.length = n := by rw [← listed]; simp [items]
    have small : ∀ t ∈ tags, ofBe (be 4 t) = t := fun t mem => by
      rw [← listed] at mem
      obtain ⟨item, among, rfl⟩ := List.mem_map.1 mem
      obtain ⟨i, -, rfl⟩ := List.mem_map.1 among
      rw [ofBe_be]
      exact Nat.mod_eq_of_lt (field_lt p (19 + 4 * i) 4)
    have few : tags.length % 256 = tags.length := Nat.mod_eq_of_lt (by omega)
    have read := items_pad (w := 4) (W := 16) (be_length 4) (l := tags) (by omega)
    have again : (tags.map (be 4)).map ofBe = tags := by
      rw [List.map_map]
      refine (List.map_congr_left (g := id) fun t mem => ?_).trans tags.map_id
      rw [Function.comp_apply, small t mem, id]
    rw [← length] at ok
    simp [decodePermit, encodePermit, code, card, carrier, products, daily, used, expiry, few, items_behind_be, read,
      again, ok, empty]

theorem decodeCompartment_encode {p : List Byte} {c : Compartment} (stored : decodeCompartment p = some c) :
    decodeCompartment (be 2 c.capacity ++ be 1 (optFin c.last)) = some c := by
  have capacity : field p 0 2 % 65536 = field p 0 2 := Nat.mod_eq_of_lt (field_lt p 0 2)
  unfold decodeCompartment at stored
  split_ifs at stored with ok
  split at stored
  · cases stored
    simp [decodeCompartment, optField_optFin, capacity, ok]
  · cases stored
    simp [decodeCompartment, optField_optFin, capacity, ok]
  · cases stored

/-- The first compartments of a vehicle entry are those that it lists (R3). -/
theorem items_compartments {l : List Compartment} (few : l.length ≤ 8) :
    items ((List.range 8).map (encodeCompartment l)).flatten 0 3 l.length =
      l.map fun c => be 2 c.capacity ++ be 1 (optFin c.last) := by
  have width : ∀ i, (encodeCompartment l i).length = 3 := fun i => by
    unfold encodeCompartment
    split <;> simp
  obtain ⟨m, total⟩ := Nat.exists_eq_add_of_le few
  have read := items_flatten width (List.range l.length)
    (((List.range m).map (l.length + ·)).map (encodeCompartment l)).flatten
  rw [List.length_range] at read
  rw [total, List.range_add, List.map_append, List.flatten_append, read]
  refine List.ext_getElem (by simp) fun i here _ => ?_
  have bound : i < l.length := by simpa using here
  simp [encodeCompartment, List.getElem?_eq_getElem bound]

theorem decodeVehicle_encode {p : List Byte} {e : VehicleEntry} (stored : decodeVehicle p = some e) :
    (e.tag ≠ 0 → decodeVehicle (encodeVehicle e) = some e) ∧ (e.tag = 0 → e = emptyVehicle) := by
  have code : ∀ a, vehicleStateOf (vehicleStateCode a % 256) = some a := fun a => by cases a <;> rfl
  have tag : field p 0 4 % 4294967296 = field p 0 4 := Nat.mod_eq_of_lt (field_lt p 0 4)
  have inspection : field p 5 2 % 65536 = field p 5 2 := Nat.mod_eq_of_lt (field_lt p 5 2)
  simp only [decodeVehicle, Option.bind_eq_bind, Option.bind_eq_some_iff] at stored
  obtain ⟨state, -, comps, all, stored⟩ := stored
  split_ifs at stored with ok empty
  · cases stored
    exact ⟨fun some_ => absurd rfl some_, fun _ => rfl⟩
  · cases stored
    refine ⟨fun _ => ?_, fun none => absurd none empty⟩
    obtain ⟨count, each⟩ := decodeAll_some all
    have length : comps.length = field p 7 1 := by simpa [items] using count
    have most : 1 ≤ field p 7 1 ∧ field p 7 1 ≤ 8 := by simpa [within] using ok
    have few : comps.length % 256 = comps.length := Nat.mod_eq_of_lt (by omega)
    have read := items_compartments (l := comps) (by omega)
    have again := decodeAll_map (enc := fun c : Compartment => be 2 c.capacity ++ be 1 (optFin c.last))
      fun c mem => decodeCompartment_encode (each c mem).choose_spec
    rw [← length] at ok
    simp [decodeVehicle, encodeVehicle, code, tag, inspection, few, items_behind_be, read, again, ok, empty]

theorem decodeCompat_encode (m : Vector (BitVec 16) 16) : decodeCompat (encodeCompat m) = m := by
  have read := items_flatten (enc := fun r => be 2 (Vec.get m r).toNat) (w := 2) (fun r => be_length _ _) (List.finRange 16) []
  rw [List.append_nil, List.length_finRange] at read
  refine Vector.ext fun i bound => ?_
  have item := congrArg (fun l => (l[i]?).map ofBe) read
  have spelled : field (encodeCompat m) (2 * i) 2 = (Vec.get m ⟨i, bound⟩).toNat % 65536 := by
    simpa [items, bound, ofBe_be, field, encodeCompat] using item
  simp [decodeCompat, spelled, Vec.get, Nat.mod_eq_of_lt (show m[i].toNat < 65536 from m[i].isLt)]

theorem decodePoint_encode {p : List Byte} {c : CurvePoint} (stored : decodePoint p = some c) :
    decodePoint (be 2 c.q ++ be 3 c.f) = some c := by
  have q : field p 0 2 % 65536 = field p 0 2 := Nat.mod_eq_of_lt (field_lt p 0 2)
  have f : field p 2 3 % 16777216 = field p 2 3 := Nat.mod_eq_of_lt (field_lt p 2 3)
  unfold decodePoint at stored
  split_ifs at stored with ok
  cases stored
  simp [decodePoint, q, f, ok]

theorem decodeArm_encode {p : List Byte} {e : ArmEntry} (stored : decodeArm p = some e) :
    decodeArm (encodeArm e) = some e := by
  have products : field p 1 2 % 65536 = field p 1 2 := Nat.mod_eq_of_lt (field_lt p 1 2)
  have ppl : field p 3 3 % 16777216 = field p 3 3 := Nat.mod_eq_of_lt (field_lt p 3 3)
  have lowStart : field p 37 2 % 65536 = field p 37 2 := Nat.mod_eq_of_lt (field_lt p 37 2)
  have slowdown : field p 39 2 % 65536 = field p 39 2 := Nat.mod_eq_of_lt (field_lt p 39 2)
  have noFlow : field p 41 1 % 256 = field p 41 1 := Nat.mod_eq_of_lt (field_lt p 41 1)
  have stop : field p 42 1 % 256 = field p 42 1 := Nat.mod_eq_of_lt (field_lt p 42 1)
  have overrun : field p 43 1 % 256 = field p 43 1 := Nat.mod_eq_of_lt (field_lt p 43 1)
  simp only [decodeArm, Option.bind_eq_bind, Option.bind_eq_some_iff] at stored
  obtain ⟨enabled, -, curve, all, stored⟩ := stored
  have settled : ∀ station : Option (Fin 12), (if field p 3 3 = 0 then
      if (⟨enabled, BitVec.ofNat 16 (field p 1 2), field p 3 3, curve, field p 37 2, field p 39 2, field p 41 1,
        field p 42 1, field p 43 1, station⟩ : ArmEntry) = emptyArm then
        some (⟨enabled, BitVec.ofNat 16 (field p 1 2), field p 3 3, curve, field p 37 2, field p 39 2, field p 41 1,
        field p 42 1, field p 43 1, station⟩ : ArmEntry) else none
    else if within 1000 (field p 3 3) 2000000 ∧ within 2 (field p 6 1) 6 ∧
        (curve.map CurvePoint.q).Pairwise (· < ·) ∧ field p 37 2 ≤ 2000 ∧ field p 39 2 ≤ 2000 ∧
        within 5 (field p 41 1) 120 ∧ within 2 (field p 42 1) 30 ∧ field p 43 1 ≤ 50 then
        some ⟨enabled, BitVec.ofNat 16 (field p 1 2), field p 3 3, curve, field p 37 2, field p 39 2, field p 41 1,
        field p 42 1, field p 43 1, station⟩ else none) = some e → decodeArm (encodeArm e) = some e := by
    intro station stored
    split_ifs at stored with filled empty ok
    · cases stored
      rw [empty]
      simp [decodeArm, encodeArm, emptyArm, optField_optFin, flagOf_bit, items, decodeAll]
    · cases stored
      obtain ⟨count, each⟩ := decodeAll_some all
      have length : curve.length = field p 6 1 := by simpa [items] using count
      have most : 2 ≤ field p 6 1 ∧ field p 6 1 ≤ 6 := by simpa [within] using ok.2.1
      have few : curve.length % 256 = curve.length := Nat.mod_eq_of_lt (by omega)
      have read := decodeAll_pad (w := 5) (W := 30) (enc := fun c : CurvePoint => be 2 c.q ++ be 3 c.f) (fun c => by simp)
        (fun c mem => decodePoint_encode (each c mem).choose_spec) (by omega)
      rw [← length] at ok
      cases station <;> simp [decodeArm, encodeArm, optField_optFin, flagOf_bit, products, ppl, lowStart, slowdown,
        noFlow, stop, overrun, few, items_behind_be, read, ok, filled]
  split at stored
  · exact settled _ stored
  · exact settled _ stored
  · cases stored

theorem decodeBay_encode {p : List Byte} {e : BayEntry} (stored : decodeBay p = some e) :
    decodeBay (encodeBay e) = some e := by
  have source : ∀ a, sourceOf (sourceCode a % 256) = some a := fun a => by cases a <;> rfl
  have basis : ∀ a, basisOf (basisCode a % 256) = some a := fun a => by cases a <;> rfl
  have byte : ∀ a, field p a 1 % 256 = field p a 1 := fun a => Nat.mod_eq_of_lt (field_lt p a 1)
  have two : ∀ a, field p a 2 % 65536 = field p a 2 := fun a => Nat.mod_eq_of_lt (field_lt p a 2)
  have three : ∀ a, field p a 3 % 16777216 = field p a 3 := fun a => Nat.mod_eq_of_lt (field_lt p a 3)
  simp only [decodeBay, Option.bind_eq_bind, Option.bind_eq_some_iff] at stored
  obtain ⟨permitSource, -, forbid, -, basis', -, resume, -, stored⟩ := stored
  split_ifs at stored with ok
  cases stored
  have debounce : (Vector.ofFn fun i : Fin 4 => field (encodeBay
      { permitSource := permitSource, authorisationWait := field p 1 1, tagFreshness := field p 2 2
        idleMinutes := field p 4 1, unknownAllowed := !forbid, basis := basis'
        debounceMs := Vector.ofFn fun i => field p (7 + 2 * i.val) 2
        deadmanInterval := field p 15 2, reverseAllowance := field p 17 1, discrepancyLimit := field p 18 1
        unauthLimit := field p 19 1, tRef := field p 20 2, minBatch := field p 22 2, maxBatch := field p 24 3
        linkSilence := field p 27 1, dResponseMs := field p 28 1, resumeInService := resume }) (7 + 2 * i.val) 2) =
      Vector.ofFn fun i => field p (7 + 2 * i.val) 2 := by
    refine congrArg Vector.ofFn (funext fun i => ?_)
    fin_cases i <;> simp [encodeBay, armIxs, two, Vec.get]
  unfold decodeBay
  rw [debounce]
  simpa [encodeBay, armIxs, byte, two, three, source, basis, flagOf_bit, and_assoc] using ok

/-- Settles O46, table by table. -/
theorem entryRoundTrip : Obligations.EntryRoundTrip :=
  ⟨fun _ _ => decodePermit_encode, fun _ _ => decodeVehicle_encode, decodeCompat_encode, fun _ _ => decodeProduct_encode,
    fun _ _ => decodeRecipe_encode, fun _ _ => decodeInjector_encode, fun _ _ => decodeArm_encode,
    fun _ _ => decodeDevice_encode, fun _ _ _ => decodePolicy_encode, fun _ _ => decodeBay_encode⟩

end Sys2Proof.Machine
end

section
/-! SUPPORT. What the response to a fault raised within a window close leaves as it stands (R39 to R41, R51, R108). -/

namespace Sys2Proof.Machine

/-! ### Arms and their batches -/

/-- The figures of a batch stand; `marked` says that METER_FAULT is set meanwhile (R108). -/
structure Alike (b x : Batch) (marked : Bool) : Prop where
  gross : x.gross = b.gross
  rg : x.rg = b.rg
  standard : x.standard = b.standard
  rs : x.rs = b.rs
  weight : x.weight = b.weight
  preset : x.preset = b.preset
  k5 : x.k5 = b.k5
  held : x.flags.tempHeld = b.flags.tempHeld
  clamped : x.flags.tempClamped = b.flags.tempClamped
  fault : x.flags.meterFault = (b.flags.meterFault || marked)

/-- An arm goes on: running or not as before, its running batch with its figures, an entry to STOPPING aside. -/
structure GoesOn (a c : Arm) (marked : Bool) : Prop where
  running : c.state.running = a.state.running
  batch : a.state.running = true → ∀ b, a.batch = some b → ∃ x, c.batch = some x ∧ Alike b x marked
  stopping : c.state = .stopping → a.state = .stopping ∧ c.zeroCloses = a.zeroCloses ∨ c.zeroCloses = 0
  history : c.history = a.history

theorem Alike.refl (b : Batch) : Alike b b false := ⟨rfl, rfl, rfl, rfl, rfl, rfl, rfl, rfl, rfl, by simp⟩

theorem Alike.trans {b x y : Batch} {m n : Bool} (h : Alike b x m) (g : Alike x y n) : Alike b y (m || n) :=
  ⟨g.gross.trans h.gross, g.rg.trans h.rg, g.standard.trans h.standard, g.rs.trans h.rs, g.weight.trans h.weight,
    g.preset.trans h.preset, g.k5.trans h.k5, g.held.trans h.held, g.clamped.trans h.clamped,
    by rw [g.fault, h.fault, Bool.or_assoc]⟩

namespace GoesOn
variable {a c d : Arm} {m n : Bool}

theorem refl (a : Arm) : GoesOn a a false :=
  ⟨rfl, fun _ b held => ⟨b, held, Alike.refl b⟩, fun stopping => .inl ⟨stopping, rfl⟩, rfl⟩

theorem trans (h : GoesOn a c m) (g : GoesOn c d n) : GoesOn a d (m || n) := by
  refine ⟨g.running.trans h.running, fun runs b held => ?_, fun stopping => ?_, g.history.trans h.history⟩
  · obtain ⟨x, kept, like⟩ := h.batch runs b held
    obtain ⟨y, last, further⟩ := g.batch (h.running.trans runs) x kept
    exact ⟨y, last, like.trans further⟩
  · rcases g.stopping stopping with ⟨before, same⟩ | fresh
    · rw [same]
      exact h.stopping before
    · exact .inr fresh

/-- An arm that does not run goes on whatever its batch. -/
theorem of_still (still : a.state.running = false) (still' : c.state.running = false) (history : c.history = a.history)
    (m : Bool) : GoesOn a c m :=
  ⟨still'.trans still.symm, fun runs => by simp [still] at runs,
    fun stopping => by simp [stopping, ArmState.running] at still', history⟩

end GoesOn

theorem State.goesOn_stopped {s : State} {k : Fin 4} (runs : (s.arm k).state.running = true) (r : EndReason) :
    GoesOn (s.arm k) (s.stopped k r) false := by
  refine ⟨runs.symm, fun _ b held => ?_, fun _ => .inr rfl, rfl⟩
  exact ⟨{ b with endReason := some r, atStopping := some b.delivered }, by simp [stopped, held],
    rfl, rfl, rfl, rfl, rfl, rfl, rfl, rfl, rfl, by simp⟩

theorem State.goesOn_aborted (s : State) (e : EndReason) (k : Fin 4) : GoesOn (s.arm k) (s.abortedArm e k) false := by
  unfold abortedArm
  split
  · exact goesOn_stopped (by simp [*, ArmState.running]) e
  · exact goesOn_stopped (by simp [*, ArmState.running]) e
  · exact goesOn_stopped (by simp [*, ArmState.running]) e
  · exact goesOn_stopped (by simp [*, ArmState.running]) e
  · exact .of_still (a := s.arm k) (c := { s.arm k with state := .idle, batch := none }) (by simp [*,
    ArmState.running]) rfl rfl _
  · exact .of_still (a := s.arm k) (c := { s.arm k with state := .idle, batch := none }) (by simp [*,
    ArmState.running]) rfl rfl _
  · exact .refl _
  · exact .refl _

/-- What R40 makes of the arm that a fault names. -/
def State.faultedArm (s : State) (k : Fin 4) : Arm :=
  match (s.arm k).state with
  | .lowStart | .full | .slowdown | .suspended => s.stopped k .fault
  | .idle | .ready | .waitInjector | .stopping => s.arm k

theorem State.arm_faultArm (s : State) (j k : Fin 4) :
    (s.faultArm k).arm j = if j = k then s.faultedArm k else s.arm j := by
  unfold faultArm faultedArm
  by_cases same : j = k
  · subst same
    split <;> simp [arm_enterStopping, *]
  · split <;> simp [arm_enterStopping, same]

theorem State.goesOn_faulted (s : State) (k : Fin 4) : GoesOn (s.arm k) (s.faultedArm k) false := by
  unfold faultedArm
  split
  · exact goesOn_stopped (by simp [*, ArmState.running]) _
  · exact goesOn_stopped (by simp [*, ArmState.running]) _
  · exact goesOn_stopped (by simp [*, ArmState.running]) _
  · exact goesOn_stopped (by simp [*, ArmState.running]) _
  all_goals exact .refl _

/-! ### The state -/

/-- What stands through the faults of a window close: time, tables, meters, volumes and totalizers, while arm `k` goes
on. -/
structure State.Bears (s u : State) (k : Fin 4) (marked : Bool) : Prop where
  now : u.now = s.now
  tables : u.tables = s.tables
  meters : u.meters = s.meters
  volumes : u.volumes = s.volumes
  custody : u.custody = { s.custody with places := u.custody.places, counter := u.custody.counter }
  arm : GoesOn (s.arm k) (u.arm k) marked

namespace State.Bears
variable {s t u : State} {k : Fin 4} {m n : Bool}

theorem trans (h : s.Bears t k m) (g : t.Bears u k n) : s.Bears u k (m || n) := by
  refine ⟨g.now.trans h.now, g.tables.trans h.tables, g.meters.trans h.meters, g.volumes.trans h.volumes, ?_,
    h.arm.trans g.arm⟩
  rw [g.custody, h.custody]

/-- Only the arms may have changed among the blocks that the window reads. -/
theorem of_arm (now : u.now = s.now) (tables : u.tables = s.tables) (meters : u.meters = s.meters)
    (volumes : u.volumes = s.volumes) (custody : u.custody = s.custody) (arm : GoesOn (s.arm k) (u.arm k) m) :
    s.Bears u k m := ⟨now, tables, meters, volumes, by rw [custody], arm⟩

theorem of_standing (now : u.now = s.now) (tables : u.tables = s.tables) (meters : u.meters = s.meters)
    (volumes : u.volumes = s.volumes) (custody : u.custody = s.custody) (arms : u.arms = s.arms) :
    s.Bears u k false := of_arm now tables meters volumes custody (by rw [arm_congr arms]; exact .refl _)

theorem refl (s : State) (k : Fin 4) : s.Bears s k false := of_standing rfl rfl rfl rfl rfl rfl

end State.Bears

section
variable (s : State) (k : Fin 4)

theorem State.closeIfDone_bears : s.Bears s.closeIfDone k false := by
  unfold closeIfDone
  split
  · split
    · split_ifs
      · rename_i record _ _ _ _
        rw [closeSession_eq _ record]
        refine ⟨rfl, rfl, rfl, rfl, ?_, .refl _⟩
        unfold closedCustody
        split_ifs <;> rfl
      · exact .refl s k
    · exact .refl s k
  · exact .refl s k

theorem State.abort_bears (reason : CloseReason) (e : EndReason) : s.Bears (s.abort reason e) k false := by
  have winds : s.Bears (s.aborting reason e) k false := by
    refine .of_arm ?_ ?_ ?_ ?_ ?_ (by rw [arm_aborting]; exact s.goesOn_aborted e k) <;>
      simp [aborting, armIxs]
  rw [abort_eq]
  exact winds.trans (closeIfDone_bears _ k)

theorem State.respond_bears (c : FaultClass) (j : Option (Fin 4)) (m : ResponseMode) :
    s.Bears (s.respond c j m) k false := by
  cases m with
  | report => exact .refl s k
  | recipe => exact .refl s k
  | stopArm =>
    cases j with
    | none => exact .of_standing rfl rfl rfl rfl rfl rfl
    | some j =>
      refine .of_arm (by simp [respond]) (by simp [respond]) (by simp [respond]) (by simp [respond]) (by simp [respond]) ?_
      rw [respond, stopArmResponse_eq]
      dsimp only
      rw [arm_faultArm]
      split_ifs with same
      · subst same
        exact goesOn_faulted (s.setFault c _) k
      · exact .refl _
  | stopBay =>
    unfold respond stopBayResponse
    dsimp only
    have latched : s.Bears (s.setFault c { s.fault c with latch := some .stopBay }) k false :=
      .of_standing rfl rfl rfl rfl rfl rfl
    have settled : s.Bears (s.setFault c { s.fault c with latch := some .stopBay }).settlePresentation k false := by
      refine latched.trans (.of_standing ?_ ?_ ?_ ?_ ?_ ?_)
      all_goals simp [settlePresentation_tables]
    split
    · exact latched.trans (abort_bears _ k _ _)
    · exact .of_standing rfl rfl rfl rfl rfl rfl
    · exact settled
    · exact settled
    · exact settled

theorem State.reportFault_bears (c : FaultClass) (j : Option (Fin 4)) (x : Subject) (drill : Bool) (m : ResponseMode) :
    s.Bears (s.reportFault c j x drill m) k false := by
  refine .of_standing ?_ ?_ ?_ ?_ ?_ ?_ <;> simp

/-- A fault that is none of the meter inputs'. -/
theorem State.raiseFault_bears {c : FaultClass} (notPulse : c ≠ .meterPulse) (notReverse : c ≠ .meterReverse)
    (j : Option (Fin 4)) (x : Subject) (drill : Bool) (action : Option FailureAction) :
    s.Bears (s.raiseFault c j x drill action) k false := by
  unfold raiseFault
  rw [flagMeter_of_other s notPulse notReverse]
  exact (s.reportFault_bears k c j x drill _).trans (respond_bears _ k c j _)

/-- METER_PULSE marks the batch of the running arm that it names (R108). -/
theorem State.arm_flagMeter_pulse (j : Fin 4) : (s.flagMeter .meterPulse (some k)).arm j =
    if j = k ∧ (s.arm k).state.running = true then
      { s.arm k with batch := (s.arm k).batch.map fun b => { b with flags := { b.flags with meterFault := true } } }
    else s.arm j := by
  unfold flagMeter
  dsimp only
  by_cases runs : (s.arm k).state.running = true
  · rw [if_pos runs, arm_updBatch]
    simp only [runs, and_true]
  · rw [if_neg runs, if_neg fun h => runs h.2]

theorem State.meterPulse_bears : s.Bears (s.armFault .meterPulse k) k true := by
  have marked : s.Bears (s.flagMeter .meterPulse (some k)) k true := by
    refine .of_arm (by simp) (by simp) (by simp) (by simp) (by simp) ?_
    rw [arm_flagMeter_pulse]
    split_ifs with runs
    · refine ⟨rfl, fun _ b held => ?_, fun stopping => .inl ⟨stopping, rfl⟩, rfl⟩
      exact ⟨{ b with flags := { b.flags with meterFault := true } }, by simp [held], rfl, rfl, rfl, rfl, rfl, rfl, rfl, rfl,
        rfl, by simp⟩
    · have still : (s.arm k).state.running = false := by simpa using runs
      exact .of_still still still rfl _
  exact marked.trans ((reportFault_bears _ k _ _ _ _ _).trans (respond_bears _ k _ _ _))

/-- A change of the batch beside its figures. -/
theorem State.updBatch_bears (j : Fin 4) {f : Batch → Batch} (alike : ∀ b, Alike b (f b) false) :
    s.Bears (s.updBatch j f) k false := by
  refine .of_arm rfl rfl rfl rfl rfl ?_
  rw [arm_updBatch]
  split_ifs with same
  · subst same
    exact ⟨rfl, fun _ b held => ⟨f b, by simp [held], alike b⟩, fun stopping => .inl ⟨stopping, rfl⟩, rfl⟩
  · exact .refl _

theorem State.updDose_bears (j : Fin 4) (i : Nat) (f : DoseRec → DoseRec) : s.Bears (s.updDose j i f) k false :=
  s.updBatch_bears k j fun _ => ⟨rfl, rfl, rfl, rfl, rfl, rfl, rfl, rfl, rfl, by simp⟩

theorem State.raiseDose_bears (j : Fin 4) (d : DoseRec) : s.Bears (s.raiseDose j d) k false :=
  (s.updBatch_bears k j (f := fun b => { b with flags := { b.flags with doseFault := true } })
    fun _ => ⟨rfl, rfl, rfl, rfl, rfl, rfl, rfl, rfl, rfl, by simp⟩).trans
      (raiseFault_bears _ k (by decide) (by decide) _ _ _ _)

theorem State.openInjection_bears (j : Fin 4) (i : Nat) (d : DoseRec) : s.Bears (s.openInjection j i d) k false :=
  .of_standing rfl rfl rfl rfl rfl rfl

theorem State.demand_bears (j : Fin 4) (i : Nat) : s.Bears (s.demand j i) k false := by
  unfold demand
  split
  · exact .refl s k
  · dsimp only
    have due := s.updDose_bears k j i fun x => { x with nextDue := x.nextDue + x.interval }
    have owed := due.trans (updDose_bears _ k j i fun x => { x with owed := x.owed + 1 })
    split_ifs
    · exact owed
    · exact due
    · split
      · exact due.trans (openInjection_bears _ k j i _)
      · exact owed
      · exact due
    · split
      · exact due.trans (openInjection_bears _ k j i _)
      · exact due
      · exact due
    · split
      · exact due.trans (openInjection_bears _ k j i _)
      · exact due.trans ((updDose_bears _ k j i _).trans (raiseDose_bears _ k j _))
      · exact due

/-- Repeated steps that bear. -/
theorem State.Bears.foldl {α : Type} {k : Fin 4} {f : State → α → State} (each : ∀ (s : State) a, s.Bears (f s a) k false)
    (l : List α) (s : State) : s.Bears (l.foldl f s) k false := by
  induction l generalizing s with
  | nil => exact .refl s k
  | cons a l ih => exact (each s a).trans (ih (f s a))

theorem State.demands_bears (j : Fin 4) : s.Bears (s.demands j) k false := by
  unfold demands
  split
  · refine .foldl (fun t i => ?_) _ s
    unfold doseDemands
    split
    · exact .foldl (fun u _ => u.demand_bears k j i) _ t
    · exact .refl t k
  · exact .refl s k

/-! ### The fault records -/

/-- Only DOSE is raised by a demand (R120, R126). -/
theorem State.fault_demand {c : FaultClass} (other : c ≠ .dose) (j : Fin 4) (i : Nat) : (s.demand j i).fault c = s.fault c := by
  unfold demand
  split
  · rfl
  · dsimp only
    split_ifs
    · rfl
    · rfl
    · split <;> rfl
    · split <;> rfl
    · split
      · rfl
      · rw [raiseDose, fault_raiseFault, if_neg other]
        rfl
      · rfl

theorem State.fault_demands {c : FaultClass} (other : c ≠ .dose) (j : Fin 4) : (s.demands j).fault c = s.fault c := by
  unfold demands
  split
  · refine foldl_frame (p := fun t => t.fault c) (fun t i => ?_) _ s
    unfold doseDemands
    split
    · exact foldl_frame (p := fun t => t.fault c) (fun u _ => u.fault_demand other j i) _ t
    · rfl
  · rfl

end

end Sys2Proof.Machine
end

section
/-! SUPPORT. The five first steps of a window close, one after the other (R51, R55 to R58, R66, R67, R72, R76). -/

namespace Sys2Proof.Machine

section
variable (s : State) (k : Fin 4)

/-! ### Steps 1 to 3: the channel's figures and the discrepancy -/

/-- The channel after the first three steps of its window close. -/
def State.pulsedMeter : Meter := { s.meter k with
  lastN := (s.meter k).n, lastA := (s.meter k).aCount, lastB := (s.meter k).bCount
  q := (s.meter k).n * 240000 / (s.meter k).ppl
  aCount := 0, bCount := 0, n := 0, window := some (s.now + 250)
  discrepancies := min 65535 ((s.meter k).discrepancies + absDiff (s.meter k).aCount (s.meter k).bCount)
  history := if s.pulses k then []
    else keepLast 8 ((s.meter k).history ++ [absDiff (s.meter k).aCount (s.meter k).bCount]) }

/-- The state after them, METER_PULSE's response among it. -/
def State.pulsed : State := (s.setMeter k ((s.meter k).fix s.now)).discrepancy k

theorem State.pulsed_eq : s.pulsed k =
    if s.pulses k then (s.setMeter k (s.pulsedMeter k)).armFault .meterPulse k else s.setMeter k (s.pulsedMeter k) := by
  have fixed : (s.setMeter k ((s.meter k).fix s.now)).meter k = (s.meter k).fix s.now := by
    rw [meter_setMeter, if_pos rfl]
  have again : ∀ m : Meter, (s.setMeter k ((s.meter k).fix s.now)).setMeter k m = s.setMeter k m := fun m => by
    simp only [setMeter, withMeters, Vec.set_set]
  have limit : (s.setMeter k ((s.meter k).fix s.now)).bay = s.bay := rfl
  unfold pulsed discrepancy
  dsimp only
  rw [fixed, again, again, limit]
  by_cases raises : s.pulses k = true
  · rw [if_pos raises, pulsedMeter, if_pos raises]
    exact if_pos (of_decide_eq_true raises)
  · rw [if_neg raises, pulsedMeter, if_neg raises]
    exact if_neg fun above => raises (decide_eq_true above)

theorem State.pulsed_bears : (s.setMeter k (s.pulsedMeter k)).Bears (s.pulsed k) k (s.pulses k) := by
  rw [pulsed_eq]
  cases s.pulses k with
  | true => exact meterPulse_bears _ k
  | false => exact .refl _ k

theorem State.meter_pulsed (j : Fin 4) : (s.pulsed k).meter j = if j = k then s.pulsedMeter k else s.meter j := by
  rw [meter, (s.pulsed_bears k).meters]
  exact s.meter_setMeter k j _

theorem State.fault_pulsed (c : FaultClass) : (s.pulsed k).fault c =
    if c = .meterPulse ∧ s.pulses k = true then s.struck .meterPulse (some k) (s.response .meterPulse none) false
    else s.fault c := by
  rw [pulsed_eq]
  cases s.pulses k with
  | true =>
    simp only [if_true, and_true]
    rw [armFault, fault_raiseFault]
    split_ifs with same
    · subst same
      rfl
    · rfl
  | false => simp; rfl

/-! ### Step 4: the credit -/

/-- The unauthorised-flow accumulator after the credit. -/
def State.creditedUnauth : Nat :=
  match (s.arm k).state.running, (s.arm k).batch with
  | true, some _ => (s.meter k).unauth
  | _, _ => min 999999999 ((s.meter k).unauth + (grossIncrement (s.meter k).lastN
      ((meterFactor (s.vol k).curve (s.meter k).q).getD 0) (s.meter k).ppl (s.vol k).unauthRem).1)

/-- The volume engine's copies as the credit selects the factor (R66, R72). -/
def State.selected : State := s.setVol k { s.vol k with
  factor := meterFactor (s.vol k).curve (s.meter k).q, temp := (s.vol k).temp.use }

/-- The unauthorised path (R57, R76). -/
theorem State.credit_of_unauth (unauth : (s.arm k).state.running = false ∨ (s.arm k).batch = none) : s.credit k =
    (s.selected k).creditUnauth k ((meterFactor (s.vol k).curve (s.meter k).q).getD 0) := by
  unfold credit
  dsimp only
  split
  · rcases unauth with still | none <;> simp_all
  · rfl

/-- The batch path (R76). -/
theorem State.credit_of_batch (runs : (s.arm k).state.running = true) {b : Batch} (held : (s.arm k).batch = some b) :
    s.credit k = (s.selected k).creditBatch k b ((meterFactor (s.vol k).curve (s.meter k).q).getD 0) := by
  unfold credit
  dsimp only
  rw [runs, held]
  rfl

/-- The batch path before the demands (R76). -/
def State.billed (b : Batch) (f : Nat) : State :=
  let g := grossIncrement (s.meter k).lastN f (s.meter k).ppl b.rg
  ((s.setArm k { s.arm k with batch := some (b.credited (s.vol k).temp g.1 g.2) }).creditGross k g.1).creditStandard k
    (standardIncrement g.1 (b.k5.getD 0) b.rs).1

theorem State.creditBatch_eq (b : Batch) (f : Nat) : s.creditBatch k b f =
    if (grossIncrement (s.meter k).lastN f (s.meter k).ppl b.rg).1 = 0 then s.billed k b f
    else (s.billed k b f).demands k := rfl

theorem State.creditBatch_bears (b : Batch) (f : Nat) : (s.billed k b f).Bears (s.creditBatch k b f) k false := by
  rw [creditBatch_eq]
  split_ifs
  · exact .refl _ k
  · exact demands_bears _ k k

theorem State.fault_creditBatch {c : FaultClass} (other : c ≠ .dose) (b : Batch) (f : Nat) :
    (s.creditBatch k b f).fault c = s.fault c := by
  rw [creditBatch_eq]
  split_ifs
  · rfl
  · exact fault_demands _ other k

theorem State.meter_selected (j : Fin 4) : (s.selected k).meter j = s.meter j := rfl

theorem State.vol_selected (j : Fin 4) : (s.selected k).vol j = if j = k then { s.vol k with
    factor := meterFactor (s.vol k).curve (s.meter k).q, temp := (s.vol k).temp.use } else s.vol j :=
  s.vol_setVol k j _

theorem State.meter_credit (j : Fin 4) : (s.credit k).meter j =
    if j = k then { s.meter k with unauth := s.creditedUnauth k } else s.meter j := by
  by_cases billed : (s.arm k).state.running = true ∧ (s.arm k).batch ≠ none
  · obtain ⟨runs, some_⟩ := billed
    obtain ⟨b, held⟩ := Option.ne_none_iff_exists'.1 some_
    have stands : s.creditedUnauth k = (s.meter k).unauth := by simp [creditedUnauth, runs, held]
    rw [credit_of_batch s k runs held, stands, meter, (creditBatch_bears _ k b _).meters]
    change s.meter j = _
    split_ifs with same
    · rw [same]
    · rfl
  · have unauth : (s.arm k).state.running = false ∨ (s.arm k).batch = none := by
      by_contra none
      exact billed ⟨by simpa using fun still => none (.inl still), fun gone => none (.inr gone)⟩
    have grows : s.creditedUnauth k = min 999999999 ((s.meter k).unauth + (grossIncrement (s.meter k).lastN
        ((meterFactor (s.vol k).curve (s.meter k).q).getD 0) (s.meter k).ppl (s.vol k).unauthRem).1) := by
      unfold creditedUnauth
      split
      · rcases unauth with still | gone <;> simp_all
      · rfl
    have rem : ((s.selected k).vol k).unauthRem = (s.vol k).unauthRem := by rw [vol_selected, if_pos rfl]
    rw [credit_of_unauth s k unauth, grows, ← rem]
    exact meter_setMeter _ k j _

theorem State.fault_credit {c : FaultClass} (other : c ≠ .dose) : (s.credit k).fault c = s.fault c := by
  unfold credit
  dsimp only
  split
  · exact fault_creditBatch (s.selected k) k other _ _
  · rfl

/-- What the credit leaves of the tables, the time and the clock. -/
theorem State.credit_leaves : (s.credit k).tables = s.tables ∧ (s.credit k).now = s.now ∧
    (s.credit k).custody.clock = s.custody.clock := by
  unfold credit
  dsimp only
  split
  · rename_i b _ _
    have bears := creditBatch_bears (s.selected k) k b ((meterFactor (s.vol k).curve (s.meter k).q).getD 0)
    exact ⟨bears.tables, bears.now, (congrArg CustodyBlk.clock bears.custody).trans rfl⟩
  · exact ⟨rfl, rfl, rfl⟩

/-! ### Step 5: the unauthorised flow -/

/-- The accumulator stands above its limit, its flag clear (R58). -/
def State.overflows : Bool :=
  !(s.meter k).unauthFlag && decide (s.bay.unauthLimit * 1000 < (s.meter k).unauth)

theorem State.unauthCheck_eq : s.unauthCheck k = if s.overflows k then
    (s.setMeter k { s.meter k with unauthFlag := true }).armFault .unauthFlow k else s := by
  unfold unauthCheck overflows
  dsimp only
  refine if_congr ?_ rfl rfl
  simp [and_comm]

theorem State.unauthCheck_bears : (s.setMeter k { s.meter k with
    unauthFlag := (s.meter k).unauthFlag || s.overflows k }).Bears (s.unauthCheck k) k false := by
  rw [unauthCheck_eq]
  cases above : s.overflows k with
  | true =>
    simp only [Bool.or_true, if_true]
    exact raiseFault_bears _ k (by decide) (by decide) _ _ _ _
  | false =>
    have same : s.setMeter k { s.meter k with unauthFlag := (s.meter k).unauthFlag || false } = s := by
      rw [Bool.or_false]
      exact congrArg s.withMeters (Vec.set_get_self _ _)
    rw [same]
    exact .refl s k

theorem State.fault_unauthCheck (c : FaultClass) : (s.unauthCheck k).fault c =
    if c = .unauthFlow ∧ s.overflows k = true then s.struck .unauthFlow (some k) (s.response .unauthFlow none) false
    else s.fault c := by
  rw [unauthCheck_eq]
  cases s.overflows k with
  | true =>
    simp only [if_true, and_true]
    rw [armFault, fault_raiseFault]
    split_ifs with same
    · subst same
      rfl
    · rfl
  | false => simp

end

end Sys2Proof.Machine
end

section
/-! SUPPORT. What the examination of a window leaves as it stands (R51, R94 to R99, R104 to R106). -/

namespace Sys2Proof.Machine

section
variable (s : State) (k : Fin 4)

/-! ### The end of a batch -/

theorem State.batchEnd_volumes (r : EndReason) (inReset : Bool) : (s.batchEnd k r inReset).volumes =
    Vec.set s.volumes k { s.vol k with lostTimer := none } := by
  have drops (t : State) : (t.dropBatch k).volumes = Vec.set t.volumes k { t.vol k with lostTimer := none } := by
    rw [dropBatch, (State.moveArm_frame _ _ _).2.2.2.2.2.2.2.2.2.1]
    rfl
  unfold batchEnd
  dsimp only
  split
  · rw [drops, vol]
    simp [vol]
  · rw [drops, vol]
    simp [vol]

/-- An overrun joins the batch and, where it counts, the arm's history (R105). -/
theorem State.observeOverrun_leaves : (s.observeOverrun k).volumes = s.volumes ∧
    (s.observeOverrun k).custody =
      { s.custody with places := (s.observeOverrun k).custody.places, counter := (s.observeOverrun k).custody.counter } ∧
    ∀ c, c ≠ .overrun → (s.observeOverrun k).fault c = s.fault c := by
  refine ⟨by simp, ?_, fun c other => ?_⟩
  · unfold observeOverrun
    split
    · dsimp only
      split_ifs
      · exact (raiseFault_bears _ k (by decide) (by decide) _ _ _ _).custody
      · exact (raiseFault_bears _ k (by decide) (by decide) _ _ _ _).custody
      · rfl
      · rfl
    · rfl
  · unfold observeOverrun
    split
    · dsimp only
      split_ifs
      · rw [armFault, fault_raiseFault, if_neg other]
        rfl
      · rw [armFault, fault_raiseFault, if_neg other]
        rfl
      · rfl
      · rfl
    · rfl

theorem State.endStopped_leaves : (s.endStopped k).volumes = Vec.set s.volumes k { s.vol k with lostTimer := none } ∧
    (s.endStopped k).custody =
      { s.custody with places := (s.endStopped k).custody.places, counter := (s.endStopped k).custody.counter } ∧
    ∀ c, c ≠ .overrun → (s.endStopped k).fault c = s.fault c := by
  obtain ⟨volumes, custody, faults⟩ := (s.setArm k { s.arm k with stopTimer := none }).observeOverrun_leaves k
  unfold endStopped
  dsimp only
  generalize (s.setArm k { s.arm k with stopTimer := none }).observeOverrun k = t at volumes custody faults
  refine ⟨?_, ?_, fun c other => ?_⟩
  · rw [(closeIfDone_bears _ k).volumes, batchEnd_volumes, vol, volumes]
    rfl
  · have ended : (t.batchEnd k (t.endReasonOf k) false).custody = t.custody := by simp
    have closed := (closeIfDone_bears (t.batchEnd k (t.endReasonOf k) false) k).custody
    rw [ended, custody] at closed
    exact closed
  · refine (fault_congr ?_ c).trans (faults c other)
    simp

/-! ### The examination -/

/-- The window that ends STOPPING: its second close in a row without flow (R104). -/
def State.endsStopping : Prop := (s.arm k).state = .stopping ∧ (s.meter k).lastN = 0 ∧ 1 ≤ (s.arm k).zeroCloses

theorem State.examineFlow_stands (b : Batch) (n : Nat) : (s.examineFlow k b n).volumes = s.volumes ∧
    (s.examineFlow k b n).custody = s.custody ∧ (s.examineFlow k b n).safety.faults = s.safety.faults := by
  unfold examineFlow
  split
  · simp
  · split <;> simp

theorem State.examine_leaves : (∀ j, (s.examine k).vol j = { s.vol j with lostTimer := ((s.examine k).vol j).lostTimer }) ∧
    (s.examine k).custody =
      { s.custody with places := (s.examine k).custody.places, counter := (s.examine k).custody.counter } ∧
    ∀ c, c ≠ .overrun → (s.examine k).fault c = s.fault c := by
  have standing : ∀ u : State, u.volumes = s.volumes ∧ u.custody = s.custody ∧ u.safety.faults = s.safety.faults →
      (∀ j, u.vol j = { s.vol j with lostTimer := (u.vol j).lostTimer }) ∧
      u.custody = { s.custody with places := u.custody.places, counter := u.custody.counter } ∧
      ∀ c, c ≠ .overrun → u.fault c = s.fault c := fun u ⟨volumes, custody, faults⟩ =>
    ⟨fun j => by simp only [vol, volumes], by rw [custody], fun c _ => fault_congr faults c⟩
  unfold examine
  dsimp only
  split
  · exact standing _ (s.examineFlow_stands k _ _)
  · exact standing _ (s.examineFlow_stands k _ _)
  · exact standing _ (s.examineFlow_stands k _ _)
  · refine standing _ ?_
    unfold examineSuspended
    dsimp only
    split_ifs <;> exact ⟨rfl, rfl, rfl⟩
  · unfold examineStopping
    dsimp only
    split_ifs
    · obtain ⟨volumes, custody, faults⟩ := (s.setArm k { s.arm k with zeroCloses :=
      (s.arm k).zeroCloses + 1 }).endStopped_leaves k
      refine ⟨fun j => ?_, custody, fun c other => (faults c other).trans rfl⟩
      rw [vol, volumes, Vec.get_set]
      split_ifs with same
      · rw [same]
        rfl
      · rfl
    · exact standing _ ⟨rfl, rfl, rfl⟩
    · exact standing _ ⟨rfl, rfl, rfl⟩
  · exact standing _ ⟨rfl, rfl, rfl⟩

/-- The arm after the tests of a window in a flow state (R94 to R97). -/
def State.examinedFlow (b : Batch) (n : Nat) : Arm :=
  let t := if n = 0 then (s.arm k).noFlow + 250 else 0
  match s.stopTest k b with
  | some r => s.stopped k r
  | none =>
    match s.flowMove k b with
    | some st => { s.arm k with state := st }
    | none =>
      if (s.armEntry k).noFlowTimeout * 1000 ≤ t then { s.suspended k .noFlow with noFlow := t }
      else { s.arm k with noFlow := t }

theorem State.arm_examineFlow (flows : (s.arm k).state.flowing = true) (b : Batch) (n : Nat) (j : Fin 4) :
    (s.examineFlow k b n).arm j = if j = k then s.examinedFlow k b n else s.arm j := by
  have timed : (s.noFlow k n).arm j = if j = k then
      (if (s.armEntry k).noFlowTimeout * 1000 ≤ (if n = 0 then (s.arm k).noFlow + 250 else 0) then
        { s.suspended k .noFlow with noFlow := if n = 0 then (s.arm k).noFlow + 250 else 0 }
      else { s.arm k with noFlow := if n = 0 then (s.arm k).noFlow + 250 else 0 }) else s.arm j := by
    unfold noFlow
    dsimp only
    generalize (if n = 0 then (s.arm k).noFlow + 250 else 0) = t
    have stays : ((s.setArm k { s.arm k with noFlow := t }).arm k).state.flowing = true := by
      rw [arm_setArm, if_pos rfl]
      exact flows
    by_cases timeout : (s.armEntry k).noFlowTimeout * 1000 ≤ t
    · rw [if_pos timeout, if_pos timeout, arm_suspend]
      simp only [stays, and_true]
      split_ifs with same
      · rw [suspended, arm_setArm, if_pos rfl]
        rfl
      · rw [arm_setArm, if_neg same]
    · rw [if_neg timeout, if_neg timeout, arm_setArm]
  unfold examineFlow examinedFlow
  dsimp only
  cases s.stopTest k b with
  | some r => exact s.arm_enterStopping k j r
  | none =>
    cases s.flowMove k b with
    | some st => exact s.arm_moveArm k j st
    | none => exact timed

/-- The arm after a window in SUSPENDED (R99). -/
def State.examinedSuspended (n : Nat) : Arm :=
  if n = 0 then { s.arm k with
    zeroCloses := (s.arm k).zeroCloses + 1
    stopTimer := if 1 ≤ (s.arm k).zeroCloses then none else (s.arm k).stopTimer }
  else { s.arm k with
    zeroCloses := 0
    stopTimer := if (s.arm k).stopTimer.isSome then (s.arm k).stopTimer
      else some (s.now + (s.armEntry k).stopTimeout * 1000) }

theorem State.examineSuspended_eq (n : Nat) : s.examineSuspended k n = s.setArm k (s.examinedSuspended k n) := by
  unfold examineSuspended examinedSuspended
  dsimp only
  split_ifs with none twice late timed <;> first | rfl | omega

theorem State.examinedFlow_batch {b : Batch} (held : (s.arm k).batch = some b) (c : Batch) (n : Nat) :
    ∃ x, (s.examinedFlow k c n).batch = some x ∧ Alike b x false := by
  unfold examinedFlow
  dsimp only
  split
  · rename_i r _
    exact ⟨{ b with endReason := some r, atStopping := some b.delivered }, by simp [stopped, held],
      rfl, rfl, rfl, rfl, rfl, rfl, rfl, rfl, rfl, by simp⟩
  · generalize (if n = 0 then (s.arm k).noFlow + 250 else 0) = t
    split
    · exact ⟨b, held, .refl b⟩
    · split_ifs
      · exact ⟨{ b with cause := some .noFlow }, by simp [suspended, held], rfl, rfl, rfl, rfl, rfl, rfl, rfl, rfl,
        rfl, by simp⟩
      · exact ⟨b, held, .refl b⟩

theorem State.examine_of_flowing (flows : (s.arm k).state.flowing = true) {b : Batch} (held : (s.arm k).batch = some b) :
    s.examine k = s.examineFlow k b (s.meter k).lastN := by
  unfold examine
  dsimp only
  rw [held]
  cases state : (s.arm k).state <;> simp_all [ArmState.flowing]

theorem State.examine_of_suspended (state : (s.arm k).state = .suspended) :
    s.examine k = s.setArm k (s.examinedSuspended k (s.meter k).lastN) := by
  rw [← examineSuspended_eq]
  unfold examine
  dsimp only
  rw [state]

theorem State.examine_of_stopping (state : (s.arm k).state = .stopping) :
    s.examine k = s.examineStopping k (s.meter k).lastN := by
  unfold examine
  dsimp only
  rw [state]

/-- A close in STOPPING that does not end it (R104). -/
theorem State.examine_of_stopping_goes (state : (s.arm k).state = .stopping) (goes : ¬s.endsStopping k) :
    s.examine k = s.setArm k { s.arm k with
      zeroCloses := if (s.meter k).lastN = 0 then (s.arm k).zeroCloses + 1 else 0 } := by
  rw [examine_of_stopping s k state]
  unfold examineStopping
  dsimp only
  by_cases none : (s.meter k).lastN = 0
  · have first : ¬2 ≤ (s.arm k).zeroCloses + 1 := fun twice => goes ⟨state, none, by omega⟩
    rw [if_pos none, if_neg first, if_pos none]
  · rw [if_neg none, if_neg none]

/-- The close that ends STOPPING (R104). -/
theorem State.examine_of_ending (ending : s.endsStopping k) :
    s.examine k = (s.setArm k { s.arm k with zeroCloses := (s.arm k).zeroCloses + 1 }).endStopped k := by
  obtain ⟨state, none, second⟩ := ending
  rw [examine_of_stopping s k state]
  unfold examineStopping
  dsimp only
  rw [if_pos none, if_pos (by omega)]

theorem State.examine_of_still (still : (s.arm k).state.running = false) : s.examine k = s := by
  unfold examine
  dsimp only
  split <;> simp_all [ArmState.running]

/-- Unless STOPPING ends, the batch of a running arm keeps its figures. -/
theorem State.examine_batch {b : Batch} (runs : (s.arm k).state.running = true) (held : (s.arm k).batch = some b)
    (goes : ¬s.endsStopping k) : ∃ x, ((s.examine k).arm k).batch = some x ∧ Alike b x false := by
  by_cases flows : (s.arm k).state.flowing = true
  · rw [examine_of_flowing s k flows held, arm_examineFlow s k flows, if_pos rfl]
    exact s.examinedFlow_batch k held b _
  · by_cases state : (s.arm k).state = .stopping
    · rw [examine_of_stopping_goes s k state goes, arm_setArm, if_pos rfl]
      exact ⟨b, held, .refl b⟩
    · have state : (s.arm k).state = .suspended := by
        cases at_ : (s.arm k).state <;> simp_all [ArmState.running, ArmState.flowing]
      rw [examine_of_suspended s k state, arm_setArm, if_pos rfl]
      refine ⟨b, ?_, .refl b⟩
      unfold examinedSuspended
      split_ifs <;> exact held

end

end Sys2Proof.Machine
end

section
/-! SUPPORT. A window close of a running channel, its six steps together (R51, R55 to R58, R66, R67, R70, R76). -/

namespace Sys2Proof.Machine

/-- The note queue aside, the custody store stands. -/
theorem CustodyBlk.figures {c d : CustodyBlk} (h : c = { d with places := c.places, counter := c.counter }) :
    c.gross = d.gross ∧ c.standard = d.standard ∧ c.clock = d.clock :=
  ⟨(congrArg gross h).trans rfl, (congrArg standard h).trans rfl, (congrArg clock h).trans rfl⟩

section
variable (s : State) (k : Fin 4)

/-! ### The steps -/

/-- The state after step 4, the window's increment credited. -/
def State.afterCredit : State := (s.pulsed k).credit k

/-- The state after step 5, the unauthorised flow checked. -/
def State.afterCheck : State := (s.afterCredit k).unauthCheck k

theorem State.closeWindow_of_running (runs : (s.meter k).running = true) : s.closeWindow k = (s.afterCheck k).examine k :=
  if_pos runs

theorem State.closeWindow_of_stopped (stopped : (s.meter k).running = false) : s.closeWindow k = s :=
  if_neg (by simp [stopped])

theorem exec_gateWindowClose_of_live {s : State} (live : s.live = true) (k : Fin 4) :
    exec (.gateWindowClose k) s = .next (s.closeWindow k) :=
  whenPowered_of_live s live fun t => t.closeWindow k

/-! ### What step 3 leaves for the credit -/

theorem State.pulsed_stands : (s.pulsed k).now = s.now ∧ (s.pulsed k).tables = s.tables ∧
    (s.pulsed k).volumes = s.volumes ∧
    (s.pulsed k).custody = { s.custody with places := (s.pulsed k).custody.places, counter := (s.pulsed k).custody.counter } :=
  ⟨(s.pulsed_bears k).now, (s.pulsed_bears k).tables, (s.pulsed_bears k).volumes, (s.pulsed_bears k).custody⟩

theorem State.vol_pulsed (j : Fin 4) : (s.pulsed k).vol j = s.vol j := by
  rw [vol, (s.pulsed_stands k).2.2.1, vol]

theorem State.arm_pulsed : GoesOn (s.arm k) ((s.pulsed k).arm k) (s.pulses k) := (s.pulsed_bears k).arm

/-- The batch that step 3 leaves a running arm. -/
theorem State.pulsed_batch (runs : (s.arm k).state.running = true) {b : Batch} (held : (s.arm k).batch = some b) :
    ((s.pulsed k).arm k).state.running = true ∧
      ∃ x, ((s.pulsed k).arm k).batch = some x ∧ Alike b x (s.pulses k) :=
  ⟨(s.arm_pulsed k).running.trans runs, (s.arm_pulsed k).batch runs b held⟩

/-! ### The credit -/

theorem State.afterCredit_of_unauth (still : (s.arm k).state.running = false) : s.afterCredit k =
    ((s.pulsed k).selected k).creditUnauth k
      ((meterFactor (s.vol k).curve ((s.meter k).n * 240000 / (s.meter k).ppl)).getD 0) := by
  rw [afterCredit, credit_of_unauth _ k (.inl ((s.arm_pulsed k).running.trans still)), vol_pulsed, meter_pulsed, if_pos rfl]
  rfl

theorem State.afterCredit_of_batch {x : Batch} (runs : ((s.pulsed k).arm k).state.running = true)
    (held : ((s.pulsed k).arm k).batch = some x) : s.afterCredit k = ((s.pulsed k).selected k).creditBatch k x
      ((meterFactor (s.vol k).curve ((s.meter k).n * 240000 / (s.meter k).ppl)).getD 0) := by
  rw [afterCredit, credit_of_batch _ k runs held, vol_pulsed, meter_pulsed, if_pos rfl]
  rfl

/-- The unauthorised-flow accumulator after the close. -/
def State.closedUnauth : Nat := (s.pulsed k).creditedUnauth k

theorem State.closedUnauth_of_still (still : (s.arm k).state.running = false) : s.closedUnauth k = s.leakedSum k := by
  have rests : ((s.pulsed k).arm k).state.running = false := (s.arm_pulsed k).running.trans still
  unfold closedUnauth creditedUnauth
  rw [rests, vol_pulsed, meter_pulsed, if_pos rfl]
  rfl

theorem State.closedUnauth_of_batch (runs : (s.arm k).state.running = true) {b : Batch} (held : (s.arm k).batch = some b) :
    s.closedUnauth k = (s.meter k).unauth := by
  obtain ⟨runs, x, held, -⟩ := s.pulsed_batch k runs held
  unfold closedUnauth creditedUnauth
  rw [runs, held, meter_pulsed, if_pos rfl]
  rfl

/-- The channel after its close. -/
def State.closedMeter : Meter := { s.pulsedMeter k with
  unauth := s.closedUnauth k, unauthFlag := (s.meter k).unauthFlag || s.leaks k (s.closedUnauth k) }

theorem State.meter_afterCredit (j : Fin 4) : (s.afterCredit k).meter j =
    if j = k then { s.pulsedMeter k with unauth := s.closedUnauth k } else s.meter j := by
  rw [afterCredit, meter_credit, meter_pulsed, if_pos rfl, meter_pulsed]
  split_ifs <;> rfl

theorem State.afterCredit_tables : (s.afterCredit k).tables = s.tables :=
  ((s.pulsed k).credit_leaves k).1.trans (s.pulsed_stands k).2.1

theorem State.overflows_afterCredit : (s.afterCredit k).overflows k = s.leaks k (s.closedUnauth k) := by
  unfold overflows leaks
  rw [meter_afterCredit, if_pos rfl, bay, afterCredit_tables, ← bay]
  rfl

theorem State.afterCheck_bears : ((s.afterCredit k).setMeter k (s.closedMeter k)).Bears (s.afterCheck k) k false := by
  have bears := (s.afterCredit k).unauthCheck_bears k
  rw [overflows_afterCredit, meter_afterCredit, if_pos rfl] at bears
  exact bears

theorem State.meter_closeWindow (runs : (s.meter k).running = true) (j : Fin 4) :
    (s.closeWindow k).meter j = if j = k then s.closedMeter k else s.meter j := by
  have examined : (s.closeWindow k).meters = (s.afterCheck k).meters := by
    rw [closeWindow_of_running s k runs]
    simp
  rw [meter, examined, (s.afterCheck_bears k).meters]
  refine ((s.afterCredit k).meter_setMeter k j _).trans ?_
  split_ifs with same
  · rfl
  · rw [meter_afterCredit, if_neg same]

/-! ### The fault records -/

theorem State.struck_of_stands {t : State} {c : FaultClass} (fault : t.fault c = s.fault c)
    (clock : t.custody.clock = s.custody.clock) (j : Option (Fin 4)) (m : ResponseMode) (drill : Bool) :
    t.struck c j m drill = s.struck c j m drill := by
  rw [struck_eq, struck_eq, fault, clock]

theorem State.response_congr {t : State} (tables : t.tables = s.tables) (c : FaultClass) (a : Option FailureAction) :
    t.response c a = s.response c a := by
  unfold response
  rw [policy, tables, ← policy]

/-- The fault records after step 5, a class whose record the credit left (R39, R55, R58). -/
theorem State.fault_afterCheck {c : FaultClass} (credited : (s.afterCredit k).fault c = (s.pulsed k).fault c) :
    (s.afterCheck k).fault c =
      if c = .meterPulse ∧ s.pulses k = true ∨ c = .unauthFlow ∧ s.leaks k (s.closedUnauth k) = true
      then s.struck c (some k) (s.response c none) false else s.fault c := by
  obtain ⟨tables, -, clock⟩ := (s.pulsed k).credit_leaves k
  obtain ⟨tables', -, -, custody⟩ := s.pulsed_stands k
  rw [afterCheck, fault_unauthCheck, overflows_afterCredit]
  by_cases leak : c = .unauthFlow ∧ s.leaks k (s.closedUnauth k) = true
  · obtain ⟨rfl, leak⟩ := leak
    have before : (s.afterCredit k).fault .unauthFlow = s.fault .unauthFlow :=
      credited.trans ((s.fault_pulsed k _).trans (if_neg fun h => nomatch h.1))
    rw [if_pos ⟨rfl, leak⟩, if_pos (.inr ⟨rfl, leak⟩),
      struck_of_stands s before (clock.trans (CustodyBlk.figures custody).2.2), response_congr s (s.afterCredit_tables k)]
  · rw [if_neg leak, credited, fault_pulsed]
    by_cases pulse : c = .meterPulse ∧ s.pulses k = true
    · rw [if_pos pulse, if_pos (.inl pulse), pulse.1]
    · rw [if_neg pulse, if_neg fun h => h.elim pulse leak]

theorem State.fault_closeWindow (runs : (s.meter k).running = true) {c : FaultClass} (notDose : c ≠ .dose)
    (notOverrun : c ≠ .overrun) : (s.closeWindow k).fault c =
      if c = .meterPulse ∧ s.pulses k = true ∨ c = .unauthFlow ∧ s.leaks k (s.closedUnauth k) = true
      then s.struck c (some k) (s.response c none) false else s.fault c := by
  rw [closeWindow_of_running s k runs, ((s.afterCheck k).examine_leaves k).2.2 c notOverrun]
  exact s.fault_afterCheck k ((s.pulsed k).fault_credit k notDose)

/-! ### The volume engine and the totalizers -/

theorem State.closeWindow_stands (runs : (s.meter k).running = true) :
    (∀ j, (s.closeWindow k).vol j =
      { (s.afterCredit k).vol j with lostTimer := ((s.closeWindow k).vol j).lostTimer }) ∧
    (s.closeWindow k).custody.gross = (s.afterCredit k).custody.gross ∧
    (s.closeWindow k).custody.standard = (s.afterCredit k).custody.standard := by
  rw [closeWindow_of_running s k runs]
  obtain ⟨volumes, custody, -⟩ := (s.afterCheck k).examine_leaves k
  obtain ⟨-, -, -, checked, booked, -⟩ := s.afterCheck_bears k
  obtain ⟨gross, standard, -⟩ := CustodyBlk.figures custody
  obtain ⟨gross', standard', -⟩ := CustodyBlk.figures booked
  refine ⟨fun j => (volumes j).trans ?_, gross.trans gross', standard.trans standard'⟩
  have same : (s.afterCheck k).vol j = (s.afterCredit k).vol j := by
    rw [vol, checked]
    rfl
  rw [same]

/-! ### The unauthorised path -/

/-- The unauthorised path as one update (R57, R67, R76). -/
theorem State.credit_unauth_eq (f : Option Nat) (x : Nat × Nat)
    (increment : grossIncrement (s.meter k).lastN (f.getD 0) (s.meter k).ppl (s.vol k).unauthRem = x)
    (factor : meterFactor (s.vol k).curve (s.meter k).q = f) :
    (s.selected k).creditUnauth k (f.getD 0) = { s with
      meters := Vec.set s.meters k { s.meter k with unauth := min 999999999 ((s.meter k).unauth + x.1) }
      volumes := Vec.set s.volumes k { s.vol k with factor := f, temp := (s.vol k).temp.use, unauthRem := x.2 }
      custody := { s.custody with gross := Vec.set s.custody.gross k ((Vec.get s.custody.gross k).credit x.1) } } := by
  have vol : (s.selected k).vol k = { s.vol k with factor := f, temp := (s.vol k).temp.use } := by
    rw [vol_selected, if_pos rfl, factor]
  unfold creditUnauth
  dsimp only
  rw [vol, meter_selected, increment]
  simp only [selected, setVol, withVolumes, setMeter, withMeters, creditGross, withCustody, Vec.set_set]

/-- The credit of a window on an arm that does not run (R57, R67, R76). -/
theorem State.afterCredit_of_still (still : (s.arm k).state.running = false) :
    s.afterCredit k = { s.pulsed k with
      meters := (s.afterCredit k).meters
      volumes := Vec.set s.volumes k { s.vol k with
        factor := meterFactor (s.vol k).curve ((s.meter k).n * 240000 / (s.meter k).ppl)
        temp := (s.vol k).temp.use, unauthRem := (s.leaked k).2 }
      custody := { (s.pulsed k).custody with
        gross := Vec.set s.custody.gross k ((Vec.get s.custody.gross k).credit (s.leaked k).1) } } := by
  obtain ⟨-, -, volumes, custody⟩ := s.pulsed_stands k
  have gross := (CustodyBlk.figures custody).1
  have increment : grossIncrement ((s.pulsed k).meter k).lastN
      ((meterFactor (s.vol k).curve ((s.meter k).n * 240000 / (s.meter k).ppl)).getD 0)
      ((s.pulsed k).meter k).ppl ((s.pulsed k).vol k).unauthRem = s.leaked k := by
    rw [vol_pulsed, meter_pulsed, if_pos rfl]
    rfl
  have factor : meterFactor ((s.pulsed k).vol k).curve ((s.pulsed k).meter k).q =
      meterFactor (s.vol k).curve ((s.meter k).n * 240000 / (s.meter k).ppl) := by
    rw [vol_pulsed, meter_pulsed, if_pos rfl]
    rfl
  rw [afterCredit_of_unauth s k still, (s.pulsed k).credit_unauth_eq k _ _ increment factor, vol_pulsed, gross, volumes]

/-! ### The batch path -/

/-- The increment credited to a batch with the figures of `b` gives the figures of `windowed` (R70, R73, R76). -/
theorem State.windowed_alike {b x : Batch} (like : Alike b x (s.pulses k)) :
    Alike (s.windowed k b) (x.credited (s.vol k).temp.use
      (grossIncrement (s.meter k).n ((meterFactor (s.vol k).curve ((s.meter k).n * 240000 / (s.meter k).ppl)).getD 0)
        (s.meter k).ppl x.rg).1
      (grossIncrement (s.meter k).n ((meterFactor (s.vol k).curve ((s.meter k).n * 240000 / (s.meter k).ppl)).getD 0)
        (s.meter k).ppl x.rg).2) false := by
  obtain ⟨gross, rg, standard, rs, weight, preset, k5, held, clamped, fault⟩ := like
  unfold windowed Batch.credited grossIncrement standardIncrement
  dsimp only
  rw [gross, rg, standard, rs, weight, k5, held, clamped]
  exact ⟨rfl, rfl, rfl, rfl, rfl, preset, rfl, rfl, rfl, by simp [fault]⟩

/-- The batch path's update before the demands (R70, R73, R76). -/
theorem State.billed_eq (b : Batch) (f : Nat) {g : Nat × Nat}
    (increment : grossIncrement (s.meter k).lastN f (s.meter k).ppl b.rg = g) : s.billed k b f = { s with
      arms := Vec.set s.arms k { s.arm k with batch := some (b.credited (s.vol k).temp g.1 g.2) }
      custody := { s.custody with
        gross := Vec.set s.custody.gross k ((Vec.get s.custody.gross k).credit g.1)
        standard := Vec.set s.custody.standard k ((Vec.get s.custody.standard k).credit
          (standardIncrement g.1 (b.k5.getD 0) b.rs).1) } } := by
  unfold billed
  dsimp only
  rw [increment]
  rfl

/-- The batch that step 4 bills: the increment of the window that closes, METER_FAULT as step 3 left it. -/
def State.billedBatch (x : Batch) : Batch :=
  let g := grossIncrement (s.meter k).n ((meterFactor (s.vol k).curve ((s.meter k).n * 240000 / (s.meter k).ppl)).getD 0)
    (s.meter k).ppl x.rg
  x.credited (s.vol k).temp.use g.1 g.2

/-- The state that the demands of a window start from. -/
def State.beforeDemands (x : Batch) : State := { s.pulsed k with
  volumes := Vec.set s.volumes k { s.vol k with
    factor := meterFactor (s.vol k).curve ((s.meter k).n * 240000 / (s.meter k).ppl), temp := (s.vol k).temp.use }
  arms := Vec.set (s.pulsed k).arms k { (s.pulsed k).arm k with batch := some (s.billedBatch k x) }
  custody := { (s.pulsed k).custody with
    gross := Vec.set s.custody.gross k ((Vec.get s.custody.gross k).credit ((s.billedBatch k x).gross - x.gross))
    standard := Vec.set s.custody.standard k
      ((Vec.get s.custody.standard k).credit ((s.billedBatch k x).standard - x.standard)) } }

theorem State.afterCredit_of_running {x : Batch} (runs : ((s.pulsed k).arm k).state.running = true)
    (held : ((s.pulsed k).arm k).batch = some x) :
    s.afterCredit k = if (s.billedBatch k x).gross = x.gross then s.beforeDemands k x
      else (s.beforeDemands k x).demands k := by
  obtain ⟨-, -, volumes, custody⟩ := s.pulsed_stands k
  obtain ⟨gross, standard, -⟩ := CustodyBlk.figures custody
  let g := grossIncrement (s.meter k).n ((meterFactor (s.vol k).curve ((s.meter k).n * 240000 / (s.meter k).ppl)).getD 0)
    (s.meter k).ppl x.rg
  have increment : grossIncrement (((s.pulsed k).selected k).meter k).lastN
      ((meterFactor (s.vol k).curve ((s.meter k).n * 240000 / (s.meter k).ppl)).getD 0)
      (((s.pulsed k).selected k).meter k).ppl x.rg = g := by
    rw [meter_selected, meter_pulsed, if_pos rfl]
    rfl
  have selects : (s.pulsed k).selected k = { s.pulsed k with volumes := Vec.set s.volumes k { s.vol k with
      factor := meterFactor (s.vol k).curve ((s.meter k).n * 240000 / (s.meter k).ppl)
      temp := (s.vol k).temp.use } } := by
    unfold selected
    rw [vol_pulsed, meter_pulsed, if_pos rfl, setVol, volumes]
    rfl
  have temp : (((s.pulsed k).selected k).vol k).temp = (s.vol k).temp.use := by
    rw [vol_selected, if_pos rfl, vol_pulsed]
  have gains : (s.billedBatch k x).gross - x.gross = g.1 := Nat.add_sub_cancel_left ..
  have gains' : (s.billedBatch k x).standard - x.standard = (standardIncrement g.1 (x.k5.getD 0) x.rs).1 :=
    Nat.add_sub_cancel_left ..
  have bills : ((s.pulsed k).selected k).billed k x
      ((meterFactor (s.vol k).curve ((s.meter k).n * 240000 / (s.meter k).ppl)).getD 0) = s.beforeDemands k x := by
    rw [billed_eq _ k x _ increment, temp, beforeDemands, gains, gains', ← gross, ← standard, selects]
    rfl
  have idle : g.1 = 0 ↔ (s.billedBatch k x).gross = x.gross := by
    have : (s.billedBatch k x).gross = x.gross + g.1 := rfl
    omega
  rw [afterCredit_of_batch s k runs held, creditBatch_eq, increment, bills]
  exact if_congr idle rfl rfl

/-- The credit of a window on a running arm, a batch with the figures of `windowed` after it (R70, R73, R76). -/
theorem State.afterCredit_bears (runs : (s.arm k).state.running = true) {b : Batch} (held : (s.arm k).batch = some b) :
    GoesOn { s.arm k with batch := some (s.windowed k b) } ((s.afterCredit k).arm k) false ∧
    (s.afterCredit k).custody.gross =
      Vec.set s.custody.gross k ((Vec.get s.custody.gross k).credit ((s.windowed k b).gross - b.gross)) ∧
    (s.afterCredit k).custody.standard =
      Vec.set s.custody.standard k ((Vec.get s.custody.standard k).credit ((s.windowed k b).standard - b.standard)) ∧
    (s.afterCredit k).volumes = Vec.set s.volumes k { s.vol k with
      factor := meterFactor (s.vol k).curve ((s.meter k).n * 240000 / (s.meter k).ppl)
      temp := (s.vol k).temp.use } := by
  obtain ⟨stays, x, held', like⟩ := s.pulsed_batch k runs held
  have alike : Alike (s.windowed k b) (s.billedBatch k x) false := s.windowed_alike k like
  have bears : (s.beforeDemands k x).Bears (s.afterCredit k) k false := by
    rw [afterCredit_of_running s k stays held']
    split_ifs
    · exact .refl _ k
    · exact demands_bears _ k k
  obtain ⟨-, -, -, volumes, custody, arm⟩ := bears
  obtain ⟨gross, standard, -⟩ := CustodyBlk.figures custody
  have start : (s.beforeDemands k x).arm k = { (s.pulsed k).arm k with batch := some (s.billedBatch k x) } :=
    Vec.get_set_same ..
  obtain ⟨-, -, stopping, history⟩ := s.arm_pulsed k
  refine ⟨.trans (m := false) (n := false) ⟨?_, fun _ c is => ⟨s.billedBatch k x, ?_, ?_⟩, ?_, ?_⟩ arm, ?_, ?_, volumes⟩
  · rw [start]
    exact stays.trans runs.symm
  · rw [start]
  · obtain rfl : s.windowed k b = c := Option.some.inj is
    exact alike
  · rw [start]
    exact stopping
  · rw [start]
    exact history
  · rw [gross, ← like.gross, ← alike.gross]
    rfl
  · rw [standard, ← like.standard, ← alike.standard]
    rfl

end

end Sys2Proof.Machine
end

section
/-! SUPPORT and PROOFS. A window close with its faults under REPORT, and under STOP_ARM (R39, R40, R51, R58). -/

namespace Sys2Proof.Machine

section
variable (s : State) (k : Fin 4)

/-! ### The two faults under REPORT -/

theorem State.announced_uport {t : State} {c : FaultClass} (tables : t.tables = s.tables) (fault : t.fault c = s.fault c)
    (uport : t.uport = s.uport) (clock : t.custody.clock = s.custody.clock) (j : Option (Fin 4)) (x : Subject)
    (m : ResponseMode) (drill : Bool) : (t.announced c j x m drill).uport = (s.announced c j x m drill).uport := by
  unfold announced
  rw [policy, tables, ← policy, fault]
  split_ifs
  · exact uport
  · rw [raise_eq_raised, raise_eq_raised, uport, clock]

/-- METER_FAULT as a window sets it (R108). -/
def markedBy (pulses : Bool) (b : Batch) : Batch :=
  { b with flags := { b.flags with meterFault := b.flags.meterFault || pulses } }

theorem markedBy_false : markedBy false = id := by
  funext b
  simp [markedBy]

/-- The arm as METER_PULSE marks it (R108). -/
def State.markedArm : Arm :=
  if (s.arm k).state.running then { s.arm k with batch := (s.arm k).batch.map (markedBy (s.pulses k)) } else s.arm k

theorem State.markedArm_of_quiet (quiet : s.pulses k = false) : s.markedArm k = s.arm k := by
  unfold markedArm
  rw [quiet, markedBy_false, Option.map_id]
  exact ite_self _

theorem State.markedArm_of_still (still : (s.arm k).state.running = false) : s.markedArm k = s.arm k :=
  if_neg (by simp [still])

/-- METER_PULSE as a window reports it. -/
def State.pulseReport : State := if s.pulses k then s.announced .meterPulse (some k) .none .report false else s

theorem State.pulseReport_eq : s.pulseReport k = { s with uport := (s.pulseReport k).uport } := by
  unfold pulseReport
  split_ifs
  · exact announced_eq _ _ _ _ _
  · rfl

theorem State.windowReport_eq (unauth : Nat) : s.windowReport k unauth = if s.leaks k unauth then
    (s.pulseReport k).announced .unauthFlow (some k) .none .report false else s.pulseReport k := rfl

theorem State.flagMeter_of_pulse (pulse : s.pulses k = true) :
    (s.setMeter k (s.pulsedMeter k)).flagMeter .meterPulse (some k) =
      (s.setMeter k (s.pulsedMeter k)).setArm k (s.markedArm k) := by
  have marks : (fun b : Batch => { b with flags := { b.flags with meterFault := true } }) = markedBy (s.pulses k) := by
    funext b
    simp [markedBy, pulse]
  unfold flagMeter markedArm updBatch
  dsimp only
  rw [marks]
  by_cases runs : (s.arm k).state.running = true
  · exact (if_pos runs).trans (by rw [if_pos runs]; rfl)
  · exact (if_neg runs).trans (by rw [if_neg runs]; exact (setArm_self rfl).symm)

/-- Step 3 of a window whose METER_PULSE is only reported (R39, R51, R55, R108). -/
theorem State.pulsed_of_report (reported : s.pulses k = true → (s.policy .meterPulse).mode = .report) : s.pulsed k = { s with
    meters := Vec.set s.meters k (s.pulsedMeter k), arms := Vec.set s.arms k (s.markedArm k)
    safety := { s.safety with faults := (s.pulsed k).safety.faults }, uport := (s.pulseReport k).uport } := by
  rw [pulsed_eq, pulseReport]
  by_cases pulse : s.pulses k = true
  · have mode : ((s.setMeter k (s.pulsedMeter k)).setArm k (s.markedArm k)).response .meterPulse none = .report :=
      response_of_report _ (reported pulse) none
    have raises : (s.setMeter k (s.pulsedMeter k)).armFault .meterPulse k =
        ((s.setMeter k (s.pulsedMeter k)).setArm k (s.markedArm k)).recorded .meterPulse (some k) .none .report false := by
      have mode' : (s.setMeter k (s.pulsedMeter k)).response .meterPulse none = .report := mode
      rw [← reportFault_report, ← flagMeter_of_pulse s k pulse]
      unfold armFault raiseFault
      rw [mode']
      rfl
    have uport : (((s.setMeter k (s.pulsedMeter k)).setArm k (s.markedArm k)).announced .meterPulse (some k) .none .report
        false).uport = (s.announced .meterPulse (some k) .none .report false).uport := announced_uport s
        (t := (s.setMeter k (s.pulsedMeter k)).setArm k (s.markedArm k)) rfl rfl rfl rfl _ _ _ _
    rw [if_pos pulse, if_pos pulse, raises, recorded, uport]
    rfl
  · rw [if_neg pulse, if_neg pulse, markedArm_of_quiet s k (by simpa using pulse), arm, Vec.set_get_self]
    rfl

/-- Step 5 of a window whose UNAUTH_FLOW is only reported (R39, R51, R58). -/
theorem State.afterCheck_of_report
    (reported : s.leaks k (s.closedUnauth k) = true → (s.policy .unauthFlow).mode = .report) :
    s.afterCheck k = { s.afterCredit k with
      meters := (s.afterCheck k).meters
      safety := { (s.afterCredit k).safety with faults := (s.afterCheck k).safety.faults }
      uport := if s.leaks k (s.closedUnauth k) then
        ((s.afterCredit k).announced .unauthFlow (some k) .none .report false).uport else (s.afterCredit k).uport } := by
  unfold afterCheck
  rw [unauthCheck_eq, overflows_afterCredit]
  by_cases leak : s.leaks k (s.closedUnauth k) = true
  · have tables := s.afterCredit_tables k
    generalize s.afterCredit k = t at tables
    have mode : (t.setMeter k { t.meter k with unauthFlag := true }).response .unauthFlow none = .report := by
      refine response_of_report _ ?_ none
      rw [policy, setMeter, withMeters, tables]
      exact reported leak
    rw [if_pos leak, if_pos leak, armFault, raiseFault_of_report _ (by decide) (by decide) mode]
    have uport : ((t.setMeter k { t.meter k with unauthFlag := true }).announced .unauthFlow (some k) .none .report
        false).uport = (t.announced .unauthFlow (some k) .none .report false).uport := announced_uport t
        (t := t.setMeter k { t.meter k with unauthFlag := true }) rfl rfl rfl rfl _ _ _ _
    rw [recorded, uport]
    rfl
  · rw [if_neg leak, if_neg leak]

/-! ### An arm that does not run -/

theorem State.closeWindow_of_still (runs : (s.meter k).running = true) (still : (s.arm k).state.running = false) :
    s.closeWindow k = s.afterCheck k := by
  have pulsed := (s.arm_pulsed k).running.trans still
  have credited : ((s.afterCredit k).arm k).state.running = false := by
    rw [afterCredit_of_still s k still]
    exact pulsed
  rw [closeWindow_of_running s k runs]
  exact examine_of_still _ k ((s.afterCheck_bears k).arm.running.trans credited)

/-- The event queue after step 5, where no demand has raised an event (R39, R51). -/
theorem State.windowReport_uport (credit : (s.afterCredit k).uport = (s.pulseReport k).uport) :
    (if s.leaks k (s.closedUnauth k) then
      ((s.afterCredit k).announced .unauthFlow (some k) .none .report false).uport else (s.afterCredit k).uport) =
      (s.windowReport k (s.closedUnauth k)).uport := by
  have report := s.pulseReport_eq k
  have fault : (s.afterCredit k).fault .unauthFlow = (s.pulseReport k).fault .unauthFlow := by
    refine ((s.pulsed k).fault_credit k (by decide)).trans
      (((s.fault_pulsed k _).trans (if_neg fun h => nomatch h.1)).trans ?_)
    rw [report]
    rfl
  have tables : (s.afterCredit k).tables = (s.pulseReport k).tables := by
    rw [afterCredit_tables, report]
  have clock : (s.afterCredit k).custody.clock = (s.pulseReport k).custody.clock := by
    rw [report]
    exact ((s.pulsed k).credit_leaves k).2.2.trans (CustodyBlk.figures (s.pulsed_stands k).2.2.2).2.2
  rw [windowReport_eq]
  split_ifs
  · exact announced_uport _ tables fault credit clock _ _ _ _
  · exact credit

/-- Where the two faults are only reported, a window on an arm that does not run changes no other block (R57, R58). -/
theorem State.afterCheck_of_still (still : (s.arm k).state.running = false) (reported : s.reported k (s.leakedSum k)) :
    s.afterCheck k = { s with
      meters := (s.afterCheck k).meters
      volumes := (s.afterCredit k).volumes
      custody := { s.custody with
        gross := Vec.set s.custody.gross k ((Vec.get s.custody.gross k).credit (s.leaked k).1) }
      safety := { s.safety with faults := (s.afterCheck k).safety.faults }
      uport := (s.windowReport k (s.leakedSum k)).uport } := by
  obtain ⟨pulse, leak⟩ := reported
  have sum := s.closedUnauth_of_still k still
  have whole := s.afterCheck_of_report k (by rw [sum]; exact leak)
  have credit := s.afterCredit_of_still k still
  have pulsed := s.pulsed_of_report k pulse
  have uport := s.windowReport_uport k (by
    rw [credit]
    exact (congrArg State.uport pulsed :))
  rw [uport, sum] at whole
  rw [markedArm_of_still s k still, arm, Vec.set_get_self] at pulsed
  generalize s.afterCheck k = x at whole
  generalize s.afterCredit k = y at whole credit
  generalize s.pulsed k = z at credit pulsed
  rw [whole, credit, pulsed]

end

end Sys2Proof.Machine
end

section
/-! PROOFS. The close of a gate window (R40, R51, R52, R55 to R58, R66, R67, R70, R73, R76, R108). -/

namespace Sys2Proof.Machine

section
variable (s : State) (k : Fin 4)

/-- The factor that the credit selects (R66), and the totalizers of the other arms. -/
theorem State.credit_selects : ((s.credit k).vol k).factor = meterFactor (s.vol k).curve (s.meter k).q ∧
    ∀ j, j ≠ k → Vec.get (s.credit k).custody.gross j = Vec.get s.custody.gross j ∧
      Vec.get (s.credit k).custody.standard j = Vec.get s.custody.standard j := by
  by_cases batch : (s.arm k).state.running = true ∧ ∃ b, (s.arm k).batch = some b
  · obtain ⟨runs, b, held⟩ := batch
    rw [credit_of_batch s k runs held]
    obtain ⟨-, -, -, volumes, custody, -⟩ := (s.selected k).creditBatch_bears k b
      ((meterFactor (s.vol k).curve (s.meter k).q).getD 0)
    obtain ⟨gross, standard, -⟩ := CustodyBlk.figures custody
    rw [billed_eq _ k b _ rfl] at volumes gross standard
    refine ⟨?_, fun j other => ?_⟩
    · rw [vol, volumes]
      exact congrArg VolArm.factor ((s.vol_selected k k).trans (if_pos rfl))
    · rw [gross, standard]
      exact ⟨Vec.get_set_ne _ _ _ _ other, Vec.get_set_ne _ _ _ _ other⟩
  · have unauth : (s.arm k).state.running = false ∨ (s.arm k).batch = none := by
      by_contra neither
      obtain ⟨runs, some_⟩ := not_or.1 neither
      exact batch ⟨by simpa using runs, Option.ne_none_iff_exists'.1 some_⟩
    rw [credit_of_unauth s k unauth, credit_unauth_eq s k _ _ rfl rfl]
    exact ⟨congrArg VolArm.factor (Vec.get_set_same ..), fun j other => ⟨Vec.get_set_ne _ _ _ _ other, rfl⟩⟩

theorem State.closeWindow_selects (runs : (s.meter k).running = true) :
    ((s.closeWindow k).vol k).factor = meterFactor (s.vol k).curve ((s.meter k).n * 240000 / (s.meter k).ppl) ∧
    ∀ j, j ≠ k → Vec.get (s.closeWindow k).custody.gross j = Vec.get s.custody.gross j ∧
      Vec.get (s.closeWindow k).custody.standard j = Vec.get s.custody.standard j := by
  obtain ⟨volumes, gross, standard⟩ := s.closeWindow_stands k runs
  obtain ⟨factor, others⟩ := (s.pulsed k).credit_selects k
  obtain ⟨gross', standard', -⟩ := CustodyBlk.figures (s.pulsed_stands k).2.2.2
  rw [vol_pulsed, meter_pulsed, if_pos rfl] at factor
  rw [gross', standard'] at others
  refine ⟨(congrArg VolArm.factor (volumes k)).trans factor, fun j other => ?_⟩
  rw [gross, standard]
  exact others j other

/-- What the fault records name of a window under REPORT. -/
theorem State.windowFault_of_reported {unauth : Nat} (reported : s.reported k unauth) (c : FaultClass) :
    (if c = .meterPulse ∧ s.pulses k = true ∨ c = .unauthFlow ∧ s.leaks k unauth = true
      then s.struck c (some k) (s.response c none) false else s.fault c) = s.windowFault k unauth c := by
  obtain ⟨pulse, leak⟩ := reported
  unfold windowFault
  split_ifs with raised
  · have mode : s.response c none = .report := by
      rcases raised with ⟨rfl, raised⟩ | ⟨rfl, raised⟩
      · exact response_of_report s (pulse raised) none
      · exact response_of_report s (leak raised) none
    rw [mode]
  · rfl

/-- R57, R58, R67, R76: the close on an arm that does not run. -/
theorem State.closeWindow_still (runs : (s.meter k).running = true) (still : (s.arm k).state.running = false) :
    Vec.get (s.closeWindow k).custody.gross k = (Vec.get s.custody.gross k).credit (s.leaked k).1 ∧
    ((s.closeWindow k).vol k).unauthRem = (s.leaked k).2 ∧ ((s.closeWindow k).meter k).unauth = s.leakedSum k ∧
    (s.closeWindow k).custody.standard = s.custody.standard := by
  obtain ⟨volumes, gross, standard⟩ := s.closeWindow_stands k runs
  have credit := s.afterCredit_of_still k still
  obtain ⟨-, standard', -⟩ := CustodyBlk.figures (s.pulsed_stands k).2.2.2
  refine ⟨?_, (congrArg VolArm.unauthRem (volumes k)).trans ?_, ?_, ?_⟩
  · rw [gross, credit]
    exact Vec.get_set_same ..
  · rw [credit]
    exact congrArg VolArm.unauthRem (Vec.get_set_same ..)
  · rw [meter_closeWindow s k runs, if_pos rfl]
    exact s.closedUnauth_of_still k still
  · rw [standard, credit]
    exact standard'

/-- R39, R51, R57, R58: that close with both faults under REPORT. -/
theorem State.closeWindow_still_reported (runs : (s.meter k).running = true) (still : (s.arm k).state.running = false)
    (reported : s.reported k (s.leakedSum k)) :
    let u := s.closeWindow k
    u = { s with
      meters := u.meters, volumes := u.volumes, custody := u.custody, uport := u.uport
      safety := { s.safety with faults := u.safety.faults } } ∧
    u.custody = { s.custody with gross := u.custody.gross } ∧ (∀ j, j ≠ k → u.vol j = s.vol j) ∧
    (∀ c, u.fault c = s.windowFault k (s.leakedSum k) c) ∧
    u.uport = (s.windowReport k (s.leakedSum k)).uport := by
  intro u
  have named : u = s.closeWindow k := rfl
  clear_value u
  subst named
  have whole := s.afterCheck_of_still k still reported
  have credit := s.afterCredit_of_still k still
  refine ⟨?_, ?_, fun j other => ?_, fun c => ?_, ?_⟩
  · rw [closeWindow_of_still s k runs still]
    generalize s.afterCheck k = x at whole
    generalize s.afterCredit k = y at whole
    rw [whole]
  · rw [closeWindow_of_still s k runs still, whole]
  · rw [closeWindow_of_still s k runs still, whole]
    dsimp only [vol]
    rw [credit]
    exact Vec.get_set_ne _ _ _ _ other
  · rw [← s.windowFault_of_reported k reported]
    rw [closeWindow_of_still s k runs still, fault_afterCheck s k (by rw [credit]; rfl), closedUnauth_of_still s k still]
  · rw [closeWindow_of_still s k runs still, whole]

/-- R39 to R41, R58: UNAUTH_FLOW alone, under any response. -/
theorem State.closeWindow_still_leaks (runs : (s.meter k).running = true) (still : (s.arm k).state.running = false)
    (quiet : s.pulses k = false) (leak : s.leaks k (s.leakedSum k) = true) : ∃ w : State,
    w = { s with
      meters := (s.closeWindow k).meters, volumes := (s.closeWindow k).volumes
      custody := { s.custody with gross := (s.closeWindow k).custody.gross } } ∧
    s.closeWindow k = w.raiseFault .unauthFlow (some k) .none false none := by
  have pulsed : s.pulsed k = s.setMeter k (s.pulsedMeter k) := by
    rw [pulsed_eq, if_neg (by simp [quiet])]
  have credit := s.afterCredit_of_still k still
  have raises : s.afterCheck k = ((s.afterCredit k).setMeter k { (s.afterCredit k).meter k with
      unauthFlag := true }).raiseFault .unauthFlow (some k) .none false none := by
    rw [afterCheck, unauthCheck_eq, overflows_afterCredit, closedUnauth_of_still s k still, if_pos leak]
    rfl
  rw [pulsed] at credit
  rw [closeWindow_of_still s k runs still]
  refine ⟨_, ?_, raises⟩
  have meters : (s.afterCheck k).meters = ((s.afterCredit k).setMeter k { (s.afterCredit k).meter k with
      unauthFlag := true }).meters := by rw [raises]; simp
  have volumes : (s.afterCheck k).volumes = (s.afterCredit k).volumes := by rw [raises]; simp
  have gross : (s.afterCheck k).custody.gross = (s.afterCredit k).custody.gross := by rw [raises]; simp
  rw [meters, volumes, gross]
  generalize s.afterCredit k = y at credit
  rw [credit]
  rfl

/-- R70, R73, R76: the close on a running arm. -/
theorem State.closeWindow_batch (runs : (s.meter k).running = true) {b : Batch} (running : (s.arm k).state.running = true)
    (held : (s.arm k).batch = some b) :
    Vec.get (s.closeWindow k).custody.gross k =
      (Vec.get s.custody.gross k).credit ((s.windowed k b).gross - b.gross) ∧
    Vec.get (s.closeWindow k).custody.standard k =
      (Vec.get s.custody.standard k).credit ((s.windowed k b).standard - b.standard) ∧
    ((s.closeWindow k).vol k).unauthRem = (s.vol k).unauthRem ∧
    ((s.closeWindow k).meter k).unauth = (s.meter k).unauth ∧
    ((s.arm k).state ≠ .stopping ∨ 0 < (s.meter k).n ∨ (s.arm k).zeroCloses = 0 →
      ∃ x, ((s.closeWindow k).arm k).batch = some x ∧ Alike (s.windowed k b) x false) := by
  obtain ⟨volumes, gross, standard⟩ := s.closeWindow_stands k runs
  obtain ⟨goes, gross', standard', volumes'⟩ := s.afterCredit_bears k running held
  refine ⟨?_, ?_, (congrArg VolArm.unauthRem (volumes k)).trans ?_, ?_, fun unended => ?_⟩
  · rw [gross, gross']
    exact Vec.get_set_same ..
  · rw [standard, standard']
    exact Vec.get_set_same ..
  · simp only [vol, volumes', Vec.get_set_same]
  · rw [meter_closeWindow s k runs, if_pos rfl]
    exact s.closedUnauth_of_batch k running held
  · have checked := goes.trans (s.afterCheck_bears k).arm
    obtain ⟨x, kept, like⟩ := checked.batch running _ rfl
    have runs' : ((s.afterCheck k).arm k).state.running = true := checked.running.trans running
    have goesOn : ¬(s.afterCheck k).endsStopping k := by
      rintro ⟨stopping, none, second⟩
      have lastN : ((s.afterCheck k).meter k).lastN = (s.meter k).n := by
        rw [meter, (s.afterCheck_bears k).meters]
        exact congrArg Meter.lastN (Vec.get_set_same ..)
      rcases checked.stopping stopping with ⟨before, same⟩ | fresh
      · have same : ((s.afterCheck k).arm k).zeroCloses = (s.arm k).zeroCloses := same
        rcases unended with moving | flow | fresh
        · exact moving before
        · omega
        · omega
      · omega
    obtain ⟨y, last, further⟩ := (s.afterCheck k).examine_batch k runs' kept goesOn
    rw [closeWindow_of_running s k runs]
    exact ⟨y, last, like.trans further⟩

/-- A window of a batch without dose records makes no demand (R120). -/
theorem State.afterCredit_of_undosed {x : Batch} (runs : ((s.pulsed k).arm k).state.running = true)
    (held : ((s.pulsed k).arm k).batch = some x) (undosed : x.doses = []) : s.afterCredit k = s.beforeDemands k x := by
  have arm : ((s.beforeDemands k x).arm k).batch = some (s.billedBatch k x) :=
    congrArg Arm.batch (Vec.get_set_same ..)
  have none : ∀ d ∈ (s.billedBatch k x).doses, d.claimLost = true ∨ (s.billedBatch k x).gross < d.nextDue := by
    intro d at_
    rw [show (s.billedBatch k x).doses = x.doses from rfl, undosed] at at_
    simp at at_
  rw [afterCredit_of_running s k runs held, demands_of_none_due arm none, ite_self]

/-- A fault under STOP_ARM is recorded, latched and announced, and the arm that it names is stopped (R39, R40). -/
theorem State.raiseFault_of_stopArm {c : FaultClass} {action : Option FailureAction} (mode : s.response c action = .stopArm)
    (x : Subject) (drill : Bool) : s.raiseFault c (some k) x drill action =
      ((s.flagMeter c (some k)).recorded c (some k) x .stopArm drill).faultArm k := by
  have latches (t : State) : (t.reportFault c (some k) x drill .stopArm).respond c (some k) .stopArm =
      (t.recorded c (some k) x .stopArm drill).faultArm k := by
    rw [respond, stopArmResponse_eq]
    dsimp only
    have entered : (t.reportFault c (some k) x drill .stopArm).fault c = (t.fault c).entered
      (some k) t.custody.clock drill := by
      rw [reportFault_eq]
      exact (t.fault_setFault c c _).trans (if_pos rfl)
    rw [entered, reportFault_eq, recorded, struck_eq]
    exact congrArg (fun v : State => State.faultArm { v with uport := (t.announced c (some k) x .stopArm drill).uport } k)
      (t.setFault_setFault c _ _)
  rw [raiseFault, mode]
  exact latches _

/-- The arm as METER_PULSE under STOP_ARM leaves it before its window is credited (R40, R103, R108). -/
theorem State.arm_pulsed_of_stopArm {b : Batch} (pulse : s.pulses k = true)
    (mode : s.response .meterPulse none = .stopArm) (held : (s.arm k).batch = some b)
    (active : (s.arm k).state.flowing = true ∨ (s.arm k).state = .suspended) (j : Fin 4) :
    (s.pulsed k).arm j = if j = k then { s.arm k with
      state := .stopping, zeroCloses := 0, stopTimer := some (s.now + (s.armEntry k).stopTimeout * 1000)
      batch := some { markedBy (s.pulses k) b with
        endReason := some .fault, atStopping := some b.delivered } } else s.arm j := by
  have running : (s.arm k).state.running = true := by
    rcases active with flows | rests
    · cases state : (s.arm k).state <;> simp_all [ArmState.flowing, ArmState.running]
    · rw [rests]
      rfl
  have marked : s.markedArm k = { s.arm k with batch := some (markedBy (s.pulses k) b) } := by
    rw [markedArm, if_pos running, held]
    rfl
  have raises := (s.setMeter k (s.pulsedMeter k)).raiseFault_of_stopArm k (c := .meterPulse) (action := none) mode .none false
  rw [flagMeter_of_pulse s k pulse] at raises
  rw [pulsed_eq, if_pos pulse, armFault, raises, arm_faultArm]
  have arm : ∀ i, (((s.setMeter k (s.pulsedMeter k)).setArm k (s.markedArm k)).recorded .meterPulse (some k) .none .stopArm
      false).arm i = if i = k then s.markedArm k else s.arm i := fun i => s.arm_setArm k i _
  split_ifs with same
  · have stops : ∀ t : State, t.now = s.now → t.tables = s.tables → t.arm k = s.markedArm k → t.faultedArm k = { s.arm k with
        state := .stopping, zeroCloses := 0, stopTimer := some (s.now + (s.armEntry k).stopTimeout * 1000)
        batch := some { markedBy (s.pulses k) b with endReason := some .fault, atStopping := some b.delivered } } := by
      intro t now tables arm
      have stopped : t.faultedArm k = t.stopped k .fault := by
        unfold faultedArm
        rw [arm, marked]
        rcases active with flows | rests
        · cases state : (s.arm k).state <;> simp_all [ArmState.flowing]
        · rw [rests]
      rw [stopped, State.stopped, arm, marked, now, armEntry, tables]
      rfl
    exact stops _ rfl rfl ((arm k).trans (if_pos rfl))
  · exact (arm j).trans (if_neg same)

/-- R40, R51: METER_PULSE under STOP_ARM stops the arm before its window is credited (log 65). -/
theorem State.closeWindow_stops (runs : (s.meter k).running = true) {b : Batch} (pulse : s.pulses k = true)
    (mode : s.response .meterPulse none = .stopArm) (held : (s.arm k).batch = some b) (undosed : b.doses = [])
    (quiet : s.leaks k (s.meter k).unauth = false)
    (active : (s.arm k).state.flowing = true ∨ (s.arm k).state = .suspended) :
    (∀ j, j ≠ k → (s.closeWindow k).arm j = s.arm j) ∧ (s.closeWindow k).arm k = { s.arm k with
      state := .stopping, zeroCloses := if (s.meter k).n = 0 then 1 else 0
      stopTimer := some (s.now + (s.armEntry k).stopTimeout * 1000)
      batch := some { s.windowed k b with endReason := some .fault, atStopping := some b.delivered } } := by
  have running : (s.arm k).state.running = true := by
    rcases active with flows | rests
    · cases state : (s.arm k).state <;> simp_all [ArmState.flowing, ArmState.running]
    · rw [rests]
      rfl
  have arms := s.arm_pulsed_of_stopArm k pulse mode held active
  let x : Batch := { markedBy (s.pulses k) b with endReason := some .fault, atStopping := some b.delivered }
  have stopped : (s.pulsed k).arm k = { s.arm k with
      state := .stopping, zeroCloses := 0, stopTimer := some (s.now + (s.armEntry k).stopTimeout * 1000)
      batch := some x } := (arms k).trans (if_pos rfl)
  have credit : s.afterCredit k = s.beforeDemands k x :=
    s.afterCredit_of_undosed k (by rw [stopped]; rfl) (by rw [stopped]) undosed
  have billed : s.billedBatch k x = { s.windowed k b with endReason := some .fault, atStopping := some b.delivered } := rfl
  have check : s.afterCheck k = s.afterCredit k := by
    rw [afterCheck, unauthCheck_eq, overflows_afterCredit, closedUnauth_of_batch s k running held, if_neg (by simp [quiet])]
  have armK : (s.afterCheck k).arm k = { s.arm k with
      state := .stopping, zeroCloses := 0, stopTimer := some (s.now + (s.armEntry k).stopTimeout * 1000)
      batch := some { s.windowed k b with endReason := some .fault, atStopping := some b.delivered } } := by
    rw [check, credit, ← billed]
    refine (Vec.get_set_same ..).trans ?_
    rw [stopped]
  have lastN : ((s.afterCheck k).meter k).lastN = (s.meter k).n := by
    rw [meter, (s.afterCheck_bears k).meters]
    exact congrArg Meter.lastN (Vec.get_set_same ..)
  have others : ∀ j, j ≠ k → (s.afterCheck k).arm j = s.arm j := fun j other => by
    rw [check, credit]
    exact (Vec.get_set_ne _ _ _ _ other).trans ((arms j).trans (if_neg other))
  have goes : ¬(s.afterCheck k).endsStopping k := by
    rintro ⟨-, -, second⟩
    rw [armK] at second
    simp at second
  have examined := (s.afterCheck k).examine_of_stopping_goes k (by rw [armK]) goes
  rw [armK, lastN] at examined
  rw [closeWindow_of_running s k runs, examined]
  refine ⟨fun j other => ?_, ?_⟩
  · rw [arm_setArm, if_neg other]
    exact others j other
  · rw [arm_setArm, if_pos rfl]

/-- Settles O24: the six steps of a close, one after the other. -/
theorem gateWindowClose : Obligations.GateWindowClose := by
  intro s k live runs
  have meter : (s.closeWindow k).meter k = s.closedMeter k := (s.meter_closeWindow k runs k).trans (if_pos rfl)
  obtain ⟨factor, others⟩ := s.closeWindow_selects k runs
  have pulse := s.fault_closeWindow k runs (c := .meterPulse) (by decide) (by decide)
  have leak := s.fault_closeWindow k runs (c := .unauthFlow) (by decide) (by decide)
  have stands := s.meter_closeWindow k runs
  have still := s.closeWindow_still k runs
  have batch := fun b => s.closeWindow_batch k runs (b := b)
  refine ⟨s.closeWindow k, exec_gateWindowClose_of_live live k, ?_⟩
  simp only [meter] at still batch ⊢
  refine ⟨rfl, rfl, rfl, rfl, rfl, rfl, rfl, rfl, rfl, rfl, rfl, rfl, rfl, ?_, ?_, fun j other => (stands j).trans
    (if_neg other),
    factor, fun rests => ?_, fun b raised stopArm held undosed quiet active => s.closeWindow_stops k runs raised stopArm held undosed quiet active,
    fun b running held => ?_, others⟩
  · simpa using pulse
  · simp only [reduceCtorEq, false_and, false_or, true_and] at leak
    exact leak
  · obtain ⟨gross, rem, sum, standard⟩ := still rests
    exact ⟨gross, rem, sum, standard, s.closeWindow_still_reported k runs rests, s.closeWindow_still_leaks k runs rests⟩
  · obtain ⟨gross, standard, rem, sum, goes⟩ := batch b running held
    refine ⟨gross, standard, rem, sum, fun unended => ?_⟩
    obtain ⟨x, kept, like⟩ := goes unended
    exact ⟨x, kept, like.gross, like.rg, like.standard, like.rs, like.weight, like.held, like.clamped,
      by rw [like.fault, Bool.or_false], like.preset, like.k5⟩

end

end Sys2Proof.Machine
end

section
/-! SUPPORT and PROOFS. TABLE_WRITE (R1 to R5, R37, R50, R63, R81 to R83, R111, R113, R114, R166, R167, R177, R180). -/

namespace Sys2Proof.Machine

/-! ### A write and its checks (R177) -/

theorem exec_tableWrite_of_hearing {s : State} (hearing : s.hearing = true) (tag : Byte) {p : List Byte}
    (length : tableWriteLength p = true) : exec (.tableWrite tag p) s =
      .next ((s.linkFrame.tableWrite p).1.reply 0x10 tag (s.linkFrame.tableWrite p).2) :=
  request_of_hearing hearing length _ _ _

section
variable {α : Type} (s : State)

/-- The two checks of a write, in their order, and its store, for what `R` says of its outcome. -/
theorem State.writeIf_cases {content : Option α} {inUse : Bool} {store : α → State} {R : State → Answer → Prop}
    (holds : ∀ u a, s.writeIf content inUse store = (u, a) → R u a) :
    (content = none → R s (deny .badValue)) ∧ ∀ x, content = some x →
      (inUse = true → R s (deny .inUse)) ∧ (inUse = false → R (store x) taken) := by
  refine ⟨fun none => holds _ _ (by rw [none]; rfl), fun x some_ => ⟨fun used => holds _ _ ?_, fun free => holds _ _ ?_⟩⟩
  · rw [some_, used]
    rfl
  · rw [some_, free]
    rfl

/-- The three checks of a write whose content must also fit the other entries. -/
theorem State.writeIf_keepIf_cases {content : Option α} {fits : α → Bool} {inUse : Bool} {store : α → State}
    {R : State → Answer → Prop} (holds : ∀ u a, s.writeIf (keepIf content fits) inUse store = (u, a) → R u a) :
    (content = none → R s (deny .badValue)) ∧ ∀ x, content = some x →
      (fits x = false → R s (deny .badValue)) ∧
      (fits x = true → (inUse = true → R s (deny .inUse)) ∧ (inUse = false → R (store x) taken)) := by
  obtain ⟨refused, checked⟩ := s.writeIf_cases holds
  refine ⟨fun none => refused (by rw [none]; rfl), fun x some_ => ⟨fun bad => refused ?_, fun good => checked x ?_⟩⟩
  · simp [some_, keepIf, bad]
  · simp [some_, keepIf, good]

/-- An entry stored is the entry read at its index, and no other index reads otherwise. -/
theorem tabRead_tabSet [DecidableEq α] {empty : α} {t : Tab α} (canonical : tabWf empty t = true) (i j : Nat) (x : α) :
    tabRead empty (tabSet empty t i ⟨x, false⟩) j = if j = i then x else tabRead empty t j := by
  unfold tabRead
  rw [tabGet_tabSet t canonical]
  split_ifs <;> rfl

end

/-- A write to a known table at an index that it has. -/
theorem State.tableWrite_of_known (s : State) {p : List Byte} {id : TableId} (known : tableOf (field p 0 1) = some id) :
    s.tableWrite p = s.writeEntry id (field p 1 2) (p.drop 3) := by
  unfold tableWrite
  rw [known]

theorem State.writeEntry_of_beyond (s : State) {id : TableId} {i : Nat} (beyond : tableSize id ≤ i) (p : List Byte) :
    s.writeEntry id i p = (s, deny .badIndex) := if_pos beyond

section
variable (s : State) {i : Nat} (e : List Byte)

theorem State.writeEntry_permit (inside : i < 512) : s.writeEntry .permit i e = s.writePermit i e :=
  if_neg (Nat.not_le.2 inside)

theorem State.writeEntry_vehicle (inside : i < 256) : s.writeEntry .vehicle i e = s.writeVehicle i e :=
  if_neg (Nat.not_le.2 inside)

theorem State.writeEntry_compat (only : i = 0) : s.writeEntry .compat i e = s.writeCompat e :=
  if_neg (by subst only; decide)

theorem State.writeEntry_product (g : Fin 16) : s.writeEntry .product g.val e = s.writeProduct g.val e :=
  if_neg (Nat.not_le.2 g.isLt)

theorem State.writeEntry_recipe (g : Fin 16) : s.writeEntry .recipe g.val e = s.writeRecipe g.val e :=
  if_neg (Nat.not_le.2 g.isLt)

theorem State.writeEntry_injector (j : Fin 6) : s.writeEntry .injector j.val e = s.writeInjector j e := by
  refine (if_neg (Nat.not_le.2 j.isLt)).trans ?_
  rw [finOf_of_eq rfl]

theorem State.writeEntry_arm (k : Fin 4) : s.writeEntry .arm k.val e = s.writeArm k e := by
  refine (if_neg (Nat.not_le.2 k.isLt)).trans ?_
  rw [finOf_of_eq rfl]

theorem State.writeEntry_device (g : Fin 12) : s.writeEntry .device g.val e = s.writeDevice g e := by
  refine (if_neg (Nat.not_le.2 g.isLt)).trans ?_
  rw [finOf_of_eq rfl]

theorem State.writeEntry_faultPolicy (c : Fin 11) : s.writeEntry .faultPolicy c.val e = s.writePolicy c e := by
  refine (if_neg (Nat.not_le.2 c.isLt)).trans ?_
  rw [finOf_of_eq rfl]

theorem State.writeEntry_bay (only : i = 0) : s.writeEntry .bay i e = s.writeBay e :=
  if_neg (by subst only; decide)

end

/-! ### The tables' writes, in the state `v` that the link frame leaves of `s` -/

section
variable {s v : State} (tables : v.tables = s.tables) (canonical : s.canonical = true)
include tables canonical

/-- R1, R2 (log 21). -/
theorem State.writePermit_cases (record : v.session.record = s.session.record) (i : Nat)
    (e : List Byte) {R : State → Answer → Prop}
    (holds : ∀ u a, v.writePermit i e = (u, a) → R u a) :
    (decodePermit e = none → R v (deny .badValue)) ∧
    ∀ x, decodePermit e = some x →
      (x.card ≠ 0 → tabOther (fun y => y.card == x.card) s.tables.permits i = true →
        R v (deny .badValue)) ∧
      (x.card = 0 ∨ tabOther (fun y => y.card == x.card) s.tables.permits i = false →
        (∀ r, s.session.record = some r → r.permit = some i → r.card ≠ field e 0 5 →
          R v (deny .inUse)) ∧
        ((∀ r, s.session.record = some r → r.permit = some i → r.card = field e 0 5) →
          ∃ u : State, R u taken ∧
            u = { v with tables := { s.tables with permits := u.tables.permits } } ∧
            u.permit i = x ∧ ∀ j, j ≠ i → u.permit j = s.permit j)) := by
  obtain ⟨permits, -⟩ := s.canonical_iff.1 canonical
  unfold writePermit at holds
  simp only [tables, record] at holds
  obtain ⟨refused, checked⟩ := v.writeIf_keepIf_cases holds
  refine ⟨refused, fun x is => ?_⟩
  obtain ⟨unfit, fit⟩ := checked x is
  refine ⟨fun named twin => unfit (by simp [named, twin]), fun fits => ?_⟩
  obtain ⟨used, stored⟩ := fit (by rcases fits with zero | alone <;> simp [*])
  refine ⟨fun r isOpen here other => used ?_, fun free => ⟨_, stored ?_, rfl, ?_, fun j other => ?_⟩⟩
  · simp [isOpen, here, Ne.symm other]
  · cases isOpen : s.session.record with
    | none => rfl
    | some r => simpa using fun here => (free r isOpen here).symm
  · exact (tabRead_tabSet permits i i x).trans (if_pos rfl)
  · exact (tabRead_tabSet permits i j x).trans (if_neg other)

/-- R3, R4. -/
theorem State.writeVehicle_cases (record : v.session.record = s.session.record) (i : Nat)
    (e : List Byte) {R : State → Answer → Prop}
    (holds : ∀ u a, v.writeVehicle i e = (u, a) → R u a) :
    (decodeVehicle e = none → R v (deny .badValue)) ∧
    ∀ x, decodeVehicle e = some x →
      (x.tag ≠ 0 → tabOther (fun y => y.tag == x.tag) s.tables.vehicles i = true →
        R v (deny .badValue)) ∧
      (x.tag = 0 ∨ tabOther (fun y => y.tag == x.tag) s.tables.vehicles i = false →
        (∀ r, s.session.record = some r → r.vehicle = i → R v (deny .inUse)) ∧
        ((∀ r, s.session.record = some r → r.vehicle ≠ i) →
          ∃ u : State, R u taken ∧
            u = { v with tables := { s.tables with vehicles := u.tables.vehicles } } ∧
            u.vehicle i = x ∧ ∀ j, j ≠ i → u.vehicle j = s.vehicle j)) := by
  obtain ⟨-, vehicles, -⟩ := s.canonical_iff.1 canonical
  unfold writeVehicle at holds
  simp only [tables, record] at holds
  obtain ⟨refused, checked⟩ := v.writeIf_keepIf_cases holds
  refine ⟨refused, fun x is => ?_⟩
  obtain ⟨unfit, fit⟩ := checked x is
  refine ⟨fun named twin => unfit (by simp [named, twin]), fun fits => ?_⟩
  obtain ⟨used, stored⟩ := fit (by rcases fits with zero | alone <;> simp [*])
  refine ⟨fun r isOpen here => used (by simp [isOpen, here]), fun free => ⟨_, stored ?_, rfl, ?_, fun j other => ?_⟩⟩
  · cases isOpen : s.session.record with
    | none => rfl
    | some r => simpa using free r isOpen
  · exact (tabRead_tabSet vehicles i i x).trans (if_pos rfl)
  · exact (tabRead_tabSet vehicles i j x).trans (if_neg other)

omit tables canonical in
theorem State.anyBatch_iff (arms : v.arms = s.arms) (f : Batch → Bool) :
    v.anyBatch f = true ↔ ∃ k b, (s.arm k).batch = some b ∧ f b = true := by
  have every : ∀ k, k ∈ armIxs := by decide
  simp [anyBatch, every, arm_congr arms, Option.any_eq_true]

omit tables canonical in
theorem State.anyBatch_eq_false_iff (arms : v.arms = s.arms) (f : Batch → Bool) :
    v.anyBatch f = false ↔ ∀ k b, (s.arm k).batch = some b → f b = false := by
  rw [← Bool.not_eq_true, anyBatch_iff arms]
  simp

/-- R63. -/
theorem State.writeProduct_cases (arms : v.arms = s.arms) (g : Fin 16) (e : List Byte) {R : State → Answer → Prop}
    (holds : ∀ u a, v.writeProduct g.val e = (u, a) → R u a) :
    (decodeProduct e = none → R v (deny .badValue)) ∧
    ∀ x, decodeProduct e = some x →
      (x.code ≠ 0 → tabOther (fun y => y.code == x.code) s.tables.products g.val = true →
        R v (deny .badValue)) ∧
      (x.code = 0 ∨ tabOther (fun y => y.code == x.code) s.tables.products g.val = false →
        ((∃ k b, (s.arm k).batch = some b ∧ b.product = g) → R v (deny .inUse)) ∧
        ((∀ k b, (s.arm k).batch = some b → b.product ≠ g) →
          ∃ u : State, R u taken ∧
            u = { v with tables := { s.tables with products := u.tables.products } } ∧
            u.product g = x ∧ ∀ j, j ≠ g → u.product j = s.product j)) := by
  obtain ⟨-, -, products, -⟩ := s.canonical_iff.1 canonical
  unfold writeProduct at holds
  simp only [tables] at holds
  obtain ⟨refused, checked⟩ := v.writeIf_keepIf_cases holds
  refine ⟨refused, fun x is => ?_⟩
  obtain ⟨unfit, fit⟩ := checked x is
  refine ⟨fun named twin => unfit (by simp [named, twin]), fun fits => ?_⟩
  obtain ⟨used, stored⟩ := fit (by rcases fits with zero | alone <;> simp [*])
  refine ⟨fun ⟨k, b, held, here⟩ => used ((anyBatch_iff arms _).2 ⟨k, b, held, by simp [here]⟩),
    fun free => ⟨_, stored ?_, rfl, ?_, fun j other => ?_⟩⟩
  · exact (anyBatch_eq_false_iff arms _).2 fun k b held => by simpa [Fin.val_inj] using free k b held
  · exact (tabRead_tabSet products _ _ x).trans (if_pos rfl)
  · exact (tabRead_tabSet products _ _ x).trans (if_neg (Fin.val_ne_of_ne other))

/-- R113, R114. -/
theorem State.writeRecipe_cases (arms : v.arms = s.arms) (g : Fin 16) (e : List Byte) {R : State → Answer → Prop}
    (holds : ∀ u a, v.writeRecipe g.val e = (u, a) → R u a) :
    (decodeRecipe e = none → R v (deny .badValue)) ∧
    ∀ x, decodeRecipe e = some x →
      ((∃ k b, (s.arm k).batch = some b ∧ b.recipe = some g) → R v (deny .inUse)) ∧
      ((∀ k b, (s.arm k).batch = some b → b.recipe ≠ some g) →
        ∃ u : State, R u taken ∧
          u = { v with tables := { s.tables with recipes := u.tables.recipes } } ∧
          u.recipe g = x ∧ ∀ j, j ≠ g → u.recipe j = s.recipe j) := by
  obtain ⟨-, -, -, recipes, -⟩ := s.canonical_iff.1 canonical
  unfold writeRecipe at holds
  simp only [tables] at holds
  obtain ⟨refused, checked⟩ := v.writeIf_cases holds
  refine ⟨refused, fun x is => ?_⟩
  obtain ⟨used, stored⟩ := checked x is
  refine ⟨fun ⟨k, b, held, here⟩ => used ((anyBatch_iff arms _).2 ⟨k, b, held, by simp [here]⟩),
    fun free => ⟨_, stored ?_, rfl, ?_, fun j other => ?_⟩⟩
  · refine (anyBatch_eq_false_iff arms _).2 fun k b held => ?_
    have other := free k b held
    cases recipe : b.recipe with
    | none => rfl
    | some q => simpa [recipe, Fin.val_inj] using other
  · exact (tabRead_tabSet recipes _ _ x).trans (if_pos rfl)
  · exact (tabRead_tabSet recipes _ _ x).trans (if_neg (Fin.val_ne_of_ne other))

/-- R111: the write makes one scan. -/
theorem State.writeInjector_cases (additive : v.additive = s.additive) (j : Fin 6) (e : List Byte) {R : State → Answer → Prop}
    (holds : ∀ u a, v.writeInjector j e = (u, a) → R u a) :
    (decodeInjector e = none → R v (deny .badValue)) ∧
    ∀ x, decodeInjector e = some x →
      ((s.inj j).state ≠ .free → R v (deny .inUse)) ∧
      ((s.inj j).state = .free → ∃ w : State, R w.scan taken ∧
        w = { v with tables := { s.tables with injectors := w.tables.injectors }, additive := w.additive } ∧
        w.injEntry j = x ∧ (∀ y, y ≠ j → w.injEntry y = s.injEntry y) ∧
        w.additive.waiting = s.additive.waiting ∧ (∀ y, y ≠ j → w.inj y = s.inj y) ∧
        w.inj j = { s.inj j with misses := 0, remainder := 0 }) := by
  obtain ⟨-, -, -, -, injectors, -⟩ := s.canonical_iff.1 canonical
  have same : v.inj = s.inj := by
    funext y
    rw [inj, additive, inj]
  unfold writeInjector at holds
  simp only [tables] at holds
  obtain ⟨refused, checked⟩ := v.writeIf_cases holds
  refine ⟨refused, fun x is => ?_⟩
  obtain ⟨used, stored⟩ := checked x is
  have state : (!v.injFree j) = true ↔ (s.inj j).state ≠ .free := by simp [injFree, same]
  refine ⟨fun busy => used (state.2 busy), fun free => ?_⟩
  let t := v.withTables { s.tables with injectors := tabSet emptyInjector s.tables.injectors j.val ⟨x, false⟩ }
  have inj : t.inj = s.inj := same
  refine ⟨t.setInj j { t.inj j with misses := 0, remainder := 0 },
    stored (by rw [← Bool.not_eq_true, state]; exact not_not.2 free), rfl, ?_, fun y other => ?_, ?_, fun y other => ?_, ?_⟩
  · exact (tabRead_tabSet injectors _ _ x).trans (if_pos rfl)
  · exact (tabRead_tabSet injectors _ _ x).trans (if_neg (Fin.val_ne_of_ne other))
  · exact (congrArg AdditiveBlk.waiting additive :)
  · rw [inj_setInj, if_neg other, inj]
  · rw [inj_setInj, if_pos rfl, inj]

/-- R166, R167 (log 22). -/
theorem State.writeDevice_cases (arms : v.arms = s.arms) (dport : v.dport = s.dport) (g : Fin 12)
    (e : List Byte) {R : State → Answer → Prop}
    (holds : ∀ u a, v.writeDevice g e = (u, a) → R u a) :
    (decodeDevice e = none → R v (deny .badValue)) ∧
    ∀ x, decodeDevice e = some x →
      (x.address ≠ 0 → (tabOther (fun y => y.address == x.address) s.tables.devices g.val = true ∨
          (x.role = some .cardReader ∨ x.role = some .tagReader) ∧
            tabOther (fun y => y.role == x.role && y.address != 0) s.tables.devices g.val = true) →
        R v (deny .badValue)) ∧
      (x.address = 0 ∨ tabOther (fun y => y.address == x.address) s.tables.devices g.val = false ∧
          (x.role = some .tempXmtr ∨ x.role = some .keypad ∨
            tabOther (fun y => y.role == x.role && y.address != 0) s.tables.devices g.val = false) →
        (∀ k, (s.device g).role = some .tempXmtr → (s.device g).arm = some k → (s.arm k).state ≠ .idle →
          R v (deny .inUse)) ∧
        ((s.device g).role ≠ some .tempXmtr ∨ (∀ k, (s.device g).arm = some k → (s.arm k).state = .idle) →
          ∃ u : State, R u taken ∧
            u = { v with
              tables := { s.tables with devices := u.tables.devices }
              dport := { s.dport with stations := u.dport.stations } } ∧
            u.device g = x ∧ (∀ j, j ≠ g → u.device j = s.device j ∧ u.station j = s.station j) ∧
            u.station g = ⟨if x.address = 0 then .absent else .silent, 0, [], 0⟩)) := by
  obtain ⟨-, -, -, -, -, -, devices⟩ := s.canonical_iff.1 canonical
  have device : v.device g = s.device g := by rw [State.device, tables, State.device]
  have locked : v.lockedEntry (s.device g) = true ↔
      (s.device g).role = some .tempXmtr ∧ ∃ k, (s.device g).arm = some k ∧ (s.arm k).state ≠ .idle := by
    rw [lockedEntry_eq_true_iff]
    simp only [arm_congr arms]
  unfold writeDevice at holds
  simp only [tables, device] at holds
  obtain ⟨refused, checked⟩ := v.writeIf_keepIf_cases holds
  refine ⟨refused, fun x is => ?_⟩
  obtain ⟨unfit, fit⟩ := checked x is
  have fitting : v.deviceFits g.val x = (x.address == 0 ||
      (!tabOther (fun y => y.address == x.address) s.tables.devices g.val &&
        (x.role == some .tempXmtr || x.role == some .keypad ||
          !tabOther (fun y => y.role == x.role && y.address != 0) s.tables.devices g.val))) := by
    rw [deviceFits, tables]
  rw [fitting] at unfit fit
  refine ⟨fun named twin => unfit ?_, fun fits => ?_⟩
  · rcases twin with twin | ⟨single | single, twin⟩ <;> simp_all
  · obtain ⟨used, stored⟩ := fit (by rcases fits with zero | ⟨alone, role | role | free⟩ <;> simp_all)
    refine ⟨fun k role arm active => used (locked.2 ⟨role, k, arm, active⟩), fun free => ?_⟩
    refine ⟨_, stored ?_, ?_, ?_, fun j other => ⟨?_, ?_⟩, ?_⟩
    · rw [← Bool.not_eq_true, locked]
      rintro ⟨role, k, arm, active⟩
      exact free.elim (fun no => no role) fun idle => active (idle k arm)
    · rw [← dport]
      rfl
    · exact (tabRead_tabSet devices _ _ x).trans (if_pos rfl)
    · exact (tabRead_tabSet devices _ _ x).trans (if_neg (Fin.val_ne_of_ne other))
    · refine (station_setStation _ g j _).trans ((if_neg other).trans ?_)
      rw [station, station, ← dport]
      rfl
    · refine (station_setStation _ g g _).trans ((if_pos rfl).trans ?_)
      by_cases zero : x.address = 0 <;> simp [Station.powerOn, zero]

omit tables canonical in
/-- R83: the bay parameters stored, and the histories that a change of basis empties. -/
theorem State.storeBay_stores (x : BayEntry) :
    s.storeBay x = { s with tables := { s.tables with bay := ⟨x, false⟩ }, arms := (s.storeBay x).arms } ∧
    ∀ k, (s.storeBay x).arm k = if x.basis = s.bay.basis then s.arm k else { s.arm k with history := [] } := by
  let t := s.withTables { s.tables with bay := ⟨x, false⟩ }
  have basis : t.bay.basis = x.basis := rfl
  have stores : s.storeBay x = if x.basis = s.bay.basis then t else t.clearHistories := by
    unfold storeBay
    dsimp only
    rw [basis, ite_not]
  rw [stores]
  refine ⟨?_, fun k => ?_⟩
  · split_ifs <;> rfl
  · split_ifs
    · rfl
    · exact t.arm_clearHistories k

omit canonical in
/-- R83, R180. -/
theorem State.writeBay_cases (arms : v.arms = s.arms) (record : v.session.record = s.session.record)
    (e : List Byte) {R : State → Answer → Prop}
    (holds : ∀ u a, v.writeBay e = (u, a) → R u a) :
    (decodeBay e = none → R v (deny .badValue)) ∧
    ∀ x, decodeBay e = some x →
      (s.session.record.isSome = true → R v (deny .inUse)) ∧
      (s.session.record = none → ∃ u : State, R u taken ∧
        u = { v with tables := { s.tables with bay := ⟨x, false⟩ }, arms := u.arms } ∧ u.bay = x ∧
        ∀ k, u.arm k = if x.basis = s.bay.basis then s.arm k else { s.arm k with history := [] }) := by
  unfold writeBay at holds
  simp only [record] at holds
  obtain ⟨refused, checked⟩ := v.writeIf_cases holds
  refine ⟨refused, fun x is => ?_⟩
  obtain ⟨used, stored⟩ := checked x is
  obtain ⟨stands, histories⟩ := v.storeBay_stores x
  have basis : v.bay = s.bay := by rw [bay, tables, bay]
  rw [tables] at stands
  rw [basis] at histories
  refine ⟨used, fun none => ⟨_, stored (by rw [none]; rfl), stands, ?_, fun k => ?_⟩⟩
  · rw [stands]
    rfl
  · rw [histories, arm_congr arms]

end

/-- A policy's write is never in use (R37). -/
theorem State.writePolicy_cases (v : State) (c : Fin 11) (e : List Byte) {R : State → Answer → Prop}
    (holds : ∀ u a, v.writePolicy c e = (u, a) → R u a) :
    (decodePolicy (faultClasses.getD c.val .estop) e = none → R v (deny .badValue)) ∧
    ∀ x, decodePolicy (faultClasses.getD c.val .estop) e = some x → R
      (v.withTables { v.tables with policies := Vec.set v.tables.policies c ⟨x, false⟩ }) taken := by
  obtain ⟨refused, checked⟩ := v.writeIf_cases holds
  exact ⟨refused, fun x is => (checked x is).2 rfl⟩

/-! ### The arm table: a short window, then a start (R50, R73, R80, R82) -/

section
variable (s : State) (k : Fin 4)

/-- A window that closes on an arm that does not run leaves every arm to go on. -/
theorem State.closeWindow_still_arms (still : (s.arm k).state.running = false) (i : Fin 4) :
    GoesOn (s.arm i) ((s.closeWindow k).arm i) false := by
  cases runs : (s.meter k).running with
  | false =>
    rw [closeWindow_of_stopped s k runs]
    exact .refl _
  | true =>
    have pulsed : GoesOn (s.arm i) ((s.pulsed k).arm i) false := by
      have flag : (s.setMeter k (s.pulsedMeter k)).flagMeter .meterPulse (some k) = s.setMeter k (s.pulsedMeter k) :=
        if_neg (by rw [show (s.setMeter k (s.pulsedMeter k)).arm k = s.arm k from rfl, still]; simp)
      rw [pulsed_eq]
      split_ifs
      · unfold armFault raiseFault
        rw [flag]
        exact (((s.setMeter k (s.pulsedMeter k)).reportFault_bears i _ _ _ _ _).trans (respond_bears _ i _ _ _)).arm
      · exact .refl _
    have credit : (s.afterCredit k).arm i = (s.pulsed k).arm i := by
      rw [afterCredit_of_still s k still]
      rfl
    have raises (t : State) : GoesOn (t.arm i) ((t.unauthCheck k).arm i) false := by
      rw [unauthCheck_eq]
      split_ifs
      · exact (raiseFault_bears (t.setMeter k { t.meter k with unauthFlag := true }) i (c := .unauthFlow)
        (by decide) (by decide) _ _ _ _).arm
      · exact .refl _
    have checked : GoesOn ((s.afterCredit k).arm i) ((s.afterCheck k).arm i) false := raises (s.afterCredit k)
    rw [credit] at checked
    rw [closeWindow_of_still s k runs still]
    exact pulsed.trans checked

/-- What such a window leaves of the tables, the time and the other arms' channels and volumes. -/
theorem State.closeWindow_still_stands (still : (s.arm k).state.running = false) :
    (s.closeWindow k).tables = s.tables ∧ (s.closeWindow k).now = s.now ∧
    (∀ j, j ≠ k → (s.closeWindow k).meter j = s.meter j ∧ (s.closeWindow k).vol j = s.vol j) ∧
    (s.closeWindow k).meter k = (if (s.meter k).running then s.closedMeter k else s.meter k) ∧
    ((s.closeWindow k).vol k).badSamples = (s.vol k).badSamples ∧ ((s.closeWindow k).vol k).clamps = (s.vol k).clamps ∧
    ((s.closeWindow k).vol k).overruns = (s.vol k).overruns := by
  cases runs : (s.meter k).running with
  | false =>
    rw [closeWindow_of_stopped s k runs]
    exact ⟨rfl, rfl, fun _ _ => ⟨rfl, rfl⟩, rfl, rfl, rfl, rfl⟩
  | true =>
    have meters := s.meter_closeWindow k runs
    have credit := s.afterCredit_of_still k still
    obtain ⟨now, tables, -, volumes, -, -⟩ := s.afterCheck_bears k
    have sets : (s.closeWindow k).volumes = (s.afterCredit k).volumes := by
      rw [closeWindow_of_still s k runs still, volumes]
      rfl
    rw [credit] at sets
    have vol : (s.closeWindow k).vol k = { s.vol k with
        factor := meterFactor (s.vol k).curve ((s.meter k).n * 240000 / (s.meter k).ppl)
        temp := (s.vol k).temp.use, unauthRem := (s.leaked k).2 } := by
      rw [State.vol, sets]
      exact Vec.get_set_same ..
    refine ⟨?_, ?_, fun j other => ⟨(meters j).trans (if_neg other), ?_⟩, (meters k).trans (if_pos rfl), ?_, ?_, ?_⟩
    · rw [closeWindow_of_still s k runs still, tables]
      simp [afterCredit_tables]
    · have credited : (s.afterCredit k).now = s.now := ((s.pulsed k).credit_leaves k).2.1.trans (s.pulsed_stands k).1
      rw [closeWindow_of_still s k runs still, now]
      simp [credited]
    · rw [State.vol, sets]
      exact Vec.get_set_ne _ _ _ _ other
    · rw [vol]
    · rw [vol]
    · rw [vol]

/-- The state whose short window a restart closes. -/
def State.forgotten : State := s.setArm k { s.arm k with history := [] }

/-- A restart: the short window closes, the channel and the volume engine start (R50, R73, R80, R82). -/
theorem State.restartArm_eq (still : (s.arm k).state.running = false) : s.restartArm k =
    { (s.forgotten k).closeWindow k with
      meters := Vec.set ((s.forgotten k).closeWindow k).meters k
        ((((s.forgotten k).closeWindow k).meter k).start (s.armEntry k) s.now 0 0 0)
      volumes := Vec.set ((s.forgotten k).closeWindow k).volumes k
        { ((((s.forgotten k).closeWindow k).vol k).start (s.armEntry k)).noTemp with unauthRem := 0 } } := by
  have rests : ((s.forgotten k).arm k).state.running = false := by
    rw [forgotten, arm_setArm, if_pos rfl]
    exact still
  obtain ⟨tables, now, -⟩ := (s.forgotten k).closeWindow_still_stands k rests
  have entry : ((s.forgotten k).closeWindow k).armEntry k = s.armEntry k := by
    rw [armEntry, tables]
    rfl
  have now : ((s.forgotten k).closeWindow k).now = s.now := now
  unfold restartArm
  dsimp only
  rw [show s.setArm k { s.arm k with history := [] } = s.forgotten k from rfl]
  generalize (s.forgotten k).closeWindow k = c at entry now
  have vol : (c.startChannel k 0 0 0).vol k = (c.vol k).start (s.armEntry k) := by
    unfold startChannel
    rw [vol_setVol, if_pos rfl, entry]
  rw [vol]
  simp only [startChannel, entry, now, setVol, withVolumes, setMeter, withMeters, Vec.set_set]

/-- What a restart makes of the channel and of the volume engine's copies, and what it leaves (R50, R51, R73, R80). -/
theorem State.restartArm_restarts (still : (s.arm k).state.running = false) :
    (s.restartArm k).tables = s.tables ∧ (∀ i, GoesOn ((s.forgotten k).arm i) ((s.restartArm k).arm i) false) ∧
    (∀ j, j ≠ k → (s.restartArm k).meter j = s.meter j ∧ (s.restartArm k).vol j = s.vol j) ∧
    (s.restartArm k).meter k = (if (s.meter k).running then s.closedMeter k else s.meter k).start (s.armEntry k) s.now 0 0 0 ∧
    (s.restartArm k).vol k = { s.vol k with
      curve := if (s.armEntry k).enabled then (s.armEntry k).curve else []
      factor := if (s.armEntry k).enabled then meterFactor (s.armEntry k).curve 0 else none
      temp := TempRec.absent, staleTimer := none, lostTimer := none, unauthRem := 0 } := by
  have rests : ((s.forgotten k).arm k).state.running = false := by
    rw [forgotten, arm_setArm, if_pos rfl]
    exact still
  obtain ⟨tables, -, others, meter, bad, clamps, overruns⟩ := (s.forgotten k).closeWindow_still_stands k rests
  have goes := (s.forgotten k).closeWindow_still_arms k rests
  have closed : (s.forgotten k).closedMeter k = s.closedMeter k := by
    have sum : (s.forgotten k).closedUnauth k = s.closedUnauth k := by
      rw [closedUnauth_of_still _ k rests, closedUnauth_of_still _ k still]
      rfl
    rw [closedMeter, closedMeter, sum]
    rfl
  rw [closed] at meter
  rw [restartArm_eq s k still]
  generalize (s.forgotten k).closeWindow k = c at tables others meter bad clamps overruns goes
  refine ⟨tables, goes, fun j other => ⟨?_, ?_⟩, ?_, ?_⟩
  · exact (Vec.get_set_ne _ _ _ _ other).trans (others j other).1
  · exact (Vec.get_set_ne _ _ _ _ other).trans (others j other).2
  · refine (Vec.get_set_same ..).trans ?_
    rw [meter]
    rfl
  · refine (Vec.get_set_same ..).trans ?_
    simp only [VolArm.start, VolArm.noTemp, bad, clamps, overruns]
    rfl

/-- What a window reads of the meters, the volumes, the bay parameters and the policies. -/
theorem State.window_congr {t : State} (meters : t.meters = s.meters) (volumes : t.volumes = s.volumes)
    (params : t.tables.bay = s.tables.bay) (policies : t.tables.policies = s.tables.policies) :
    t.pulses k = s.pulses k ∧ t.leaked k = s.leaked k ∧ t.leakedSum k = s.leakedSum k ∧
    (∀ n, t.leaks k n = s.leaks k n) ∧ ∀ n, t.reported k n ↔ s.reported k n := by
  have bay : t.bay = s.bay := by rw [bay, params, bay]
  have meter : t.meter k = s.meter k := by rw [meter, meters, meter]
  have vol : t.vol k = s.vol k := by rw [vol, volumes, vol]
  have policy : ∀ c, t.policy c = s.policy c := fun c => by rw [policy, policies, State.policy]
  have pulses : t.pulses k = s.pulses k := by rw [pulses, meter, bay, State.pulses]
  have leaked : t.leaked k = s.leaked k := by rw [leaked, meter, vol, State.leaked]
  have leaks : ∀ n, t.leaks k n = s.leaks k n := fun n => by rw [leaks, meter, bay, State.leaks]
  exact ⟨pulses, leaked, by rw [leakedSum, leaked, meter, State.leakedSum], leaks,
    fun n => by rw [reported, pulses, leaks, policy, policy, State.reported]⟩

/-- What it reports. -/
theorem State.windowReport_congr {t : State} (meters : t.meters = s.meters) (volumes : t.volumes = s.volumes)
    (params : t.tables.bay = s.tables.bay) (policies : t.tables.policies = s.tables.policies)
    (safety : t.safety.faults = s.safety.faults) (custody : t.custody = s.custody) (n : Nat) :
    (∀ c, t.windowFault k n c = s.windowFault k n c) ∧
    (t.uport = s.uport → (t.windowReport k n).uport = (s.windowReport k n).uport) := by
  obtain ⟨pulses, -, -, leaks, -⟩ := s.window_congr k meters volumes params policies
  have policy : ∀ c, t.policy c = s.policy c := fun c => by rw [policy, policies, State.policy]
  have announces {x y : State} (mask : ∀ c, x.policy c = y.policy c) (fault : ∀ c, x.fault c = y.fault c)
      (clock : x.custody.clock = y.custody.clock) (uport : x.uport = y.uport) (c : FaultClass) (j : Option (Fin 4))
      (sub : Subject) (m : ResponseMode) (drill : Bool) :
      (x.announced c j sub m drill).uport = (y.announced c j sub m drill).uport := by
    unfold announced
    rw [mask, fault]
    split_ifs
    · exact uport
    · rw [raise_eq_raised, raise_eq_raised, uport, clock]
  refine ⟨fun c => ?_, fun uport => ?_⟩
  · rw [windowFault, pulses, leaks, struck_congr safety custody, fault_congr safety, State.windowFault]
  · have first : (t.pulseReport k).uport = (s.pulseReport k).uport := by
      unfold pulseReport
      rw [pulses]
      split_ifs
      · exact announces policy (fault_congr safety) (by rw [custody]) uport _ _ _ _ _
      · exact uport
    rw [windowReport_eq, windowReport_eq, leaks]
    split_ifs
    · rw [t.pulseReport_eq k, s.pulseReport_eq k]
      exact announces (x := { t with uport := (t.pulseReport k).uport }) (y := { s with uport := (s.pulseReport k).uport })
        policy (fault_congr safety) (by rw [custody]) first _ _ _ _ _
    · exact first

/-- A restart on an IDLE arm whose short window, if any, takes its faults under REPORT (R39, R50, R82). -/
theorem State.restartArm_of_report (still : (s.arm k).state.running = false)
    (reported : (s.meter k).running = false ∨ s.reported k (s.leakedSum k)) :
    s.restartArm k = { s with
      arms := Vec.set s.arms k { s.arm k with history := [] }, meters := (s.restartArm k).meters
      volumes := (s.restartArm k).volumes
      custody := if (s.meter k).running then { s.custody with
        gross := Vec.set s.custody.gross k ((Vec.get s.custody.gross k).credit (s.leaked k).1) } else s.custody
      safety := { s.safety with faults := (s.restartArm k).safety.faults }
      uport := (if (s.meter k).running then s.windowReport k (s.leakedSum k) else s).uport } ∧
    ∀ c, (s.restartArm k).fault c = if (s.meter k).running then s.windowFault k (s.leakedSum k) c else s.fault c := by
  have rests : ((s.forgotten k).arm k).state.running = false := by
    rw [forgotten, arm_setArm, if_pos rfl]
    exact still
  have restart := s.restartArm_eq k still
  cases runs : (s.meter k).running with
  | false =>
    rw [closeWindow_of_stopped (s.forgotten k) k runs] at restart
    generalize s.restartArm k = u at restart
    rw [restart]
    exact ⟨rfl, fun _ => rfl⟩
  | true =>
    have reported : (s.forgotten k).reported k ((s.forgotten k).leakedSum k) := reported.resolve_left (by simp [runs])
    obtain ⟨whole, -, -, faults, -⟩ := (s.forgotten k).closeWindow_still_reported k runs rests reported
    obtain ⟨standing, report⟩ := s.windowReport_congr k (t := s.forgotten k) rfl rfl rfl rfl rfl rfl (s.leakedSum k)
    have check := (s.forgotten k).afterCheck_of_still k rests reported
    rw [← closeWindow_of_still (s.forgotten k) k runs rests] at check
    generalize (s.forgotten k).closeWindow k = c at restart faults check
    generalize s.restartArm k = u at restart
    rw [restart]
    refine ⟨?_, fun d => (faults d).trans (standing d)⟩
    have uport : c.uport = (s.windowReport k (s.leakedSum k)).uport := by
      rw [check]
      exact report rfl
    rw [if_pos rfl, if_pos rfl, ← uport]
    rw [check]
    rfl

/-- R50, R51, R73, R80 to R82: a taken ARM write restarts the arm with its new entry. -/
theorem State.writeArm_cases {v : State} (tables : v.tables = s.tables) (canonical : s.canonical = true)
    (arms : v.arms = s.arms) (meters : v.meters = s.meters) (volumes : v.volumes = s.volumes)
    (safety : v.safety = s.safety) (custody : v.custody = s.custody) (now : v.now = s.now)
      (e : List Byte) {R : State → Answer → Prop}
    (holds : ∀ u a, v.writeArm k e = (u, a) → R u a) :
    (decodeArm e = none → R v (deny .badValue)) ∧
    ∀ x, decodeArm e = some x →
      ((s.arm k).state ≠ .idle → R v (deny .inUse)) ∧
      ((s.arm k).state = .idle → ∃ u : State, R u taken ∧
        u.armEntry k = x ∧ (∀ j, j ≠ k → u.armEntry j = s.armEntry j) ∧ (u.arm k).history = [] ∧
        (∀ j, j ≠ k → u.meter j = s.meter j ∧ u.vol j = s.vol j) ∧
        u.meter k = { s.meter k with
          running := x.enabled, ppl := x.ppl, aCount := 0, bCount := 0, n := 0, lastN := 0, lastA := 0, lastB := 0
          q := 0, debt := 0, excess := false, history := []
          window := if x.enabled then some (s.now + 250) else none
          discrepancies := if (s.meter k).running
            then min 65535 ((s.meter k).discrepancies + absDiff (s.meter k).aCount (s.meter k).bCount)
            else (s.meter k).discrepancies
          unauth := if (s.meter k).running then s.leakedSum k else (s.meter k).unauth
          unauthFlag := (s.meter k).unauthFlag || (s.meter k).running && s.leaks k (s.leakedSum k) } ∧
        u.vol k = { s.vol k with
          curve := if x.enabled then x.curve else [], factor := if x.enabled then meterFactor x.curve 0 else none
          temp := TempRec.absent, staleTimer := none, lostTimer := none, unauthRem := 0 } ∧
        ((s.meter k).running = false ∨ s.reported k (s.leakedSum k) →
          u = { v with
            tables := { s.tables with arms := u.tables.arms }, arms := u.arms, meters := u.meters
            volumes := u.volumes, custody := u.custody, uport := u.uport
            safety := { s.safety with faults := u.safety.faults } } ∧
          u.arm k = { s.arm k with history := [] } ∧ (∀ j, j ≠ k → u.arm j = s.arm j) ∧
          u.custody = (if (s.meter k).running then { s.custody with
            gross := Vec.set s.custody.gross k ((Vec.get s.custody.gross k).credit (s.leaked k).1) }
            else s.custody) ∧
          (∀ c, u.fault c = if (s.meter k).running then s.windowFault k (s.leakedSum k) c else s.fault c) ∧
          u.uport = (if (s.meter k).running then v.windowReport k (s.leakedSum k) else v).uport)) := by
  obtain ⟨-, -, -, -, -, entries, -⟩ := s.canonical_iff.1 canonical
  have arm : v.arm = s.arm := funext (arm_congr arms)
  unfold writeArm at holds
  simp only [tables, arm] at holds
  obtain ⟨refused, checked⟩ := v.writeIf_cases holds
  refine ⟨refused, fun x is => ?_⟩
  obtain ⟨used, stored⟩ := checked x is
  refine ⟨fun active => used (by simpa using active), fun idle => ⟨_, stored (by simp [idle]), ?_⟩⟩
  have named : ∃ f, f = v.withTables { s.tables with arms := tabSet emptyArm s.tables.arms k.val ⟨x, false⟩ } := ⟨_, rfl⟩
  obtain ⟨f, named⟩ := named
  rw [← named]
  have entry : ∀ j, f.armEntry j = if j = k then x else s.armEntry j := fun j => by
    rw [named]
    simp only [armEntry, withTables, tabRead_tabSet entries, Fin.val_inj]
  have meters : f.meters = s.meters := by rw [named]; exact meters
  have volumes : f.volumes = s.volumes := by rw [named]; exact volumes
  have safety : f.safety = s.safety := by rw [named]; exact safety
  have custody : f.custody = s.custody := by rw [named]; exact custody
  have arms : f.arms = s.arms := by rw [named]; exact arms
  have now : f.now = s.now := by rw [named]; exact now
  have params : f.tables.bay = s.tables.bay := by rw [named]; rfl
  have policies : f.tables.policies = s.tables.policies := by rw [named]; rfl
  have meter : ∀ j, f.meter j = s.meter j := fun j => by rw [State.meter, meters, State.meter]
  have vol : ∀ j, f.vol j = s.vol j := fun j => by rw [State.vol, volumes, State.vol]
  have still : (f.arm k).state.running = false := by
    rw [arm_congr arms, idle]
    rfl
  obtain ⟨pulses, leaked, sum, leaks, reported⟩ := s.window_congr k meters volumes params policies
  obtain ⟨standing, goes, others, meterK, volK⟩ := f.restartArm_restarts k still
  rw [entry k, if_pos rfl, meter, now] at meterK
  rw [entry k, if_pos rfl, vol] at volK
  have history : ((f.restartArm k).arm k).history = [] := by
    rw [(goes k).history, forgotten, arm_setArm, if_pos rfl]
  have read : ∀ j, (f.restartArm k).armEntry j = f.armEntry j := fun j => by rw [armEntry, standing, ← armEntry]
  refine ⟨?_, fun j other => ?_, history, fun j other => ?_, ?_, volK, fun quiet => ?_⟩
  · rw [read, entry, if_pos rfl]
  · rw [read, entry, if_neg other]
  · rw [← meter, ← vol]
    exact others j other
  · rw [meterK]
    cases runs : (s.meter k).running with
    | false =>
      simp only [Bool.false_eq_true, if_false, Bool.false_and, Bool.or_false]
      unfold Meter.start
      simp
    | true =>
      simp only [if_true, Bool.true_and]
      unfold closedMeter pulsedMeter Meter.start
      rw [closedUnauth_of_still f k still, sum, leaks, meter]
      simp
  · have quiet : (f.meter k).running = false ∨ f.reported k (f.leakedSum k) := by
      rw [meter, sum, reported]
      exact quiet
    obtain ⟨whole, faults⟩ := f.restartArm_of_report k still quiet
    obtain ⟨windowFaults, -⟩ := s.windowReport_congr k meters volumes params policies (by rw [safety]) custody (s.leakedSum k)
    obtain ⟨-, report⟩ := v.windowReport_congr k (t := f) (by rw [named]; rfl) (by rw [named]; rfl)
      (params.trans (by rw [tables])) (policies.trans (by rw [tables])) (by rw [named]; rfl) (by rw [named]; rfl)
      (s.leakedSum k)
    have uport : (if (s.meter k).running then f.windowReport k (s.leakedSum k) else f).uport =
        (if (s.meter k).running then v.windowReport k (s.leakedSum k) else v).uport := by
      split_ifs
      · exact report (by rw [named]; rfl)
      · rw [named]
        rfl
    rw [meter, sum, leaked, custody, safety, uport, arms, arm_congr arms] at whole
    simp only [meter, sum, windowFaults, fault_congr (congrArg SafetyBlk.faults safety)] at faults
    refine ⟨?_, ?_, fun j other => ?_, ?_, faults, ?_⟩
    · have tables : (f.restartArm k).tables = { s.tables with arms := (f.restartArm k).tables.arms } := by
        rw [standing, named]
        rfl
      rw [← tables]
      generalize f.restartArm k = u at whole
      rw [whole, named]
      rfl
    · rw [whole]
      exact Vec.get_set_same ..
    · rw [whole]
      exact Vec.get_set_ne _ _ _ _ other
    · rw [whole]
    · rw [whole]

end

/-- Settles O43: each table's checks in their order, and its store. -/
theorem tableWritten : Obligations.TableWritten := by
  intro s tag p i hearing canonical length index e answers taken'
  obtain ⟨-, now, -, tables, session, safety, meters, volumes, arms, additive, custody, -, dport, -⟩ := s.linkFrame_frame
  have record : s.linkFrame.session.record = s.session.record := by rw [session]
  have reply {u : State} {a : Answer} (writes : s.linkFrame.tableWrite p = (u, a)) :
      exec (.tableWrite tag p) s = .next (u.reply 0x10 tag a) := by
    rw [exec_tableWrite_of_hearing hearing tag length, writes]
  let R (u : State) (a : Answer) : Prop := exec (.tableWrite tag p) s = .next (u.reply 0x10 tag a)
  have write {id : TableId} (known : tableOf (field p 0 1) = some id) {u : State} {a : Answer}
      (writes : s.linkFrame.writeEntry id i e = (u, a)) : exec (.tableWrite tag p) s = .next (u.reply 0x10 tag a) :=
    reply (by rw [State.tableWrite_of_known _ known, index, writes])
  refine ⟨fun unknown => reply ?_, fun id known beyond => write known (State.writeEntry_of_beyond _ beyond e),
    fun known inside => ?_, fun known inside => ?_, fun known only => ?_, fun g known at_ => ?_, fun g known at_ => ?_,
    fun j known at_ => ?_, fun k known at_ => ?_, fun g known at_ => ?_, fun c known at_ => ?_, fun known only => ?_⟩
  case refine_1 =>
    unfold State.tableWrite
    rw [tableOf_of_le unknown]
  · refine State.writePermit_cases tables canonical record i e (R := R) fun u a writes => write known ?_
    rw [State.writeEntry_permit _ e inside, writes]
  · refine State.writeVehicle_cases tables canonical record i e (R := R) fun u a writes => write known ?_
    rw [State.writeEntry_vehicle _ e inside, writes]
  · refine write known ?_
    rw [State.writeEntry_compat _ e only, State.writeCompat, tables]
    rfl
  · subst at_
    refine State.writeProduct_cases tables canonical arms g e (R := R) fun u a writes => write known ?_
    rw [State.writeEntry_product, writes]
  · subst at_
    refine State.writeRecipe_cases tables canonical arms g e (R := R) fun u a writes => write known ?_
    rw [State.writeEntry_recipe, writes]
  · subst at_
    refine State.writeInjector_cases tables canonical additive j e (R := R) fun u a writes => write known ?_
    rw [State.writeEntry_injector, writes]
  · subst at_
    refine State.writeArm_cases s k tables canonical arms meters volumes safety custody now e (R := R)
      fun u a writes => write known ?_
    rw [State.writeEntry_arm, writes]
  · subst at_
    refine State.writeDevice_cases tables canonical arms dport g e (R := R) fun u a writes => write known ?_
    rw [State.writeEntry_device, writes]
  · subst at_
    obtain ⟨refused, stored⟩ := State.writePolicy_cases s.linkFrame c e (R := R) fun u a writes => write known (by
      rw [State.writeEntry_faultPolicy, writes])
    rw [tables] at stored
    exact ⟨refused, stored⟩
  · refine State.writeBay_cases tables arms record e (R := R) fun u a writes => write known ?_
    rw [State.writeEntry_bay _ e only, writes]

end Sys2Proof.Machine
end

section
/-! SUPPORT and PROOFS. A waiting arm sent back to READY; TABLE_CLEAR (R93, R118, R178, Table 9-3). -/

namespace Sys2Proof.Machine

/-! ### A start refused after its wait (R93, R118) -/

section
variable (s : State) {k : Fin 4} {b : Batch}

/-- Back to READY, off the waiting list, its refusal told. -/
theorem State.sendBack_sentBack (waits : (s.arm k).state = .waitInjector) (r : BatchReason) :
    s.sentBack (((s.unwait k).backToReady k b.preset).refuseGrant k b.source r) k b r := by
  have dm : (s.unwait k).deadmanAfter k .ready = s.safety.deadman := by
    refine deadmanAfter_of_same _ ?_
    rw [show (s.unwait k).arm k = s.arm k from rfl, waits]
    rfl
  have back : (s.unwait k).backToReady k b.preset = { s.setArm k { s.arm k with state := .ready } with
      additive := { s.additive with waiting := s.additive.waiting.filter (· != k) }
      session := { s.session with
        record := s.session.record.map fun x => { x with reserved := x.reserved - b.preset }, idleTimer := none } } := by
    rw [backToReady_eq, dm]
    rfl
  rw [back]
  have arms : ∀ j, (s.setArm k { s.arm k with state := .ready }).arm j =
      if j = k then { s.arm k with state := .ready } else s.arm j := fun j => s.arm_setArm k j _
  unfold refuseGrant
  dsimp only
  cases source : b.source with
  | server =>
    rw [raise_eq_raised]
    exact ⟨(arms k).trans (if_pos rfl), fun j other => (arms j).trans (if_neg other), rfl, fun _ => rfl, rfl,
      by rw [source, raise_eq_raised]; rfl, by rw [source]; rfl, rfl, rfl, rfl, rfl, rfl⟩
  | keypad a =>
    dsimp only
    rw [tellKeypad_eq_pushed, raise_eq_raised]
    refine ⟨(arms k).trans (if_pos rfl), fun j other => (arms j).trans (if_neg other), rfl, fun _ => rfl, rfl,
      by rw [source, raise_eq_raised]; rfl, ?_, rfl, rfl, rfl, rfl, rfl⟩
    rw [source]
    dsimp only
    rw [tellKeypad_eq_pushed]
    rfl

theorem State.scanArm_of_refused (waits : (s.arm k).state = .waitInjector) (batch : (s.arm k).batch = some b)
    {r : BatchReason} (refused : s.evaluate k b.recipe = .refused r) : s.sentBack (s.scanArm k) k b r := by
  have sends : s.scanArm k = ((s.unwait k).backToReady k b.preset).refuseGrant k b.source r := by
    unfold scanArm
    rw [waits, batch]
    dsimp only
    rw [refused]
  rw [sends]
  exact s.sendBack_sentBack waits r

/-- No injector serves a dose once the table is cleared (R115, R118). -/
theorem State.evaluate_of_cleared (cleared : s.tables.injectors = []) (k : Fin 4) (q : Fin 16) :
    s.evaluate k (some q) = .refused .recipeUnavailable := by
  have unserved (d : Dose) : s.doseRefusal k d = some .recipeUnavailable := by
    have none : injIxs.any (s.candidate k d) = false := by
      refine List.any_eq_false.2 fun j _ => ?_
      have entry : s.injEntry j = emptyInjector := by rw [injEntry, cleared]; rfl
      simp [candidate, entry, emptyInjector]
    simp [doseRefusal, none]
  cases doses : (s.recipe q).doses with
  | nil => exact s.evaluate_of_empty doses
  | cons d l => exact s.evaluate_of_failing (l := []) doses (by simp) (unserved d)

end

/-! ### The arms cleared (R50, R73, R80, R82) -/

/-- A channel stopped, its temperature record absent and its overrun history empty. -/
def State.restarted (s : State) (k : Fin 4) : Prop :=
  (s.meter k).running = false ∧ (s.vol k).temp.state = .absent ∧ (s.arm k).history = []

section
variable {s : State}

/-- A restart of an IDLE arm without an entry stops its channel, and leaves what earlier restarts made. -/
theorem State.restartArm_clears (cleared : s.tables.arms = []) (still : ∀ k, (s.arm k).state.running = false) (k : Fin 4) :
    (s.restartArm k).tables = s.tables ∧ (∀ j, ((s.restartArm k).arm j).state.running = false) ∧
    (s.restartArm k).restarted k ∧ ∀ j, s.restarted j → (s.restartArm k).restarted j := by
  have entry : s.armEntry k = emptyArm := by rw [armEntry, cleared]; rfl
  obtain ⟨tables, goes, others, meter, vol⟩ := s.restartArm_restarts k (still k)
  have forgets (j : Fin 4) : (s.forgotten k).arm j = if j = k then { s.arm k with history := [] } else s.arm j :=
    s.arm_setArm k j _
  have fresh : (s.restartArm k).restarted k := by
    refine ⟨?_, ?_, ?_⟩
    · rw [meter, entry]
      rfl
    · rw [vol]
      rfl
    · rw [(goes k).history, forgets, if_pos rfl]
  refine ⟨tables, fun j => ?_, fresh, fun j done => ?_⟩
  · rw [(goes j).running, forgets]
    split_ifs with same
    · exact still k
    · exact still j
  · by_cases same : j = k
    · rw [same]
      exact fresh
    · obtain ⟨stopped, absent, empty⟩ := done
      obtain ⟨meter, vol⟩ := others j same
      refine ⟨by rw [meter, stopped], by rw [vol, absent], ?_⟩
      rw [(goes j).history, forgets, if_neg same, empty]

theorem State.restartArms_clears (l : List (Fin 4)) (cleared : s.tables.arms = [])
    (still : ∀ k, (s.arm k).state.running = false) :
    (l.foldl State.restartArm s).tables = s.tables ∧
    (∀ j, s.restarted j ∨ j ∈ l → (l.foldl State.restartArm s).restarted j) := by
  induction l generalizing s with
  | nil => exact ⟨rfl, fun j done => done.resolve_right (by simp)⟩
  | cons k l ih =>
    obtain ⟨tables, stays, fresh, keeps⟩ := restartArm_clears cleared still k
    obtain ⟨tables', later⟩ := ih (s := s.restartArm k) (by rw [tables, cleared]) stays
    refine ⟨tables'.trans tables, fun j done => later j ?_⟩
    rcases done with done | listed
    · exact .inl (keeps j done)
    · rcases List.mem_cons.1 listed with rfl | listed
      · exact .inl fresh
      · exact .inr listed

end

/-! ### The request (R178) -/

theorem exec_tableClear_of_hearing {s : State} (hearing : s.hearing = true) (tag b : Byte) :
    exec (.tableClear tag [b]) s =
      .next ((s.linkFrame.tableClear [b]).1.reply 0x12 tag (s.linkFrame.tableClear [b]).2) :=
  request_of_hearing hearing (by simp) _ _ _

section
variable (s : State)

theorem State.clearInUse_congr {t : State} (tables : t.tables = s.tables) (session : t.session = s.session)
    (arms : t.arms = s.arms) (additive : t.additive = s.additive) (id : TableId) : t.clearInUse id = s.clearInUse id := by
  have arm : t.arm = s.arm := funext (arm_congr arms)
  have inj : t.inj = s.inj := by funext j; rw [State.inj, additive, State.inj]
  have device : t.device = s.device := by funext j; rw [State.device, tables, State.device]
  unfold clearInUse
  simp only [session, anyBatch, arm, injFree, inj, lockedEntry, device, allIdle]

theorem State.clearInUse_iff :
    (s.clearInUse .permit = true ↔ ∃ r, s.session.record = some r ∧ r.permit ≠ none) ∧
    (s.clearInUse .vehicle = true ↔ s.session.record ≠ none) ∧
    (s.clearInUse .bay = true ↔ s.session.record ≠ none) ∧
    (s.clearInUse .product = true ↔ ∃ k, (s.arm k).batch ≠ none) ∧
    (s.clearInUse .recipe = true ↔ ∃ k b, (s.arm k).batch = some b ∧ b.recipe ≠ none) ∧
    (s.clearInUse .injector = true ↔ ∃ j, (s.inj j).state ≠ .free) ∧
    (s.clearInUse .arm = true ↔ ∃ k, (s.arm k).state ≠ .idle) ∧
    (s.clearInUse .device = true ↔
      ∃ i k, (s.device i).role = some .tempXmtr ∧ (s.device i).arm = some k ∧ (s.arm k).state ≠ .idle) ∧
    s.clearInUse .compat = false ∧ s.clearInUse .faultPolicy = false := by
  have opens : s.session.record.isSome = true ↔ s.session.record ≠ none := by
    cases s.session.record <;> simp
  have everyDevice : ∀ i, i ∈ deviceIxs := by decide
  refine ⟨?_, opens, opens, ?_, ?_, ?_, ?_, ?_, rfl, rfl⟩
  · unfold clearInUse
    cases s.session.record with
    | none => simp
    | some r => cases permit : r.permit <;> simp [permit]
  · refine (anyBatch_iff rfl _).trans (exists_congr fun k => ?_)
    cases (s.arm k).batch <;> simp
  · refine (anyBatch_iff rfl _).trans (exists_congr fun k => exists_congr fun b => and_congr_right fun _ => ?_)
    cases b.recipe <;> simp
  · simp [clearInUse, List.any_eq_true, mem_injIxs, injFree]
  · have idle := s.allIdle_iff
    simp only [clearInUse, Bool.not_eq_true', ← Bool.not_eq_true, idle, not_forall]
  · simp only [clearInUse, List.any_eq_true, everyDevice, true_and, lockedEntry_eq_true_iff]
    exact ⟨fun ⟨i, role, k, arm, active⟩ => ⟨i, k, role, arm, active⟩, fun ⟨i, k, role, arm, active⟩ => ⟨i, role, k,
      arm, active⟩⟩

end

/-- What a clear makes, from a state `v` with the tables, the arms and the stations of `s` (R178). -/
theorem State.clearTable_clears {s v : State} (tables : v.tables = s.tables) (arms : v.arms = s.arms)
    (additive : v.additive = s.additive) (dport : v.dport = s.dport) {id : TableId} (free : s.clearInUse id = false) :
    (v.clearTable id).tables = emptied s.tables id ∧
    (id ≠ .arm → id ≠ .injector → id ≠ .device → id ≠ .bay →
      v.clearTable id = { v with tables := emptied s.tables id }) ∧
    (id = .device → v.clearTable id = { v with
        tables := emptied s.tables id, dport := { s.dport with stations := (v.clearTable id).dport.stations } } ∧
      ∀ i, (v.clearTable id).station i = ⟨.absent, 0, [], 0⟩) ∧
    (id = .injector → let w : State := { v with tables := emptied s.tables id }
      v.clearTable id = w.scan ∧ (s.additive.waiting = [] → v.clearTable id = w) ∧
      ∀ k b q, s.additive.waiting = [k] → (s.arm k).state = .waitInjector → (s.arm k).batch = some b →
        b.recipe = some q → w.sentBack (v.clearTable id) k b .recipeUnavailable) ∧
    (id = .arm → ∀ k, ((v.clearTable id).meter k).running = false ∧ ((v.clearTable id).vol k).temp.state = .absent ∧
      ((v.clearTable id).arm k).history = []) ∧
    (id = .bay → v.clearTable id = { v with tables := emptied s.tables id, arms := (v.clearTable id).arms } ∧
      ∀ k, (v.clearTable id).arm k = if s.bay.basis = .gross then s.arm k else { s.arm k with history := [] }) := by
  rw [← tables, ← dport, ← additive]
  cases id with
  | injector =>
    let w : State := { v with tables := emptied v.tables .injector }
    have scans : v.clearTable .injector = w.scan := rfl
    refine ⟨by rw [scans]; simp [w], fun _ other => absurd rfl other, nofun, fun _ => ⟨scans, fun none => ?_,
      fun k b q one waits batch recipe => ?_⟩, nofun, nofun⟩
    · rw [scans, State.scan, show w.additive.waiting = [] from none]
      rfl
    · have scanned : w.scan = w.scanArm k := by
        rw [State.scan, show w.additive.waiting = [k] from one]
        rfl
      rw [scans, scanned]
      have arm : w.arm k = s.arm k := arm_congr arms k
      refine w.scanArm_of_refused (by rw [arm, waits]) (by rw [arm, batch]) ?_
      rw [recipe]
      exact w.evaluate_of_cleared rfl k q
  | arm =>
    let w : State := { v with tables := emptied v.tables .arm }
    have restarts : v.clearTable .arm = armIxs.foldl State.restartArm w := rfl
    have still (k : Fin 4) : (w.arm k).state.running = false := by
      have idle : s.allIdle = true := by simpa [clearInUse] using free
      rw [show w.arm k = s.arm k from arm_congr arms k, s.allIdle_iff.1 idle k]
      rfl
    obtain ⟨standing, done⟩ := restartArms_clears armIxs (s := w) rfl still
    have every : ∀ k, k ∈ armIxs := by decide
    rw [restarts]
    exact ⟨standing, fun other => absurd rfl other, nofun, nofun, fun _ k => done k (.inr (every k)), nofun⟩
  | device =>
    exact ⟨rfl, fun _ _ other => absurd rfl other, fun _ => ⟨rfl, fun i => Vec.get_replicate _ i⟩, nofun, nofun, nofun⟩
  | bay =>
    obtain ⟨stands, histories⟩ := v.storeBay_stores defaultBay
    have basis : v.bay = s.bay := by rw [bay, tables, bay]
    refine ⟨?_, fun _ _ _ other => absurd rfl other, nofun, nofun, nofun, fun _ => ⟨stands, fun k => ?_⟩⟩
    · exact (congrArg State.tables stands).trans rfl
    · refine (histories k).trans ?_
      rw [basis, arm_congr arms]
      exact if_congr eq_comm rfl rfl
  | _ => exact ⟨rfl, fun _ _ _ _ => rfl, nofun, nofun, nofun, nofun⟩

/-- Settles O45: the check, then each table's clear. -/
theorem tableClear : Obligations.TableClear := by
  refine ⟨fun s tag b hearing => ?_, State.clearInUse_iff⟩
  obtain ⟨-, -, -, tables, session, -, -, -, arms, additive, -, -, dport, -⟩ := s.linkFrame_frame
  have inUse := s.clearInUse_congr tables session arms additive
  have clears {id : TableId} (known : tableOf b.toNat = some id) : s.linkFrame.tableClear [b] =
      if s.clearInUse id then (s.linkFrame, deny .inUse) else (s.linkFrame.clearTable id, taken) := by
    unfold State.tableClear
    rw [field_singleton, known]
    dsimp only
    rw [inUse]
  rw [exec_tableClear_of_hearing hearing]
  refine ⟨fun unknown => ?_, fun id known => ⟨fun used => ?_, fun free => ⟨s.linkFrame.clearTable id, ?_, ?_⟩⟩⟩
  · unfold State.tableClear
    rw [field_singleton, tableOf_of_le unknown]
  · rw [clears known, if_pos used]
  · rw [clears known, if_neg (by simp [free])]
  · exact State.clearTable_clears tables arms additive dport free

end Sys2Proof.Machine
end

section
/-! SUPPORT and PROOFS. The demands of a credit, under any response to DOSE (R39 to R41, R70, R73, R76, R119, R120). -/

namespace Sys2Proof.Machine

/-! ### A running arm through a response -/

/-- A running arm as a response leaves it: it runs on, its batch going on or stopped. -/
structure Halted (a c : Arm) : Prop where
  running : c.state.running = true
  batch : ∀ b, a.batch = some b → ∃ e t, c.batch = some { b with endReason := e, atStopping := t }

section
variable {s : State} {k : Fin 4}

theorem Halted.refl {a : Arm} (runs : a.state.running = true) : Halted a a :=
  ⟨runs, fun b held => ⟨b.endReason, b.atStopping, held⟩⟩

theorem State.halted_stopped (s : State) (k : Fin 4) (r : EndReason) : Halted (s.arm k) (s.stopped k r) :=
  ⟨rfl, fun b held => ⟨some r, some b.delivered, by simp [stopped, held]⟩⟩

theorem State.halted_aborted (runs : (s.arm k).state.running = true) (e : EndReason) :
    Halted (s.arm k) (s.abortedArm e k) := by
  unfold abortedArm
  split
  · exact s.halted_stopped k e
  · exact s.halted_stopped k e
  · exact s.halted_stopped k e
  · exact s.halted_stopped k e
  · simp_all [ArmState.running]
  · simp_all [ArmState.running]
  · exact .refl runs
  · exact .refl runs

theorem State.halted_faulted (runs : (s.arm k).state.running = true) : Halted (s.arm k) (s.faultedArm k) := by
  unfold faultedArm
  split
  · exact s.halted_stopped k _
  · exact s.halted_stopped k _
  · exact s.halted_stopped k _
  · exact s.halted_stopped k _
  all_goals exact .refl runs

/-- R40, R41: the response to a fault stops a running arm or leaves it. -/
theorem State.halted_respond (runs : (s.arm k).state.running = true) (c : FaultClass) (j : Option (Fin 4))
    (m : ResponseMode) : Halted (s.arm k) ((s.respond c j m).arm k) := by
  have latched (r : FaultRec) : ((s.setFault c r).arm k) = s.arm k := rfl
  cases m with
  | report => exact .refl runs
  | recipe => exact .refl runs
  | stopArm =>
    rw [respond, stopArmResponse_eq]
    dsimp only
    cases j with
    | none => exact .refl runs
    | some j =>
      dsimp only
      rw [arm_faultArm]
      split_ifs with same
      · subst same
        exact halted_faulted (s := s.setFault c _) runs
      · exact .refl runs
  | stopBay =>
    unfold respond stopBayResponse
    dsimp only
    split
    · rw [arm_abort]
      exact halted_aborted (s := s.setFault c _) runs _
    · exact .refl runs
    all_goals
      rw [arm_congr (State.settlePresentation_frame _).2.2.2.2.2.2.2.2.1]
      exact .refl runs

theorem State.halted_raiseFault (runs : (s.arm k).state.running = true) {c : FaultClass} (notPulse : c ≠ .meterPulse)
    (notReverse : c ≠ .meterReverse) (j : Option (Fin 4)) (x : Subject) (drill : Bool) (action : Option FailureAction) :
    Halted (s.arm k) ((s.raiseFault c j x drill action).arm k) := by
  unfold raiseFault
  rw [flagMeter_of_other s notPulse notReverse]
  have reported : (s.reportFault c j x drill (s.response c action)).arm k = s.arm k := arm_congr (by simp) k
  rw [← reported] at runs ⊢
  exact halted_respond runs c j _

end

/-! ### One demand -/

/-- A batch through demands: their doses may have moved on, DOSE may be marked, and the batch may have been stopped. -/
structure Demanded (b x : Batch) : Prop where
  eq : x = { b with
    doses := x.doses, flags := { b.flags with doseFault := x.flags.doseFault }, endReason := x.endReason
    atStopping := x.atStopping }
  doses : x.doses.map DoseRec.undemanded = b.doses.map DoseRec.undemanded
  marked : b.flags.doseFault = true → x.flags.doseFault = true

theorem Demanded.refl (b : Batch) : Demanded b b := ⟨rfl, rfl, id⟩

theorem Demanded.trans {b x y : Batch} (h : Demanded b x) (g : Demanded x y) : Demanded b y := by
  refine ⟨?_, g.doses.trans h.doses, fun marked => g.marked (h.marked marked)⟩
  rw [g.eq, h.eq]

/-- A demand moves the due point of one dose on by its interval (R120). -/
def MovesOn (d y : DoseRec) (n : Nat) : Prop :=
  ∃ o v, y = { d with nextDue := d.nextDue + n * d.interval, owed := o, overflow := v }

/-- The batch of a running arm after `n` demands of dose `i`, from state `s` to state `u`. -/
def State.demandedOn (s u : State) (k : Fin 4) (i n : Nat) : Prop :=
  ∀ b, (s.arm k).state.running = true → (s.arm k).batch = some b →
    (u.arm k).state.running = true ∧ ∃ x, (u.arm k).batch = some x ∧ Demanded b x ∧
      (∀ m, m ≠ i → x.doses[m]? = b.doses[m]?) ∧
      ∀ d, b.doses[i]? = some d → ∃ y, x.doses[i]? = some y ∧ MovesOn d y n

section
variable (s : State) (k : Fin 4) (i : Nat)

theorem State.demandedOn_refl : s.demandedOn s k i 0 := fun b runs held =>
  ⟨runs, b, held, .refl b, fun _ _ => rfl, fun d at_ => ⟨d, at_, d.owed, d.overflow, by simp⟩⟩

theorem State.demandedOn_trans {s t u : State} {k : Fin 4} {i m n : Nat} (h : s.demandedOn t k i m)
    (g : t.demandedOn u k i n) : s.demandedOn u k i (m + n) := by
  intro b runs held
  obtain ⟨runs, x, held, demanded, others, moves⟩ := h b runs held
  obtain ⟨runs, y, held, demanded', others', moves'⟩ := g x runs held
  refine ⟨runs, y, held, demanded.trans demanded', fun j other => (others' j other).trans (others j other), fun d at_ => ?_⟩
  obtain ⟨d', at_, o, v, rfl⟩ := moves d at_
  obtain ⟨d'', at_, o, v, rfl⟩ := moves' _ at_
  exact ⟨_, at_, o, v, by simp [Nat.add_mul, Nat.add_assoc]⟩

/-- A write of one dose record alone. -/
theorem State.updDose_demandedOn {f : DoseRec → DoseRec} {n : Nat} (moves : ∀ d, MovesOn d (f d) n) :
    s.demandedOn (s.updDose k i f) k i n := by
  intro b runs held
  have arm : (s.updDose k i f).arm k = { s.arm k with batch := some { b with doses := b.doses.modify i f } } := by
    rw [updDose, arm_updBatch, if_pos rfl, held]
    rfl
  rw [arm]
  refine ⟨runs, _, rfl, ⟨rfl, ?_, id⟩, fun m other => ?_, fun d at_ => ⟨f d, ?_, moves d⟩⟩
  · refine List.ext_getElem? fun m => ?_
    simp only [List.getElem?_map, List.getElem?_modify]
    cases b.doses[m]? with
    | none => rfl
    | some d =>
      obtain ⟨o, v, is⟩ := moves d
      by_cases same : i = m <;> simp [same, is, DoseRec.undemanded]
  · simp [Ne.symm other]
  · simp [at_]

/-- A change beside the arm's batch, its stop aside. -/
theorem State.demandedOn_of_halted {t u : State} (halted : (t.arm k).state.running = true → Halted (t.arm k) (u.arm k)) :
    t.demandedOn u k i 0 := by
  intro b runs held
  obtain ⟨running, batch⟩ := halted runs
  obtain ⟨e, a, held⟩ := batch b held
  exact ⟨running, _, held, ⟨rfl, rfl, id⟩, fun _ _ => rfl, fun d at_ => ⟨d, at_, d.owed, d.overflow, by simp⟩⟩

theorem State.raiseDose_demandedOn (j : Fin 4) (d : DoseRec) : s.demandedOn (s.raiseDose j d) k i 0 := by
  have marks : s.demandedOn (s.updBatch j fun b => { b with flags := { b.flags with doseFault := true } }) k i 0 := by
    intro b runs held
    rw [arm_updBatch]
    split_ifs with same
    · subst same
      exact ⟨runs, { b with flags := { b.flags with doseFault := true } }, by simp [held], ⟨rfl, rfl, fun _ => rfl⟩,
        fun _ _ => rfl,
        fun d at_ => ⟨d, at_, d.owed, d.overflow, by simp⟩⟩
    · exact ⟨runs, b, held, .refl b, fun _ _ => rfl, fun d at_ => ⟨d, at_, d.owed, d.overflow, by simp⟩⟩
  exact demandedOn_trans marks (demandedOn_of_halted k i fun runs =>
    halted_raiseFault runs (by decide) (by decide) _ _ _ _)

theorem State.demand_demandedOn : s.demandedOn (s.demand k i) k i 1 := by
  have due : s.demandedOn (s.updDose k i fun x => { x with nextDue := x.nextDue + x.interval }) k i 1 :=
    s.updDose_demandedOn k i fun d => ⟨d.owed, d.overflow, by simp⟩
  have owe (t : State) : t.demandedOn (t.updDose k i fun x => { x with owed := x.owed + 1 }) k i 0 :=
    t.updDose_demandedOn k i fun d => ⟨d.owed + 1, d.overflow, by simp⟩
  have overflow (t : State) : t.demandedOn (t.updDose k i fun x => { x with overflow := true }) k i 0 :=
    t.updDose_demandedOn k i fun d => ⟨d.owed, true, by simp⟩
  have injects (t : State) (d : DoseRec) : t.demandedOn (t.openInjection k i d) k i 0 :=
    demandedOn_of_halted k i fun runs => .refl runs
  unfold demand
  split
  · rename_i undosed
    intro b runs held
    refine ⟨runs, b, held, .refl b, fun _ _ => rfl, fun d at_ => ?_⟩
    simp [dose, held, at_] at undosed
  · dsimp only
    split_ifs
    · exact demandedOn_trans due (owe _)
    · exact due
    · split
      · exact demandedOn_trans due (injects _ _)
      · exact demandedOn_trans due (owe _)
      · exact due
    · split
      · exact demandedOn_trans due (injects _ _)
      · exact due
      · exact due
    · split
      · exact demandedOn_trans due (injects _ _)
      · exact demandedOn_trans due (demandedOn_trans (overflow _) (raiseDose_demandedOn _ k i k _))
      · exact due

theorem State.demandsOf_demandedOn (n : Nat) :
    s.demandedOn ((List.range n).foldl (fun t _ => t.demand k i) s) k i n := by
  induction n with
  | zero => exact s.demandedOn_refl k i
  | succ n ih =>
    rw [List.range_succ, List.foldl_append]
    exact demandedOn_trans ih (demand_demandedOn _ k i)

/-! ### The demands of a credit -/

/-- The batch of a running arm after the demands of the doses listed, at the gross `g` (R120). -/
def State.demandedAll (s u : State) (k : Fin 4) (g : Nat) (l : List Nat) : Prop :=
  ∀ b, (s.arm k).state.running = true → (s.arm k).batch = some b →
    (u.arm k).state.running = true ∧ ∃ x, (u.arm k).batch = some x ∧ Demanded b x ∧
      (∀ m, m ∉ l → x.doses[m]? = b.doses[m]?) ∧
      ∀ m ∈ l, ∀ d, b.doses[m]? = some d → ∃ y, x.doses[m]? = some y ∧ MovesOn d y (d.crossings g)

theorem State.doseDemands_demandedAll (g : Nat) : s.demandedAll (s.doseDemands k g i) k g [i] := by
  intro b runs held
  unfold doseDemands
  split
  · rename_i d at_
    have at_ : b.doses[i]? = some d := by simpa [dose, held] using at_
    obtain ⟨runs, x, held, demanded, others, moves⟩ := s.demandsOf_demandedOn k i (d.crossings g) b runs held
    refine ⟨runs, x, held, demanded, fun m other => others m (by simpa using other), fun m here d' at' => ?_⟩
    obtain rfl : m = i := by simpa using here
    obtain rfl : d = d' := Option.some.inj (at_.symm.trans at')
    exact moves d at_
  · rename_i none
    refine ⟨runs, b, held, .refl b, fun _ _ => rfl, fun m here d at_ => ?_⟩
    obtain rfl : m = i := by simpa using here
    simp [dose, held, at_] at none

theorem State.demandedAll_cons {s t u : State} {k : Fin 4} {g i : Nat} {l : List Nat} (fresh : i ∉ l)
    (h : s.demandedAll t k g [i]) (r : t.demandedAll u k g l) : s.demandedAll u k g (i :: l) := by
  intro b runs held
  obtain ⟨runs, x, held, demanded, others, moves⟩ := h b runs held
  obtain ⟨runs, y, held, demanded', others', moves'⟩ := r x runs held
  refine ⟨runs, y, held, demanded.trans demanded', fun m other => ?_, fun m listed d at_ => ?_⟩
  · obtain ⟨notHere, notLater⟩ := not_or.1 fun h => other (List.mem_cons.2 h)
    exact (others' m notLater).trans (others m (by simpa using notHere))
  · by_cases here : m = i
    · subst here
      obtain ⟨y, at_, moved⟩ := moves m (by simp) d at_
      exact ⟨y, (others' m fresh).trans at_, moved⟩
    · refine moves' m ((List.mem_cons.1 listed).resolve_left here) d ?_
      rw [others m (by simpa using here), at_]

theorem State.foldl_demandedAll (g : Nat) {l : List Nat} (nodup : l.Nodup) (s : State) :
    s.demandedAll (l.foldl (State.doseDemands k g) s) k g l := by
  induction l generalizing s with
  | nil => exact fun b runs held => ⟨runs, b, held, .refl b, fun _ _ => rfl, fun m listed => by simp at listed⟩
  | cons i l ih =>
    obtain ⟨fresh, nodup⟩ := List.nodup_cons.1 nodup
    exact demandedAll_cons fresh (s.doseDemands_demandedAll k i g) (ih nodup (s.doseDemands k g i))

/-- Every dose of the batch makes the demands whose due points its gross has reached (R119, R120). -/
theorem State.demands_demanded {b : Batch} (runs : (s.arm k).state.running = true) (held : (s.arm k).batch = some b) :
    ((s.demands k).arm k).state.running = true ∧ ∃ x, ((s.demands k).arm k).batch = some x ∧ Demanded b x ∧
      ∀ (i : Nat) d, b.doses[i]? = some d → ∃ y, x.doses[i]? = some y ∧ MovesOn d y (d.crossings b.gross) := by
  have all := s.foldl_demandedAll k b.gross (List.nodup_range (n := b.doses.length)) b runs held
  have runsAll : s.demands k = (List.range b.doses.length).foldl (State.doseDemands k b.gross) s := by
    unfold demands
    rw [held]
  rw [← runsAll] at all
  obtain ⟨runs, x, held, demanded, -, moves⟩ := all
  refine ⟨runs, x, held, demanded, fun i d at_ => moves i (List.mem_range.2 ?_) d at_⟩
  exact (List.getElem?_eq_some_iff.1 at_).1

/-- The demands bring the due point above the gross, and no further than the next one (R119). -/
theorem crossings_reach (d : DoseRec) (claimed : d.claimLost = false) (interval : 0 < d.interval) (g : Nat) :
    g < d.nextDue + d.crossings g * d.interval ∧
      (d.crossings g = 0 ∨ d.nextDue + d.crossings g * d.interval ≤ g + d.interval) := by
  unfold DoseRec.crossings
  rw [claimed]
  simp only [Bool.false_eq_true, if_false]
  split_ifs with reached
  · have div := Nat.div_add_mod (g - d.nextDue) d.interval
    have mod := Nat.mod_lt (g - d.nextDue) interval
    rw [Nat.add_mul, Nat.one_mul, Nat.mul_comm]
    generalize d.interval * ((g - d.nextDue) / d.interval) = q at div ⊢
    omega
  · omega

/-! ### The credit (R70, R73, R76) -/

/-- The batch path of a credit, its demands among it. -/
theorem State.creditBatch_credits {b : Batch} {f : Nat} (runs : (s.arm k).state.running = true) :
    ∃ x, ((s.creditBatch k b f).arm k).batch = some x ∧
      x.gross = b.gross + ((s.meter k).lastN * f * 10 + b.rg) / (s.meter k).ppl ∧
      x.rg = ((s.meter k).lastN * f * 10 + b.rg) % (s.meter k).ppl ∧
      x.standard = b.standard + ((x.gross - b.gross) * b.k5.getD 0 + b.rs) / 100000 ∧
      x.rs = ((x.gross - b.gross) * b.k5.getD 0 + b.rs) % 100000 ∧
      x.weight = b.weight + (s.vol k).temp.t * ((x.gross - b.gross : Nat) : Int) ∧
      x.flags.tempHeld = (b.flags.tempHeld || (s.vol k).temp.state == .stale) ∧
      x.preset = b.preset ∧ x.k5 = b.k5 ∧ x.compartment = b.compartment ∧ x.totalStart = b.totalStart ∧
      Vec.get (s.creditBatch k b f).custody.standard k =
        (Vec.get s.custody.standard k).credit (x.standard - b.standard) ∧
      (noneDue b x.gross → x.doses = b.doses ∧ x.flags.doseFault = b.flags.doseFault ∧
        (s.creditBatch k b f).additive = s.additive ∧ (s.creditBatch k b f).safety = s.safety) ∧
      (∀ (i : Nat) (d : DoseRec), b.gross < x.gross → b.doses[i]? = some d → d.claimLost = false → 0 < d.interval →
        ∃ (y : DoseRec) (m : Nat), x.doses[i]? = some y ∧ y.nextDue = d.nextDue + m * d.interval ∧ y.interval = d.interval ∧
          x.gross < y.nextDue ∧ (m = 0 ∨ y.nextDue ≤ x.gross + d.interval)) := by
  obtain ⟨g, increment⟩ : ∃ g, grossIncrement (s.meter k).lastN f (s.meter k).ppl b.rg = g := ⟨_, rfl⟩
  have gained : g.1 = ((s.meter k).lastN * f * 10 + b.rg) / (s.meter k).ppl := by rw [← increment]; rfl
  have left_ : g.2 = ((s.meter k).lastN * f * 10 + b.rg) % (s.meter k).ppl := by rw [← increment]; rfl
  let c := b.credited (s.vol k).temp g.1 g.2
  have billed := s.billed_eq k b f increment
  have arm : (s.billed k b f).arm k = { s.arm k with batch := some c } := by
    rw [billed]
    exact Vec.get_set_same ..
  have standard : Vec.get (s.billed k b f).custody.standard k =
      (Vec.get s.custody.standard k).credit (standardIncrement g.1 (b.k5.getD 0) b.rs).1 := by
    rw [billed]
    exact Vec.get_set_same ..
  have bears := s.creditBatch_bears k b f
  have credits := s.creditBatch_eq k b f
  rw [increment] at credits
  have cases_ : ∃ x, ((s.creditBatch k b f).arm k).batch = some x ∧ Demanded c x ∧
      (noneDue b c.gross → s.creditBatch k b f = s.billed k b f) ∧
      (g.1 ≠ 0 → ∀ (i : Nat) d, c.doses[i]? = some d → ∃ y, x.doses[i]? = some y ∧ MovesOn d y (d.crossings c.gross)) := by
    by_cases zero : g.1 = 0
    · rw [credits, if_pos zero]
      exact ⟨c, by rw [arm], .refl c, fun _ => rfl, fun some_ => absurd zero some_⟩
    · rw [credits, if_neg zero]
      have running : ((s.billed k b f).arm k).state.running = true := by rw [arm]; exact runs
      obtain ⟨-, x, kept, demanded, moves⟩ := (s.billed k b f).demands_demanded k (b := c) running (by rw [arm])
      refine ⟨x, kept, demanded, fun none => demands_of_none_due (b := c) (by rw [arm]) ?_, fun _ => moves⟩
      rcases none with same | none
      · have : c.gross = b.gross + g.1 := rfl
        omega
      · exact none
  obtain ⟨x, kept, demanded, undemanded, moves⟩ := cases_
  have gross : x.gross = b.gross + g.1 := by rw [demanded.eq]; rfl
  have gain : x.gross - b.gross = g.1 := by omega
  refine ⟨x, kept, gross.trans (by rw [gained]), ?_, ?_, ?_, ?_, ?_, ?_, ?_, ?_, ?_, ?_, fun none => ?_,
    fun i d more at_ claimed some_ => ?_⟩
  · rw [demanded.eq, ← left_]
    rfl
  · rw [gain, demanded.eq]
    rfl
  · rw [gain, demanded.eq]
    rfl
  · rw [gain, demanded.eq]
    rfl
  · rw [demanded.eq]
    rfl
  · rw [demanded.eq]
    rfl
  · rw [demanded.eq]
    rfl
  · rw [demanded.eq]
    rfl
  · rw [demanded.eq]
    rfl
  · have same : x.standard = b.standard + (standardIncrement g.1 (b.k5.getD 0) b.rs).1 := by rw [demanded.eq]; rfl
    rw [(CustodyBlk.figures bears.custody).2.1, standard, same, Nat.add_sub_cancel_left]
  · rw [gross] at none
    have stands := undemanded none
    have same : x = c := by
      rw [stands, arm] at kept
      exact (Option.some.inj kept).symm
    rw [stands, same, billed]
    exact ⟨rfl, rfl, rfl, rfl⟩
  · obtain ⟨y, at_, o, v, rfl⟩ := moves (by omega) i d at_
    obtain ⟨above, near⟩ := crossings_reach d claimed some_ c.gross
    exact ⟨_, d.crossings c.gross, at_, rfl, rfl, by rw [gross]; exact above, by rw [gross]; exact near⟩

/-! ### What one demand does (R120) -/

/-- A write of one dose record alone, as `redosed` says it. -/
theorem State.updDose_redosed {d : DoseRec} (at_ : s.dose k i = some d) (f : DoseRec → DoseRec) :
    s.redosed (s.updDose k i f) k i (f d) ∧ s.updDose k i f = { s with arms := (s.updDose k i f).arms } := by
  obtain ⟨b, held, listed⟩ := Option.bind_eq_some_iff.1 at_
  have arm : (s.updDose k i f).arm k = { s.arm k with batch := some { b with doses := b.doses.modify i f } } := by
    rw [updDose, arm_updBatch, if_pos rfl, held]
    rfl
  refine ⟨⟨?_, fun m other => ?_, fun m other => ?_, ?_, ?_⟩, rfl⟩
  · rw [dose, arm]
    simp [listed]
  · rw [dose, dose, arm, held]
    simp [Ne.symm other]
  · rw [updDose, arm_updBatch, if_neg other]
  · rw [arm]
  · rw [arm, held]
    rfl

theorem State.redosed_trans {s t u : State} {k : Fin 4} {i : Nat} {d e : DoseRec} (h : s.redosed t k i d)
    (g : t.redosed u k i e) : s.redosed u k i e := by
  obtain ⟨-, doses, arms, arm, batch⟩ := h
  obtain ⟨at_, doses', arms', arm', batch'⟩ := g
  exact ⟨at_, fun m other => (doses' m other).trans (doses m other), fun m other => (arms' m other).trans (arms m other),
    arm'.trans arm, batch'.trans batch⟩

theorem State.demand_demands {d : DoseRec} (at_ : s.dose k i = some d) :
    ((s.arm k).state = .stopping ∨ (s.inj d.injector).state = .injecting ∧ d.owed < 2 →
      s.redosed (s.demand k i) k i { d with
        nextDue := d.nextDue + d.interval, owed := if d.owed < 2 then d.owed + 1 else d.owed } ∧
      s.demand k i = { s with arms := (s.demand k i).arms }) ∧
    ((s.arm k).state ≠ .stopping → (s.inj d.injector).state = .claimedIdle →
      s.redosed (s.demand k i) k i { d with nextDue := d.nextDue + d.interval } ∧
      s.demand k i = { s with arms := (s.demand k i).arms, additive := (s.demand k i).additive } ∧
      (s.demand k i).additive.waiting = s.additive.waiting ∧
      (∀ j, j ≠ d.injector → (s.demand k i).inj j = s.inj j) ∧
      (s.demand k i).inj d.injector = { s.inj d.injector with
        state := .injecting, timer := some (s.now + d.timeoutMs), measured := 0, open_ := true, windowOpen := true
        windowTimer := none, stroke := d.stroke, ppl := d.ppl, owner := some (k, i) }) ∧
    ((s.arm k).state ≠ .stopping → (s.inj d.injector).state = .injecting → 2 ≤ d.owed → d.overflow = true →
      s.redosed (s.demand k i) k i { d with nextDue := d.nextDue + d.interval } ∧
      s.demand k i = { s with arms := (s.demand k i).arms }) ∧
    ((s.arm k).state ≠ .stopping → (s.inj d.injector).state = .injecting → 2 ≤ d.owed → d.overflow = false →
      ∃ v : State, s.demand k i = v.raiseDose k d ∧ v = { s with arms := v.arms } ∧
        s.redosed v k i { d with nextDue := d.nextDue + d.interval, overflow := true }) := by
  obtain ⟨due, dueEq⟩ := s.updDose_redosed k i at_ fun x => { x with nextDue := x.nextDue + x.interval }
  obtain ⟨t, named⟩ : ∃ t, s.updDose k i (fun x => { x with nextDue := x.nextDue + x.interval }) = t := ⟨_, rfl⟩
  rw [named] at due dueEq
  obtain ⟨owe, oweEq⟩ := t.updDose_redosed k i due.1 fun x => { x with owed := x.owed + 1 }
  obtain ⟨full, fullEq⟩ := t.updDose_redosed k i due.1 fun x => { x with overflow := true }
  have acts : s.demand k i =
      if (s.arm k).state = .stopping then (if d.owed < 2 then t.updDose k i fun x => { x with owed := x.owed + 1 } else t)
      else match (s.inj d.injector).state with
        | .claimedIdle => t.openInjection k i d
        | .injecting =>
          if d.owed < 2 then t.updDose k i fun x => { x with owed := x.owed + 1 }
          else if d.overflow then t
          else (t.updDose k i fun x => { x with overflow := true }).raiseDose k d
        | .free => t := by
    unfold demand
    rw [at_, ← named] <;> rfl
  have whole {u : State} (h : u = { t with arms := u.arms }) : u = { s with arms := u.arms } := by
    rw [h, dueEq]
  refine ⟨fun owes => ?_, fun moving idle => ?_, fun moving injecting many marked => ?_,
    fun moving injecting many unmarked => ?_⟩
  · by_cases few : d.owed < 2
    · have is : s.demand k i = t.updDose k i fun x => { x with owed := x.owed + 1 } := by
        rw [acts]
        rcases owes with stopping | ⟨injecting, -⟩
        · rw [if_pos stopping, if_pos few]
        · rw [injecting]
          dsimp only
          rw [if_pos few, if_pos few, ite_self]
      rw [is, if_pos few]
      exact ⟨redosed_trans due owe, whole oweEq⟩
    · have stopping : (s.arm k).state = .stopping := owes.resolve_right fun h => few h.2
      have is : s.demand k i = t := by rw [acts, if_pos stopping, if_neg few]
      rw [is, if_neg few]
      exact ⟨due, dueEq⟩
  · have is : s.demand k i = t.openInjection k i d := by rw [acts, if_neg moving, idle]
    have inj : t.inj = s.inj := by rw [dueEq]; rfl
    have now : t.now = s.now := by rw [dueEq]
    rw [is]
    refine ⟨due, ?_, ?_, fun j other => ?_, ?_⟩
    · rw [dueEq]
      rfl
    · rw [dueEq]
      rfl
    · rw [openInjection, inj_setInj, if_neg other, inj]
    · rw [openInjection, inj_setInj, if_pos rfl, inj, now]
  · have is : s.demand k i = t := by
      rw [acts, if_neg moving, injecting]
      dsimp only
      rw [if_neg (by omega), if_pos marked]
    rw [is]
    exact ⟨due, dueEq⟩
  · have is : s.demand k i = (t.updDose k i fun x => { x with overflow := true }).raiseDose k d := by
      rw [acts, if_neg moving, injecting]
      dsimp only
      rw [if_neg (by omega), if_neg (by simp [unmarked])]
    exact ⟨_, is, whole fullEq, redosed_trans due full⟩

end

/-- Settles O25: the credit with its demands, then one demand by the state of its arm and its injector. -/
theorem batchCredited : Obligations.BatchCredited :=
  ⟨fun s k _ _ _ runs => s.creditBatch_credits k runs, fun s k i _ at_ => s.demand_demands k i at_⟩

end Sys2Proof.Machine
end

section
/-! SUPPORT. The end of a batch, step by step (R4, R19, R78, R106, R127, R128). -/

namespace Sys2Proof.Machine

/-- Two vectors that read the same are the same. -/
theorem Vec.eq_of_get {α : Type} {n : Nat} {v w : Vector α n} (h : ∀ k, Vec.get v k = Vec.get w k) : v = w :=
  Vector.ext fun i inside => h ⟨i, inside⟩

/-! ### The doses finalised (R127, R128) -/

theorem judge_eq (d : DoseRec) (expected : Nat) : d.judge expected = verdictOf d expected := by
  unfold DoseRec.judge verdictOf
  dsimp only
  by_cases zero : expected = 0
  · simp only [zero, if_true]
  · rw [doseDeviation_of_pos (by omega)]

/-- A dose record finalised, its injector as `x` (R127, R128). -/
def finalDose (x : Injector) (k : Fin 4) (i gross : Nat) (y : DoseRec) : DoseRec :=
  let cut := x.state = .injecting ∧ x.claimant = some k ∧ x.owner = some (k, i)
  ({ y with done := if cut then bump 65535 y.done else y.done }).finalised gross

/-- From state `s` to state `u` the dose records of the batch `b` at the places listed are finalised. -/
structure State.finalises (s u : State) (k : Fin 4) (b : Batch) (l : List Nat) : Prop where
  eq : u = { s with arms := u.arms, additive := { s.additive with injectors := u.additive.injectors } }
  others : ∀ j, j ≠ k → u.arm j = s.arm j
  arm : ∃ ds, u.arm k = { s.arm k with batch := some { b with doses := ds } } ∧
    ∀ m, ds[m]? = if m ∈ l then (b.doses[m]?).map (s.doseEnded k b.gross m) else b.doses[m]?
  released : ∀ m ∈ l, ∀ d, b.doses[m]? = some d → u.inj d.injector = (s.inj d.injector).released k m
  untouched : ∀ j, (∀ m ∈ l, ∀ d, b.doses[m]? = some d → d.injector ≠ j) → u.inj j = s.inj j

section
variable (s : State) (k : Fin 4) {b : Batch}

theorem State.finaliseDose_finalises (held : (s.arm k).batch = some b) (i : Nat) :
    s.finalises (s.finaliseDose k b.gross i) k b [i] := by
  unfold finaliseDose dose
  rw [held]
  dsimp only [Option.bind_some]
  cases at_ : b.doses[i]? with
  | none =>
    refine ⟨rfl, fun _ _ => rfl, ⟨b.doses, ?_, fun m => ?_⟩, fun m here d there => ?_, fun _ _ => rfl⟩
    · rw [← held]
    · split_ifs with here
      · rw [List.mem_singleton.1 here, at_]
        rfl
      · rfl
    · rw [List.mem_singleton.1 here, at_] at there
      cases there
  | some d =>
    have ended : finalDose (s.inj d.injector) k i b.gross d = s.doseEnded k b.gross i d := by
      unfold finalDose DoseRec.finalised doseEnded
      dsimp only
      rw [judge_eq]
      rfl
    change s.finalises ((s.setInj d.injector ((s.inj d.injector).released k i)).updDose k i
      (finalDose (s.inj d.injector) k i b.gross)) k b [i]
    generalize finalDose (s.inj d.injector) k i b.gross = F at ended
    have arm : ((s.setInj d.injector ((s.inj d.injector).released k i)).updDose k i F).arm k =
        { s.arm k with batch := some { b with doses := b.doses.modify i F } } := by
      have standing : (s.setInj d.injector ((s.inj d.injector).released k i)).arm k = s.arm k := rfl
      rw [updDose, arm_updBatch, if_pos rfl, standing, held]
      rfl
    refine ⟨rfl, fun j other => ?_, ⟨_, arm, fun m => ?_⟩, fun m here d' there => ?_, fun j untouched => ?_⟩
    · rw [updDose, arm_updBatch, if_neg other]
      rfl
    · simp only [List.getElem?_modify, List.mem_singleton]
      by_cases here : m = i
      · subst here
        simp [at_, ended]
      · simp [here, Ne.symm here]
    · obtain rfl := List.mem_singleton.1 here
      obtain rfl : d = d' := Option.some.inj (at_.symm.trans there)
      exact (s.inj_setInj _ _ _).trans (if_pos rfl)
    · exact (s.inj_setInj _ _ _).trans (if_neg (Ne.symm (untouched i (by simp) d at_)))

theorem State.doseEnded_congr {s t : State} {d : DoseRec} (inj : t.inj d.injector = s.inj d.injector) (k : Fin 4) (g i : Nat) :
    t.doseEnded k g i d = s.doseEnded k g i d := by
  simp only [doseEnded, inj]

theorem State.finalises_cons {s t u : State} {k : Fin 4} {b : Batch} {i : Nat} {l : List Nat} (fresh : i ∉ l)
    (distinct : (b.doses.map DoseRec.injector).Nodup) (h : s.finalises t k b [i])
    (r : ∀ c : Batch, (t.arm k).batch = some c → t.finalises u k c l) : s.finalises u k b (i :: l) := by
  obtain ⟨eq, others, ⟨ds, arm, doses⟩, released, untouched⟩ := h
  obtain ⟨eq', others', ⟨ds', arm', doses'⟩, released', untouched'⟩ := r { b with doses := ds } (by rw [arm])
  have apart {m m' : Nat} {d d' : DoseRec} (at_ : b.doses[m]? = some d) (at' : b.doses[m']? = some d') (other : m ≠ m') :
      d.injector ≠ d'.injector := by
    intro same
    obtain ⟨here, rfl⟩ := List.getElem?_eq_some_iff.1 at_
    obtain ⟨there, rfl⟩ := List.getElem?_eq_some_iff.1 at'
    refine other ((List.Nodup.getElem_inj_iff distinct (hi := by simpa using here) (hj := by simpa using there)).1 ?_)
    simpa using same
  have same {m : Nat} (later : m ≠ i) : ds[m]? = b.doses[m]? := by
    rw [doses, if_neg (by simpa using later)]
  have keeps {m : Nat} {d : DoseRec} (later : m ≠ i) (at_ : b.doses[m]? = some d) : t.inj d.injector = s.inj d.injector :=
    untouched _ fun m' here d' at' => apart at' at_ (by rw [List.mem_singleton.1 here]; exact Ne.symm later)
  refine ⟨by rw [eq', eq], fun j other => (others' j other).trans (others j other), ⟨ds', ?_, fun m => ?_⟩,
    fun m listed d at_ => ?_, fun j clear => ?_⟩
  · rw [arm', arm]
  · rw [doses' m]
    by_cases here : m = i
    · subst here
      rw [if_neg fresh, if_pos (by simp), doses m, if_pos (by simp)]
    · rw [same here]
      simp only [List.mem_cons, here, false_or]
      split_ifs
      · cases at_ : b.doses[m]? with
        | none => rfl
        | some d => exact congrArg some (doseEnded_congr (keeps here at_) k _ m)
      · rfl
  · by_cases here : m = i
    · subst here
      rw [untouched' d.injector fun m' listed' d' at' => ?_]
      · exact released m (by simp) d at_
      · have later : m' ≠ m := fun h => fresh (h ▸ listed')
        rw [same later] at at'
        exact apart at' at_ later
    · rw [released' m ((List.mem_cons.1 listed).resolve_left here) d (by rw [same here, at_]), keeps here at_]
  · rw [untouched' j fun m' listed' d' at' => ?_]
    · exact untouched j fun m' here d' at' => clear m' (by simp [List.mem_singleton.1 here]) d' at'
    · have later : m' ≠ i := fun h => fresh (h ▸ listed')
      rw [same later] at at'
      exact clear m' (List.mem_cons_of_mem _ listed') d' at'

theorem State.foldl_finalises {l : List Nat} (nodup : l.Nodup) (s : State) {b : Batch}
    (distinct : (b.doses.map DoseRec.injector).Nodup) (held : (s.arm k).batch = some b) :
    s.finalises (l.foldl (State.finaliseDose k b.gross) s) k b l := by
  induction l generalizing s b with
  | nil =>
    refine ⟨rfl, fun _ _ => rfl, ⟨b.doses, ?_, fun m => by simp⟩, fun m listed => by simp at listed, fun _ _ => rfl⟩
    rw [← held]
    rfl
  | cons i l ih =>
    obtain ⟨fresh, nodup⟩ := List.nodup_cons.1 nodup
    have first := s.finaliseDose_finalises k held i
    refine finalises_cons fresh distinct first fun c held' => ?_
    obtain ⟨-, -, ⟨ds, arm, doses⟩, -, -⟩ := first
    rw [arm] at held'
    obtain rfl : { b with doses := ds } = c := Option.some.inj held'
    refine ih nodup _ ?_ (by rw [arm])
    have injectors : ds.map DoseRec.injector = b.doses.map DoseRec.injector := by
      refine List.ext_getElem? fun m => ?_
      rw [List.getElem?_map, List.getElem?_map, doses m]
      split_ifs
      · cases b.doses[m]? <;> rfl
      · rfl
    rw [injectors]
    exact distinct

/-- The batch with its dose records finalised (R127, R128). -/
def State.endedBatch (s : State) (k : Fin 4) (b : Batch) : Batch := { b with doses := b.doses.mapIdx (s.doseEnded k b.gross) }

/-- R127: the injectors released and the dose records finalised, before the scan. -/
theorem State.releaseDoses_finalises (held : (s.arm k).batch = some b)
    (distinct : (b.doses.map DoseRec.injector).Nodup) :
    s.releaseDoses k true = { s with
      arms := Vec.set s.arms k { s.arm k with batch := some (s.endedBatch k b) }
      additive := { s.additive with injectors := (s.releaseDoses k true).additive.injectors } } ∧
    (∀ (i : Nat) d, b.doses[i]? = some d → (s.releaseDoses k true).inj d.injector = (s.inj d.injector).released k i) ∧
    ∀ j, j ∉ b.doses.map DoseRec.injector → (s.releaseDoses k true).inj j = s.inj j := by
  have runs : s.releaseDoses k true = (List.range b.doses.length).foldl (State.finaliseDose k b.gross) s := by
    unfold releaseDoses
    rw [held]
    exact if_pos (.inl rfl)
  obtain ⟨eq, others, ⟨ds, arm, doses⟩, released, untouched⟩ :=
    s.foldl_finalises k (List.nodup_range (n := b.doses.length)) distinct held
  rw [← runs] at eq others arm released untouched
  have ended : ds = b.doses.mapIdx (s.doseEnded k b.gross) := by
    refine List.ext_getElem? fun m => ?_
    rw [doses m, List.getElem?_mapIdx]
    split_ifs with inside
    · rfl
    · rw [List.getElem?_eq_none (by simpa using inside)]
      rfl
  refine ⟨?_, fun i d at_ => ?_, fun j other => untouched j fun m _ d at_ same => other ?_⟩
  · have arms : (s.releaseDoses k true).arms = Vec.set s.arms k { s.arm k with batch := some (s.endedBatch k b) } := by
      refine Vec.eq_of_get fun j => ?_
      rw [Vec.get_set]
      split_ifs with same
      · rw [same]
        exact arm.trans (by rw [ended]; rfl)
      · exact others j same
    rw [← arms]
    exact eq
  · exact released i (List.mem_range.2 (List.getElem?_eq_some_iff.1 at_).1) d at_
  · rw [← same]
    exact List.mem_map_of_mem (List.mem_of_getElem? at_)

/-- R127: the scan that follows finds nothing where no arm waits, and is not made for a batch without dose records. -/
theorem State.releaseDoses_eq (held : (s.arm k).batch = some b) :
    s.releaseDoses k false = if b.doses = [] then s else (s.releaseDoses k true).scan := by
  unfold releaseDoses
  rw [held]
  dsimp only
  cases b.doses with
  | nil => rfl
  | cons d l => simp

theorem State.scan_of_none {s : State} (none : s.additive.waiting = []) : s.scan = s := by
  rw [scan, none]
  rfl

theorem State.releaseDoses_of_quiet (held : (s.arm k).batch = some b)
    (distinct : (b.doses.map DoseRec.injector).Nodup) (quiet : b.doses = [] ∨ s.additive.waiting = []) :
    s.releaseDoses k false = s.releaseDoses k true := by
  obtain ⟨whole, -⟩ := s.releaseDoses_finalises k held distinct
  rw [releaseDoses_eq s k held]
  split_ifs with undosed
  · unfold releaseDoses
    rw [held]
    dsimp only
    rw [undosed]
    rfl
  · refine scan_of_none ?_
    rw [whole]
    exact quiet.resolve_left undosed

/-! ### The session's part (R4, R17, R19, R106) -/

/-- The permit entries after a charge of `l` litres (R19, log 64). -/
def State.chargedPermits (r : Session) (l : Nat) : Tab PermitEntry :=
  match r.source, r.permit with
  | .local_, some p =>
    (s.setPermit p fun e => { e with usedToday := min 9999999 (e.usedToday + l) }).tables.permits
  | _, _ => s.tables.permits

/-- The session record after a charge. -/
def chargedRecord (r : Session) (l : Nat) : Session :=
  { r with delivered := if r.source = .server then r.delivered + l else r.delivered }

theorem State.chargedPermits_congr {t : State} (tables : t.tables = s.tables) (r : Session) (l : Nat) :
    t.chargedPermits r l = s.chargedPermits r l := by
  unfold chargedPermits
  split
  · exact setPermit_permits_congr tables _ _
  · rw [tables]

theorem State.charge_eq {r : Session} (record : s.session.record = some r) (l : Nat) : s.charge l = { s with
    tables := { s.tables with permits := s.chargedPermits r l }
    session := { s.session with record := some (chargedRecord r l) } } := by
  have standing : s.session = { s.session with record := some r } := by rw [← record]
  unfold charge chargedPermits chargedRecord
  rw [record]
  obtain ⟨number, openTime, card, carrier, permit, vehicle, tag, products, source, quota, delivered, reserved, claims, lines,
    closing, closed, damaged⟩ := r
  cases source with
  | server =>
    cases permit <;>
    · unfold updSession setRecord
      dsimp only
      rw [record]
      rfl
  | local_ =>
    cases permit with
    | none => exact congrArg s.withSession standing
    | some p =>
      refine (setPermit_eq s p _).trans ?_
      exact congrArg (State.withSession { s with tables := { s.tables with
        permits := (s.setPermit p fun e => { e with usedToday := min 9999999 (e.usedToday + l) }).tables.permits } }) standing

theorem State.setLastProduct_eq (i : Nat) (c : Fin 8) (p : Fin 16) : s.setLastProduct i c p =
    { s with tables := { s.tables with vehicles := (s.setLastProduct i c p).tables.vehicles } } := by
  unfold setLastProduct
  dsimp only
  split_ifs <;> rfl

theorem State.setLastProduct_congr {t : State} (vehicles : t.tables.vehicles = s.tables.vehicles) (i : Nat) (c : Fin 8)
    (p : Fin 16) : (t.setLastProduct i c p).tables.vehicles = (s.setLastProduct i c p).tables.vehicles := by
  unfold setLastProduct
  rw [vehicles]
  dsimp only
  split_ifs
  · exact vehicles
  · rfl

/-- The vehicle entries after a batch (R4). -/
def State.markedVehicles (r : Session) (b : Batch) : Tab VehicleEntry :=
  if 0 < b.gross then (s.setLastProduct r.vehicle b.compartment b.product).tables.vehicles else s.tables.vehicles

theorem State.markedVehicles_congr {t : State} (vehicles : t.tables.vehicles = s.tables.vehicles) (r : Session) (b : Batch) :
    t.markedVehicles r b = s.markedVehicles r b := by
  unfold markedVehicles
  split_ifs
  · exact setLastProduct_congr s vehicles _ _ _
  · exact vehicles

theorem State.markProduct_eq {r : Session} (record : s.session.record = some r) (b : Batch) : s.markProduct b =
    { s with tables := { s.tables with vehicles := s.markedVehicles r b } } := by
  unfold markProduct markedVehicles
  rw [record]
  dsimp only
  split_ifs
  · exact s.setLastProduct_eq _ _ _
  · rfl

/-- The session record after the end of the batch `b`, whose line is `l` (R17, R19, R106). -/
def closedRecord (r : Session) (b : Batch) (l : BatchLine) : Session :=
  { r with
    reserved := r.reserved - b.preset, claims := Vec.set r.claims b.compartment none, lines := r.lines ++ [l]
    delivered := if r.source = .server then r.delivered + litres b.delivered else r.delivered }

/-- Steps 2 to 6 of R106. -/
theorem State.recordEnd_eq {r : Session} (record : s.session.record = some r) (b : Batch) (reason : EndReason) :
    let l := batchLine k b reason (Vec.get s.custody.gross k)
    s.recordEnd k b reason = { s with
      tables := { s.tables with
        permits := s.chargedPermits r (litres b.delivered), vehicles := s.markedVehicles r b }
      session := { s.session with record := some (closedRecord r b l) }
      uport := (s.raise (.batchEnded k b.compartment b.code reason l.grossL l.standardL l.flags b.overrun)).uport } := by
  intro l
  let r1 : Session := { r with reserved := r.reserved - b.preset }
  have reserved : s.unreserve b.preset = { s with session := { s.session with record := some r1 } } := by
    unfold unreserve updSession setRecord
    rw [record]
    rfl
  have charged := (s.unreserve b.preset).charge_eq (r := r1) (by rw [reserved]) (deliveredLitres b)
  have permits : (s.unreserve b.preset).chargedPermits r1 (deliveredLitres b) = s.chargedPermits r (litres b.delivered) := by
    unfold chargedPermits
    dsimp only [r1]
    split
    · exact setPermit_permits_congr (by rw [reserved]) _ _
    · rw [reserved]
  rw [permits, reserved] at charged
  have marked : ∀ u : State, u.tables.vehicles = s.tables.vehicles → u.session.record = some (chargedRecord r1
    (deliveredLitres b)) →
      u.markProduct b = { u with tables := { u.tables with vehicles := s.markedVehicles r b } } := by
    intro u vehicles record
    have same : u.markedVehicles (chargedRecord r1 (deliveredLitres b)) b = s.markedVehicles r b :=
      s.markedVehicles_congr vehicles r b
    rw [markProduct_eq u record, same]
  have product : ((s.unreserve b.preset).charge (deliveredLitres b)).markProduct b = { s with
      tables := { s.tables with permits := s.chargedPermits r (litres b.delivered), vehicles := s.markedVehicles r b }
      session := { s.session with record := some (chargedRecord r1 (deliveredLitres b)) } } := by
    rw [reserved, charged]
    exact marked _ rfl rfl
  unfold recordEnd
  dsimp only
  rw [product, raise_eq_raised, raise_eq_raised]
  rfl

theorem State.permit_chargedPermits (canonical : s.canonical = true) {r : Session} {p : Nat} (source : r.source = .local_)
    (permit : r.permit = some p) (undamaged : (tabGet emptyPermit s.tables.permits p).damaged = false) (l : Nat) :
    (tabRead emptyPermit (s.chargedPermits r l) p).usedToday = min 9999999 ((s.permit p).usedToday + l) := by
  have reads := s.permit_setPermit canonical undamaged (fun e => { e with usedToday := min 9999999 (e.usedToday + l) }) p
  rw [if_pos rfl] at reads
  unfold chargedPermits
  rw [source, permit]
  exact congrArg PermitEntry.usedToday reads

theorem State.chargedPermits_of_server {r : Session} (source : r.source = .server) (l : Nat) :
    s.chargedPermits r l = s.tables.permits := by
  unfold chargedPermits
  rw [source]

theorem State.vehicle_markedVehicles (canonical : s.canonical = true) (r : Session) (flowed : 0 < b.gross)
    (undamaged : (tabGet emptyVehicle s.tables.vehicles r.vehicle).damaged = false) :
    (tabRead emptyVehicle (s.markedVehicles r b) r.vehicle).compartments[b.compartment.val]? =
      (s.vehicle r.vehicle).compartments[b.compartment.val]?.map fun c => { c with last := some b.product } := by
  obtain ⟨-, vehicles, -⟩ := s.canonical_iff.1 canonical
  unfold markedVehicles setLastProduct vehicle tabRead
  rw [if_pos flowed]
  dsimp only
  simp only [undamaged, Bool.false_eq_true, if_false, withTables, tabGet_tabSet _ vehicles, if_pos]
  simp

theorem State.markedVehicles_of_none (r : Session) (none : b.gross = 0) : s.markedVehicles r b = s.tables.vehicles :=
  if_neg (by omega)

/-! ### The arm's part (R106) -/

theorem State.arm_dropBatch (j : Fin 4) : (s.dropBatch k).arm j =
    if j = k then { s.arm k with state := .idle, batch := none, stopTimer := none, zeroCloses := 0 } else s.arm j := by
  unfold dropBatch
  have arms (t : State) (v : VolArm) (i : Fin 4) : (t.setVol k v).arm i = t.arm i := rfl
  rw [arm_moveArm, arms, arms, arm_setArm, arm_setArm, if_pos rfl]
  split_ifs <;> rfl

/-- The state before the arm is dropped, from an end whose doses free no other arm (R106, R127). -/
theorem State.batchEnd_ends {r : Session} (held : (s.arm k).batch = some b) (record : s.session.record = some r)
    (released : s.releaseDoses k inReset = s.releaseDoses k true) (distinct : (b.doses.map DoseRec.injector).Nodup)
    (reason : EndReason) :
    let l := batchLine k (s.endedBatch k b) reason (Vec.get s.custody.gross k)
    s.batchEnd k reason inReset = State.dropBatch { s with
      arms := Vec.set s.arms k { s.arm k with batch := some (s.endedBatch k b) }
      additive := { s.additive with injectors := (s.releaseDoses k true).additive.injectors }
      tables := { s.tables with
        permits := s.chargedPermits r (litres b.delivered), vehicles := s.markedVehicles r b }
      session := { s.session with record := some (closedRecord r b l) }
      uport := (s.raise (.batchEnded k b.compartment b.code reason l.grossL l.standardL l.flags b.overrun)).uport } k := by
  intro l
  obtain ⟨whole, -⟩ := s.releaseDoses_finalises k held distinct
  have holds : ((s.releaseDoses k true).arm k).batch = some (s.endedBatch k b) := by
    rw [whole]
    exact congrArg Arm.batch (Vec.get_set_same ..)
  unfold batchEnd
  dsimp only
  rw [released, holds]
  dsimp only
  have records := (s.releaseDoses k true).recordEnd_eq k (r := r) (by rw [whole]; exact record) (s.endedBatch k b) reason
  rw [chargedPermits_congr s (by rw [whole]), markedVehicles_congr s (by rw [whole])] at records
  dsimp only at records
  rw [records, raise_eq_raised, raise_eq_raised]
  generalize s.releaseDoses k true = t at whole
  rw [whole]
  rfl

end

end Sys2Proof.Machine
end

section
/-! PROOFS. The effects of a batch end (R4, R17, R19, R78, R106, R127, R128). -/

namespace Sys2Proof.Machine

theorem released_eq (x : Injector) (k : Fin 4) (i : Nat) : x.released k i = { x with
    claimant := if x.claimant = some k then none else x.claimant
    state := if x.claimant = some k ∧ x.state = .claimedIdle then .free else x.state
    owner := if x.owner = some (k, i) then none else x.owner } := by
  unfold Injector.released
  dsimp only
  split_ifs <;> simp_all

theorem State.dropBatch_stands (s : State) (k : Fin 4) : (s.dropBatch k).session.record = s.session.record ∧
    (s.dropBatch k).tables = s.tables ∧ (s.dropBatch k).additive = s.additive ∧ (s.dropBatch k).uport = s.uport := by
  simp

/-- What the end of a batch leaves and makes, where its doses free no other arm. -/
theorem State.batchEnd_effects (s : State) (k : Fin 4) {b : Batch} {r : Session} {inReset : Bool}
    (held : (s.arm k).batch = some b) (record : s.session.record = some r)
    (released : s.releaseDoses k inReset = s.releaseDoses k true) (distinct : (b.doses.map DoseRec.injector).Nodup)
    (reason : EndReason) :
    let u := s.batchEnd k reason inReset
    let l := batchLine k (s.endedBatch k b) reason (Vec.get s.custody.gross k)
    u.arm k = { s.arm k with state := .idle, batch := none, stopTimer := none, zeroCloses := 0 } ∧
    (∀ j, j ≠ k → u.arm j = s.arm j) ∧ u.session.record = some (closedRecord r b l) ∧
    u.tables = { s.tables with
      permits := s.chargedPermits r (litres b.delivered), vehicles := s.markedVehicles r b } ∧
    u.additive = { s.additive with injectors := (s.releaseDoses k true).additive.injectors } ∧
    u.uport = (s.raise (.batchEnded k b.compartment b.code reason l.grossL l.standardL l.flags b.overrun)).uport := by
  intro u l
  have ends := s.batchEnd_ends k held record released distinct reason
  have named : s.batchEnd k reason inReset = u := rfl
  rw [named] at ends
  clear_value u
  subst named
  dsimp only at ends
  rw [ends]
  refine ⟨?_, fun j other => ?_, ?_, ?_, ?_, ?_⟩
  · rw [arm_dropBatch, if_pos rfl]
    exact (congrArg (fun a : Arm => { a with state := .idle, batch := none, stopTimer := none, zeroCloses := 0 })
      (Vec.get_set_same s.arms k { s.arm k with batch := some (s.endedBatch k b) }) :)
  · rw [arm_dropBatch, if_neg other]
    exact Vec.get_set_ne _ _ _ _ other
  · exact (State.dropBatch_stands _ k).1
  · exact (State.dropBatch_stands _ k).2.1
  · exact (State.dropBatch_stands _ k).2.2.1
  · exact (State.dropBatch_stands _ k).2.2.2

/-- Settles O36: the end of a batch, then the scan of R127. -/
theorem batchEndEffects : Obligations.BatchEndEffects := by
  refine ⟨fun s k b r reason canonical held distinct quiet record => ?_, fun s k b held => s.releaseDoses_eq k held⟩
  intro u l
  have lNamed : batchLine k (s.endedBatch k b) reason (Vec.get s.custody.gross k) = l := rfl
  have uNamed : s.batchEnd k reason false = u := rfl
  have doses : l.doses = (b.doses.mapIdx (s.doseEnded k b.gross)).map lineDose := rfl
  obtain ⟨-, released, untouched⟩ := s.releaseDoses_finalises k held distinct
  obtain ⟨arm, others, session, tables, additive, uport⟩ :=
    s.batchEnd_effects k held record (s.releaseDoses_of_quiet k held distinct quiet) distinct reason
  obtain ⟨-, -, -, -, -, -, meters, custody, -⟩ := s.batchEnd_frame k reason false
  have inj : ∀ j, (s.batchEnd k reason false).inj j = (s.releaseDoses k true).inj j := fun j => by
    rw [State.inj, additive, State.inj]
  rw [uNamed] at arm others session tables additive uport meters custody inj
  rw [lNamed] at session uport
  refine ⟨by rw [arm], by rw [arm], by rw [arm], others, custody, meters, session, fun p source permit undamaged => ?_,
    fun source => ?_, fun flowed undamaged => ?_, fun none => ?_, rfl, rfl, rfl, rfl, rfl, rfl, fun i d at_ => ?_,
    fun i d at_ => ?_, fun j other => ?_, uport⟩
  · rw [State.permit, tables]
    exact s.permit_chargedPermits canonical source permit undamaged _
  · rw [tables]
    exact s.chargedPermits_of_server source _
  · rw [State.vehicle, tables]
    exact s.vehicle_markedVehicles canonical r flowed undamaged
  · rw [tables]
    exact s.markedVehicles_of_none r none
  · rw [doses, List.getElem?_map, List.getElem?_mapIdx, at_]
    rfl
  · rw [inj, released i d at_, released_eq]
  · rw [inj, untouched j other]

end Sys2Proof.Machine
end

section
/-! SUPPORT. An arm that stops or is IDLE through a fault, and the end of STOPPING (R40, R41, R104 to R106). -/

namespace Sys2Proof.Machine

section
variable (s : State) (k : Fin 4)

/-! ### Faults and an arm that no response commands -/

/-- An arm that stops already or is IDLE: no response commands it (R40, R41). -/
def State.pastStop : Prop := (s.arm k).state = .stopping ∨ (s.arm k).state = .idle

theorem State.abortedArm_of_pastStop (past : s.pastStop k) (e : EndReason) : s.abortedArm e k = s.arm k := by
  unfold abortedArm
  rcases past with stops | idle
  · rw [stops]
  · rw [idle]

theorem State.faultedArm_of_pastStop (past : s.pastStop k) : s.faultedArm k = s.arm k := by
  unfold faultedArm
  rcases past with stops | idle
  · rw [stops]
  · rw [idle]

theorem State.arm_respond_of_pastStop (past : s.pastStop k) (c : FaultClass) (j : Option (Fin 4)) (m : ResponseMode) :
    (s.respond c j m).arm k = s.arm k := by
  cases m with
  | report => rfl
  | recipe => rfl
  | stopArm =>
    rw [respond, stopArmResponse_eq]
    dsimp only
    cases j with
    | none => rfl
    | some j =>
      refine (arm_faultArm _ k j).trans ?_
      split_ifs with same
      · rw [← same]
        exact faultedArm_of_pastStop _ k past
      · rfl
  | stopBay =>
    unfold respond stopBayResponse
    dsimp only
    split
    · exact (arm_abort _ _ k).trans (abortedArm_of_pastStop _ k past _)
    · rfl
    · exact arm_congr (by simp) k
    · exact arm_congr (by simp) k
    · exact arm_congr (by simp) k

/-- A fault of no meter input leaves an arm that stops or is IDLE. -/
theorem State.arm_raiseFault_of_pastStop (past : s.pastStop k) {c : FaultClass} (notPulse : c ≠ .meterPulse)
    (notReverse : c ≠ .meterReverse) (j : Option (Fin 4)) (x : Subject) (drill : Bool) (action : Option FailureAction) :
    (s.raiseFault c j x drill action).arm k = s.arm k := by
  unfold raiseFault
  rw [flagMeter_of_other s notPulse notReverse]
  have same : (s.reportFault c j x drill (s.response c action)).arm k = s.arm k := arm_congr (by simp) k
  refine (arm_respond_of_pastStop _ k ?_ c j _).trans same
  unfold pastStop
  rw [same]
  exact past

/-- A fault raised under STOP_BAY in SESSION aborts the session (R41). -/
theorem State.raiseFault_of_session (session : s.bayState = .session) {c : FaultClass} (notPulse : c ≠ .meterPulse)
    (notReverse : c ≠ .meterReverse) {action : Option FailureAction} (mode : s.response c action = .stopBay)
    (j : Option (Fin 4)) (x : Subject) (drill : Bool) :
    s.raiseFault c j x drill action = (s.recorded c j x .stopBay drill).abort .fault .fault := by
  obtain ⟨r, record, -⟩ := s.bayState_eq_session_iff.1 session
  have still : (s.reportFault c j x drill .stopBay).bayState = .session :=
    (bayState_eq_of_open (by simp) (by simp [record])).trans session
  rw [raiseFault, flagMeter_of_other s notPulse notReverse, mode, respond, stopBayResponse_of_session still,
    recorded_stopBay]

/-! ### A batch that ends -/

theorem State.batchEnd_policies (reason : EndReason) (inReset : Bool) :
    (s.batchEnd k reason inReset).tables.policies = s.tables.policies := by
  have records (t : State) (b : Batch) : (t.recordEnd k b reason).tables.policies = t.tables.policies := by
    cases record : t.session.record with
    | none => simp [recordEnd, charge, markProduct, record, unreserve, unclaim, updSession, setRecord]
    | some r => rw [t.recordEnd_eq k record b reason]
  unfold batchEnd
  dsimp only
  split
  · rw [(dropBatch_stands _ k).2.1, records]
    simp
  · rw [(dropBatch_stands _ k).2.1]
    simp

/-- The batch's arm is IDLE after its end. -/
theorem State.arm_batchEnd (reason : EndReason) (inReset : Bool) :
    ((s.batchEnd k reason inReset).arm k).state = .idle ∧ ((s.batchEnd k reason inReset).arm k).batch = none ∧
      ((s.batchEnd k reason inReset).arm k).stopTimer = none := by
  unfold batchEnd
  dsimp only
  split
  · rw [arm_dropBatch, if_pos rfl]
    exact ⟨rfl, rfl, rfl⟩
  · rw [arm_dropBatch, if_pos rfl]
    exact ⟨rfl, rfl, rfl⟩

theorem State.scanArm_of_other {s : State} {j : Fin 4} (other : (s.arm j).state ≠ .waitInjector) : s.scanArm j = s := by
  unfold scanArm
  split
  · contradiction
  · rfl

/-- A scan finds nothing where no arm waits (R118). -/
theorem State.scan_of_still {s : State} (still : ∀ j, (s.arm j).state ≠ .waitInjector) : s.scan = s := by
  unfold scan
  generalize s.additive.waiting = l
  induction l with
  | nil => rfl
  | cons j l ih => rw [List.foldl_cons, scanArm_of_other (still j), ih]

theorem State.releaseDoses_of_still (still : ∀ j, (s.arm j).state ≠ .waitInjector) (inReset : Bool) :
    s.releaseDoses k inReset = s.releaseDoses k true := by
  have states := s.releaseDoses_arm_state k
  unfold releaseDoses at states ⊢
  split at states
  · simp only [true_or, if_true] at states ⊢
    split_ifs
    · rfl
    · exact scan_of_still fun j => by rw [states j]; exact still j
  · rfl

/-- The end of a batch where no arm waits leaves the other arms' states and the close reason. -/
theorem State.batchEnd_of_still (still : ∀ j, (s.arm j).state ≠ .waitInjector) (reason : EndReason) (inReset : Bool) :
    (s.batchEnd k reason inReset).closeReason = s.closeReason ∧
      ∀ j, ((s.batchEnd k reason inReset).arm j).state = if j = k then .idle else (s.arm j).state := by
  have records (t : State) (b : Batch) : (t.recordEnd k b reason).closeReason = t.closeReason := by
    cases record : t.session.record with
    | none =>
      simp [closeReason, recordEnd, charge, markProduct, record, unreserve, unclaim, updSession, setRecord]
    | some r =>
      rw [t.recordEnd_eq k record b reason]
      simp [closeReason, closedRecord, record]
  have drops (t : State) : (t.dropBatch k).closeReason = t.closeReason := by
    rw [closeReason, (t.dropBatch_stands k).1, closeReason]
  have releases : (s.releaseDoses k true).closeReason = s.closeReason := by
    unfold releaseDoses
    split
    · rw [if_pos (.inl rfl)]
      exact foldl_frame (p := closeReason) (fun t i => by simp [closeReason]) _ s
    · rfl
  have same : s.batchEnd k reason inReset = s.batchEnd k reason true := by
    unfold batchEnd
    rw [s.releaseDoses_of_still k still]
  refine ⟨?_, fun j => same ▸ s.batchEnd_arm_state k j reason⟩
  rw [same]
  unfold batchEnd
  dsimp only
  split
  · rw [drops, records, releases]
  · rw [drops, releases]

/-! ### The end of STOPPING -/

section
variable (stops : (s.arm k).state = .stopping)
include stops

/-- The overrun observed leaves the stopping arm but for the batch's overrun and the history. -/
theorem State.arm_observeOverrun_of_stopping : (s.observeOverrun k).arm k = { s.arm k with
    batch := ((s.observeOverrun k).arm k).batch, history := ((s.observeOverrun k).arm k).history } := by
  have fault (t : State) (a : Arm) (eq : t.arm k = a) (stopping : a.state = .stopping) :
      (t.armFault .overrun k).arm k = a := by
    rw [armFault, t.arm_raiseFault_of_pastStop k (.inl (by rw [eq, stopping])) (by decide) (by decide), eq]
  have upd (f : Batch → Batch) : (s.updBatch k f).arm k = { s.arm k with batch := (s.arm k).batch.map f } := by
    rw [arm_updBatch, if_pos rfl]
  unfold observeOverrun
  split
  · dsimp only
    split_ifs
    · rw [fault _ _ ((arm_setArm _ _ _ _).trans (if_pos rfl)) (by rw [upd]; exact stops), upd]
    · rw [fault _ _ (upd _) stops]
    · rw [arm_setArm, if_pos rfl, upd]
    · rw [upd]
  · rfl

end

theorem State.arm_observeOverrun_of_idle {j : Fin 4} (idle : (s.arm j).state = .idle) (other : j ≠ k) :
    (s.observeOverrun k).arm j = s.arm j := by
  have fault (t : State) (eq : t.arm j = s.arm j) : (t.armFault .overrun k).arm j = s.arm j := by
    rw [armFault, t.arm_raiseFault_of_pastStop j (.inr (by rw [eq, idle])) (by decide) (by decide), eq]
  have upd (f : Batch → Batch) : (s.updBatch k f).arm j = s.arm j := by rw [arm_updBatch, if_neg other]
  unfold observeOverrun
  split
  · dsimp only
    split_ifs
    · exact fault _ (((arm_setArm _ _ _ _).trans (if_neg other)).trans (upd _))
    · exact fault _ (upd _)
    · exact ((arm_setArm _ _ _ _).trans (if_neg other)).trans (upd _)
    · exact upd _
  · rfl

theorem State.observeOverrun_tables : (s.observeOverrun k).tables = s.tables := by
  unfold observeOverrun
  split
  · dsimp only
    split_ifs
    · exact raiseFault_tables _ _ _ _ _
    · exact raiseFault_tables _ _ _ _ _
    · rfl
    · rfl
  · rfl

theorem State.endStopped_policies : (s.endStopped k).tables.policies = s.tables.policies := by
  unfold endStopped
  dsimp only
  rw [(closeIfDone_frame _).2.2.2.1, batchEnd_policies, observeOverrun_tables]
  rfl

/-- The arm after the end of STOPPING. -/
theorem State.arm_endStopped : ((s.endStopped k).arm k).state = .idle ∧ ((s.endStopped k).arm k).batch = none ∧
    ((s.endStopped k).arm k).stopTimer = none := by
  unfold endStopped
  dsimp only
  rw [arm_congr (closeIfDone_frame _).2.2.2.2.2.2.2.2.1]
  exact arm_batchEnd _ _ _ _

end

end Sys2Proof.Machine
end

section
/-! PROOFS. The stop timers (R99, R104 to R106). -/

namespace Sys2Proof.Machine

section
variable (s : State) (k : Fin 4)

/-- A session that closes goes on closing through a fault of no meter input (R41). -/
theorem State.closeReason_raiseFault (closing : s.closeReason.isSome = true) {c : FaultClass} (notPulse : c ≠ .meterPulse)
    (notReverse : c ≠ .meterReverse) (j : Option (Fin 4)) (x : Subject) (drill : Bool) (action : Option FailureAction) :
    (s.raiseFault c j x drill action).closeReason.isSome = true := by
  unfold raiseFault
  rw [flagMeter_of_other s notPulse notReverse]
  have reported : (s.reportFault c j x drill (s.response c action)).closeReason = s.closeReason := by
    simp [closeReason]
  rw [← reported] at closing
  dsimp only
  generalize s.reportFault c j x drill (s.response c action) = t at closing
  cases s.response c action with
  | report => exact closing
  | recipe => exact closing
  | stopArm =>
    have same : (t.respond c j .stopArm).closeReason = t.closeReason := by
      rw [respond, stopArmResponse_eq]
      dsimp only
      cases j with
      | none => rfl
      | some j =>
        have stops (u : State) : (u.enterStopping j .fault).closeReason = u.closeReason := by
          rw [enterStopping_eq, closeReason, (moveArm_frame _ _ _).2.2.2.2.2.1]
          rfl
        dsimp only
        unfold faultArm
        split
        · exact stops _
        · exact stops _
        · exact stops _
        · exact stops _
        all_goals rfl
    rw [same]
    exact closing
  | stopBay =>
    obtain ⟨reason, going⟩ := Option.isSome_iff_exists.1 closing
    obtain ⟨r, record, -⟩ := Option.bind_eq_some_iff.1 going
    rw [respond, stopBayResponse_of_closing (bayState_of_closeReason going)]
    simp [closeReason, updSession, setRecord, setFault, withSafety, record]

theorem State.closeReason_observeOverrun (closing : s.closeReason.isSome = true) :
    (s.observeOverrun k).closeReason.isSome = true := by
  have fault (t : State) (same : t.closeReason = s.closeReason) : (t.armFault .overrun k).closeReason.isSome = true :=
    t.closeReason_raiseFault (by rw [same]; exact closing) (by decide) (by decide) _ _ _ _
  unfold observeOverrun
  split
  · dsimp only
    split_ifs
    · exact fault _ rfl
    · exact fault _ rfl
    · exact closing
    · exact closing
  · exact closing

theorem State.response_congr_policies {t : State} (policies : t.tables.policies = s.tables.policies) (c : FaultClass)
    (action : Option FailureAction) : t.response c action = s.response c action := by
  simp only [response, policy, policies]

/-- The last arm of a closing session (R23, R104). -/
theorem State.endStopped_of_last (closing : s.closeReason.isSome = true) (stops : (s.arm k).state = .stopping)
    (idle : ∀ j, j ≠ k → (s.arm j).state = .idle) :
    (s.endStopped k).session.record = none ∧ ∀ j, ((s.endStopped k).arm j).state = .idle := by
  unfold endStopped
  dsimp only
  generalize hz : s.setArm k { s.arm k with stopTimer := none } = z
  have zStops : (z.arm k).state = .stopping := by rw [← hz, arm_setArm, if_pos rfl]; exact stops
  have zIdle : ∀ j, j ≠ k → (z.arm j).state = .idle := fun j other => by
    rw [← hz, arm_setArm, if_neg other]
    exact idle j other
  have goes := z.closeReason_observeOverrun k (by rw [← hz]; exact closing)
  have stopping : ((z.observeOverrun k).arm k).state = .stopping := by
    rw [z.arm_observeOverrun_of_stopping k zStops]
    exact zStops
  have others : ∀ j, j ≠ k → ((z.observeOverrun k).arm j).state = .idle := fun j other => by
    rw [z.arm_observeOverrun_of_idle k (zIdle j other) other]
    exact zIdle j other
  generalize z.observeOverrun k = t at goes stopping others
  have still : ∀ j, (t.arm j).state ≠ .waitInjector := fun j => by
    by_cases same : j = k
    · rw [same, stopping]
      decide
    · rw [others j same]
      decide
  obtain ⟨kept, states⟩ := t.batchEnd_of_still k still (t.endReasonOf k) false
  rw [← kept] at goes
  have allStates : ∀ j, ((t.batchEnd k (t.endReasonOf k) false).arm j).state = .idle := fun j => by
    rw [states]
    split_ifs with same
    · rfl
    · exact others j same
  generalize t.batchEnd k (t.endReasonOf k) false = u at goes allStates
  obtain ⟨reason, going⟩ := Option.isSome_iff_exists.1 goes
  obtain ⟨r, record, -⟩ := Option.bind_eq_some_iff.1 going
  rw [closeIfDone_of_closing going, if_pos (u.allIdle_iff.2 allStates)]
  refine ⟨?_, fun j => ?_⟩
  · rw [u.closeSession_eq record]
  · rw [arm_congr (u.closeSession_frame reason).2.2.2.2.2.2.2.2.1]
    exact allStates j

/-- The overrun of a batch that ends with FAULT joins no history (R105). -/
theorem State.observeOverrun_of_fault {b : Batch} (held : (s.arm k).batch = some b)
    (reason : b.endReason = some .fault) : s.observeOverrun k =
      if (s.armEntry k).maxOverrun * 1000 < b.observed then
        (s.updBatch k fun x => { x with overrun := some b.observed }).armFault .overrun k
      else s.updBatch k fun x => { x with overrun := some b.observed } := by
  have incomplete : ¬(b.endReason = some .complete ∧ b.basis = s.bay.basis) := fun h => by
    rw [reason] at h
    exact absurd h.1 (by decide)
  unfold observeOverrun
  rw [held]
  dsimp only
  rw [if_neg incomplete]

/-- R104, R105: the STOPPING timeout of a batch, up to VALVE. -/
theorem State.endStopped_of_timeout {b : Batch} (stops : (s.arm k).state = .stopping) (held : (s.arm k).batch = some b) :
    let o := b.delivered - b.atStopping.getD b.delivered
    let y := s.setArm k { s.arm k with
      batch := some { b with endReason := some .fault, overrun := some o }, stopTimer := none }
    (s.updBatch k fun b => { b with endReason := some .fault }).endStopped k =
      ((if (s.armEntry k).maxOverrun * 1000 < o then y.armFault .overrun k else y).batchEnd k .fault false).closeIfDone := by
  intro o y
  have yNamed : s.setArm k { s.arm k with
    batch := some { b with endReason := some .fault, overrun := some o }, stopTimer := none } = y := rfl
  have yArm : y.arm k = { s.arm k with
      batch := some { b with endReason := some .fault, overrun := some o }, stopTimer := none } := by
    rw [← yNamed, arm_setArm, if_pos rfl]
  have reason (t : State) (same : t.arm k = y.arm k) : t.endReasonOf k = .fault := by
    rw [endReasonOf, same, yArm]
    rfl
  have faultArm : (y.armFault .overrun k).arm k = y.arm k :=
    y.arm_raiseFault_of_pastStop k (.inl (by rw [yArm]; exact stops)) (by decide) (by decide) _ _ _ _
  have stopped : (s.updBatch k fun b => { b with endReason := some .fault }).setArm k
      { (s.updBatch k fun b => { b with endReason := some .fault }).arm k with stopTimer := none } =
      s.setArm k { s.arm k with batch := some { b with endReason := some .fault }, stopTimer := none } := by
    rw [arm_updBatch, if_pos rfl, updBatch, setArm_setArm, held]
    rfl
  have observed : (s.setArm k { s.arm k with
      batch := some { b with endReason := some .fault }, stopTimer := none }).observeOverrun k =
      if (s.armEntry k).maxOverrun * 1000 < o then y.armFault .overrun k else y := by
    generalize hz : s.setArm k { s.arm k with
      batch := some { b with endReason := some .fault }, stopTimer := none } = z
    have arm : z.arm k = { s.arm k with batch := some { b with endReason := some .fault }, stopTimer := none } := by
      rw [← hz, arm_setArm, if_pos rfl]
    have marked : z.updBatch k (fun x => { x with overrun := some o }) = y := by
      rw [updBatch, arm, ← hz, setArm_setArm]
      rfl
    have entry : z.armEntry k = s.armEntry k := by rw [← hz]; rfl
    rw [z.observeOverrun_of_fault k (b := { b with endReason := some .fault }) (by rw [arm]) rfl, entry]
    exact if_congr Iff.rfl (congrArg (fun t : State => t.armFault .overrun k) marked) marked
  unfold endStopped
  dsimp only
  rw [stopped, observed]
  split_ifs
  · rw [reason _ faultArm]
  · rw [reason y rfl]

end

/-- Settles O35: VALVE follows the end of the stop phase. -/
theorem stopTimers : Obligations.StopTimers := by
  intro s k live mode
  have runSuspended : exec (.suspendStopTimeout k) s = .next
      (if (s.arm k).state = .suspended ∧ (s.arm k).stopTimer.isSome then
        (s.setArm k { s.arm k with stopTimer := none }).armFault .valve k else s) := by
    change execSuspendStopTimeout k s = _
    rw [execSuspendStopTimeout, whenPowered_of_live s live]
  have runStopping : exec (.stoppingTimeout k) s = .next
      (if (s.arm k).state = .stopping ∧ (s.arm k).stopTimer.isSome then
        ((s.updBatch k fun b => { b with endReason := some .fault }).endStopped k).armFault .valve k else s) := by
    change execStoppingTimeout k s = _
    rw [execStoppingTimeout, whenPowered_of_live s live]
  have response : s.response .valve none = .stopBay := by
    unfold State.response
    rw [mode]
  -- the record of VALVE, from a state whose own record of it stands
  have valve (t : State) (policies : t.tables.policies = s.tables.policies) (stands : t.fault .valve = s.fault .valve) :
      ((t.armFault .valve k).fault .valve).latch = some .stopBay ∧
      ((t.armFault .valve k).fault .valve).count = min 255 ((s.fault .valve).count + 1) ∧
      ((t.armFault .valve k).fault .valve).armsNamed = joinArm (s.fault .valve).armsNamed k := by
    rw [State.armFault, State.fault_raiseFault, if_pos rfl, s.response_congr_policies policies, response, State.struck_eq,
      stands]
    exact ⟨rfl, rfl, rfl⟩
  obtain ⟨-, -, ended⟩ := (s.updBatch k fun b => { b with endReason := some .fault }).endStopped_leaves k
  have policies : ((s.updBatch k fun b => { b with endReason := some .fault }).endStopped k).tables.policies =
      s.tables.policies := State.endStopped_policies _ k
  have valved := valve _ policies (ended .valve (by decide))
  refine ⟨fun other => ?_, fun other => ?_, fun suspended timed session => ?_, fun stopping timed _ => ?_,
    fun b stopping timed held => ⟨fun within => ?_, fun above _ => ?_⟩, fun r c stopping timed record closing idle => ?_⟩
  · rw [runSuspended, if_neg other]
  · rw [runStopping, if_neg other]
  · rw [if_pos ⟨suspended, timed⟩] at runSuspended
    obtain ⟨latch, count, named⟩ := valve (s.setArm k { s.arm k with stopTimer := none }) rfl rfl
    have raised := State.raiseFault_of_session (s.setArm k { s.arm k with stopTimer := none })
      ((State.bayState_congr (s := s) rfl rfl rfl).trans session) (c := .valve) (action := none) (by decide)
        (by decide) response
      (some k) .none false
    obtain ⟨r, record, -⟩ := s.bayState_eq_session_iff.1 session
    generalize hx : (s.setArm k { s.arm k with stopTimer := none }).recorded .valve (some k) .none .stopBay false = x
      at raised
    have xArm : x.arm k = { s.arm k with stopTimer := none } := by
      rw [← hx]
      exact (s.arm_setArm k k _).trans (if_pos rfl)
    have runs : x.noneRunning = false := by
      refine Bool.eq_false_iff.2 fun none => ?_
      have still := x.noneRunning_iff.1 none k
      rw [xArm] at still
      simp [suspended, ArmState.running] at still
    have isOpen : x.session.record.isSome = true := by
      rw [← hx]
      exact Option.isSome_iff_exists.2 ⟨r, record⟩
    refine ⟨_, runSuspended, ?_, ?_, latch, count, named, fun d other => ?_, ?_, ?_, ?_⟩
    · rw [State.armFault, raised, State.arm_abort, State.abortedArm, xArm]
      simp only [suspended]
      rw [State.stopped, State.stopped, xArm, ← hx]
      rfl
    · rw [State.armFault, raised, State.abort_of_running isOpen runs]
      exact x.closeReason_aborting isOpen .fault .fault
    · rw [State.armFault, State.fault_raiseFault, if_neg other]
      rfl
    · exact State.raiseFault_tables _ _ _ _ _
    · exact (State.armFault_frame _ _ _).2.2.2.2.2.1
    · exact (State.armFault_frame _ _ _).2.2.2.2.2.2.1
  · rw [if_pos ⟨stopping, timed⟩] at runStopping
    obtain ⟨latch, count, named⟩ := valved
    obtain ⟨idle, batch, timer⟩ := (s.updBatch k fun b => { b with endReason := some .fault }).arm_endStopped k
    have meters := ((s.updBatch k fun b => { b with endReason := some .fault }).endStopped_frame k).2.2.2.2.2.1
    generalize (s.updBatch k fun b => { b with endReason := some .fault }).endStopped k = t at *
    have arm : (t.armFault .valve k).arm k = t.arm k :=
      t.arm_raiseFault_of_pastStop k (.inr idle) (by decide) (by decide) _ _ _ _
    refine ⟨_, runStopping, by rw [arm, idle], by rw [arm, batch], by rw [arm, timer], latch, count, named, ?_⟩
    exact (State.armFault_frame _ _ _).2.2.2.2.2.1.trans meters
  · rw [runStopping, if_pos ⟨stopping, timed⟩, s.endStopped_of_timeout k stopping held, if_neg (by omega)]
    rfl
  · rw [runStopping, if_pos ⟨stopping, timed⟩, s.endStopped_of_timeout k stopping held, if_pos above]
    rfl
  · rw [if_pos ⟨stopping, timed⟩] at runStopping
    obtain ⟨latch, count, -⟩ := valved
    have last := (s.updBatch k fun b => { b with endReason := some .fault }).endStopped_of_last k
      (by simp [State.closeReason, State.updBatch, State.setArm, record, closing])
      (by rw [State.updBatch_arm_state]; exact stopping) fun j other => by
        rw [State.updBatch_arm_state]
        exact idle j other
    generalize (s.updBatch k fun b => { b with endReason := some .fault }).endStopped k = t at *
    obtain ⟨closed, allIdle⟩ := last
    have tResponse : t.response .valve none = .stopBay := (s.response_congr_policies policies _ _).trans response
    have raised := State.raiseFault_of_idle closed (t.allIdle_iff.2 allIdle) .valve (some k) .none false none
    rw [tResponse] at raised
    dsimp only at raised
    rw [if_pos rfl] at raised
    have none : (t.armFault .valve k).session.record = none := by
      rw [State.armFault, raised]
      refine Eq.trans ?_ closed
      unfold State.unseated
      split <;> rfl
    refine ⟨_, runStopping, fun j => ?_, none, State.bayState_of_latched none latch, count⟩
    rw [State.armFault, t.arm_raiseFault_of_pastStop j (.inr (allIdle j)) (by decide) (by decide)]
    exact allIdle j

end Sys2Proof.Machine
end

section
/-! SUPPORT. The demands of a window whose DOSE is only reported, and the window up to its examination (R39, R51, R120). -/

namespace Sys2Proof.Machine

/-- From state `s` to state `u` doses of arm `k` have made demands, DOSE under REPORT (R120, R126). -/
structure State.Owes (s u : State) (k : Fin 4) : Prop where
  eq : u = { s with
    arms := Vec.set s.arms k { s.arm k with batch := (u.arm k).batch }
    additive := { s.additive with injectors := u.additive.injectors }
    safety := { s.safety with faults := u.safety.faults }, uport := u.uport }
  batch : ∀ b, (s.arm k).batch = some b → ∃ ds df,
    (u.arm k).batch = some { b with doses := ds, flags := { b.flags with doseFault := df } } ∧
    ds.map DoseRec.undemanded = b.doses.map DoseRec.undemanded
  stopping : (s.arm k).state = .stopping → u = { s with arms := u.arms }

/-- DOSE is only reported for the doses of the arm's batch. -/
def State.dosesReport (s : State) (k : Fin 4) : Prop :=
  ∀ b, (s.arm k).batch = some b → ∀ d ∈ b.doses, s.response .dose (some d.action) = .report

section
variable {s t u : State} {k : Fin 4}

theorem State.Owes.arm (h : s.Owes u k) : u.arm k = { s.arm k with batch := (u.arm k).batch } :=
  (congrArg (fun x : State => x.arm k) h.eq).trans (Vec.get_set_same ..)

theorem State.Owes.refl (s : State) (k : Fin 4) : s.Owes s k where
  eq := by
    have same : Vec.set s.arms k { s.arm k with batch := (s.arm k).batch } = s.arms := Vec.set_get_self _ _
    rw [same]
  batch b held := ⟨b.doses, b.flags.doseFault, held, rfl⟩
  stopping _ := rfl

theorem State.Owes.trans (h : s.Owes t k) (g : t.Owes u k) : s.Owes u k where
  eq := by
    have later := g.eq
    have arms : Vec.set t.arms k { t.arm k with batch := (u.arm k).batch } =
        Vec.set s.arms k { s.arm k with batch := (u.arm k).batch } := by
      rw [h.arm, congrArg State.arms h.eq, Vec.set_set]
    rw [arms] at later
    refine later.trans ?_
    rw [h.eq]
  batch b held := by
    obtain ⟨ds, df, held, doses⟩ := h.batch b held
    obtain ⟨ds', df', held, doses'⟩ := g.batch _ held
    exact ⟨ds', df', held, doses'.trans doses⟩
  stopping state := by
    have first := h.stopping state
    have second := g.stopping (by rw [h.arm]; exact state)
    rw [second, first]

theorem action_of_undemanded {l m : List DoseRec}
    (same : l.map DoseRec.undemanded = m.map DoseRec.undemanded) {d : DoseRec} (listed : d ∈ l) :
    ∃ e ∈ m, e.action = d.action := by
  have mapped : DoseRec.undemanded d ∈ m.map DoseRec.undemanded := same ▸ List.mem_map_of_mem listed
  obtain ⟨e, listed, eq⟩ := List.mem_map.1 mapped
  exact ⟨e, listed, (congrArg DoseRec.action eq :)⟩

theorem State.Owes.dosesReport (h : s.Owes u k) (held : ∃ b, (s.arm k).batch = some b) (reports : s.dosesReport k) :
    u.dosesReport k := by
  obtain ⟨b, held⟩ := held
  obtain ⟨ds, df, kept, doses⟩ := h.batch b held
  intro x is d listed
  obtain rfl : { b with doses := ds, flags := { b.flags with doseFault := df } } = x := Option.some.inj (kept.symm.trans is)
  obtain ⟨e, listed, action⟩ := action_of_undemanded doses listed
  rw [← action, response_congr s (congrArg State.tables h.eq :)]
  exact reports b held e listed

/-- A write of one dose record that leaves what a demand leaves. -/
theorem State.updDose_owes (s : State) (k : Fin 4) (i : Nat) {f : DoseRec → DoseRec}
    (same : ∀ d, DoseRec.undemanded (f d) = DoseRec.undemanded d) : s.Owes (s.updDose k i f) k := by
  have arm : (s.updDose k i f).arm k =
      { s.arm k with batch := (s.arm k).batch.map fun b => { b with doses := b.doses.modify i f } } := by
    rw [updDose, arm_updBatch, if_pos rfl]
  refine ⟨?_, fun b held => ⟨b.doses.modify i f, b.flags.doseFault, by rw [arm, held]; rfl, ?_⟩, fun _ => rfl⟩
  · rw [arm]
    rfl
  · refine List.ext_getElem? fun m => ?_
    simp only [List.getElem?_map, List.getElem?_modify]
    cases b.doses[m]? with
    | none => rfl
    | some d => by_cases here : i = m <;> simp [here, same]

theorem State.openInjection_owes (s : State) (k : Fin 4) (i : Nat) (d : DoseRec) (moving : (s.arm k).state ≠ .stopping) :
    s.Owes (s.openInjection k i d) k := by
  obtain ⟨eq, batch, -⟩ := Owes.refl s k
  refine ⟨?_, batch, fun stopping => absurd stopping moving⟩
  have same : Vec.set s.arms k { s.arm k with batch := ((s.openInjection k i d).arm k).batch } = s.arms :=
    Vec.set_get_self _ _
  rw [same]
  rfl

theorem State.raiseDose_owes (s : State) (k : Fin 4) (d : DoseRec) (report : s.response .dose (some d.action) = .report)
    (moving : (s.arm k).state ≠ .stopping) : s.Owes (s.raiseDose k d) k := by
  have raises := raiseFault_of_report (s.updBatch k fun b => { b with flags := { b.flags with doseFault := true } })
    (c := .dose) (by decide) (by decide) (action := some d.action) report (some k) (.injector d.injector) false
  have arm : (s.raiseDose k d).arm k =
      { s.arm k with batch := (s.arm k).batch.map fun b => { b with flags := { b.flags with doseFault := true } } } := by
    rw [raiseDose, raises]
    exact (s.arm_updBatch k k _).trans (if_pos rfl)
  refine ⟨?_, fun b held => ⟨b.doses, true, by rw [arm, held]; rfl, rfl⟩, fun stopping => absurd stopping moving⟩
  rw [arm, raiseDose, raises]
  rfl

theorem State.demand_owes (s : State) (k : Fin 4) (i : Nat) (reports : s.dosesReport k) : s.Owes (s.demand k i) k := by
  have state (f : DoseRec → DoseRec) : ((s.updDose k i f).arm k).state = (s.arm k).state := updBatch_arm_state s k k _
  cases at_ : s.dose k i with
  | none =>
    unfold demand
    rw [at_]
    exact .refl s k
  | some d =>
    obtain ⟨b, held, listed⟩ := Option.bind_eq_some_iff.1 at_
    have report := reports b held d (List.mem_of_getElem? listed)
    have due := s.updDose_owes k i (f := fun x => { x with nextDue := x.nextDue + x.interval }) fun _ => rfl
    have owed := due.trans (updDose_owes _ k i (f := fun x => { x with owed := x.owed + 1 }) fun _ => rfl)
    unfold demand
    rw [at_]
    dsimp only
    split_ifs with stopping few
    · exact owed
    · exact due
    · split
      · exact due.trans (openInjection_owes _ k i d (by rw [state]; exact stopping))
      · exact owed
      · exact due
    · split
      · exact due.trans (openInjection_owes _ k i d (by rw [state]; exact stopping))
      · exact due
      · exact due
    · have full := due.trans (updDose_owes _ k i (f := fun x => { x with overflow := true }) fun _ => rfl)
      split
      · exact due.trans (openInjection_owes _ k i d (by rw [state]; exact stopping))
      · exact full.trans (raiseDose_owes _ k d report (by rw [full.arm]; exact stopping))
      · exact due

/-- Repeated demands. -/
theorem State.Owes.foldl {α : Type} {f : State → α → State}
    (each : ∀ (s : State) a, s.dosesReport k → s.Owes (f s a) k) (l : List α) (s : State) (reports : s.dosesReport k)
    (held : ∃ b, (s.arm k).batch = some b) : s.Owes (l.foldl f s) k := by
  induction l generalizing s with
  | nil => exact .refl s k
  | cons a l ih =>
    have first := each s a reports
    obtain ⟨b, held'⟩ := held
    obtain ⟨ds, df, kept, -⟩ := first.batch b held'
    exact first.trans (ih (f s a) (first.dosesReport ⟨b, held'⟩ reports) ⟨_, kept⟩)

theorem State.demands_owes (s : State) (k : Fin 4) (reports : s.dosesReport k) : s.Owes (s.demands k) k := by
  unfold demands
  split
  · rename_i b held
    refine Owes.foldl (fun t i reports => ?_) _ s reports ⟨b, held⟩
    unfold doseDemands
    split
    · rename_i d at_
      obtain ⟨c, held, -⟩ := Option.bind_eq_some_iff.1 at_
      exact Owes.foldl (fun v _ reports => v.demand_owes k i reports) _ t reports ⟨c, held⟩
    · exact .refl t k
  · exact .refl s k

/-! ### The window up to its examination -/

/-- The batch of a running arm after a window's credit. -/
def State.dosed (s : State) (k : Fin 4) (b : Batch) (ds : List DoseRec) (df : Bool) : Batch :=
  { s.windowed k b with doses := ds, flags := { (s.windowed k b).flags with doseFault := df } }

/-- The state `t` before the examination of a window on a running arm, its faults under REPORT. -/
structure State.Credited (s t : State) (k : Fin 4) (b : Batch) (ds : List DoseRec) (df : Bool) : Prop where
  eq : t = { s with
    meters := t.meters, volumes := t.volumes
    custody := { s.custody with gross := t.custody.gross, standard := t.custody.standard }
    arms := Vec.set s.arms k { s.arm k with batch := some (s.dosed k b ds df) }
    additive := { s.additive with injectors := t.additive.injectors }
    safety := { s.safety with faults := t.safety.faults }, uport := t.uport }
  gross : Vec.get t.custody.gross k = (Vec.get s.custody.gross k).credit ((s.windowed k b).gross - b.gross)
  lastN : (t.meter k).lastN = (s.meter k).n
  doses : ds.map DoseRec.undemanded = b.doses.map DoseRec.undemanded
  marked : b.flags.doseFault = true → df = true
  untouched : noneDue b (s.windowed k b).gross → ds = b.doses ∧ df = b.flags.doseFault
  still : noneDue b (s.windowed k b).gross ∨ (∀ d ∈ b.doses, 0 < d.interval) ∧ ds = b.doses →
    t.additive = s.additive ∧ t.fault .dose = s.fault .dose
  faults : ∀ c, c ≠ .dose → t.fault c = s.windowFault k (s.meter k).unauth c
  stopping : (s.arm k).state = .stopping →
    t.additive = s.additive ∧ t.fault .dose = s.fault .dose ∧ t.uport = (s.windowReport k (s.meter k).unauth).uport

end

end Sys2Proof.Machine
end

section
/-! SUPPORT. The window of a running arm up to its examination, its faults under REPORT (R39, R51, R70 to R76, R120). -/

namespace Sys2Proof.Machine

section
variable (s : State) (k : Fin 4) {b : Batch}

theorem State.billedBatch_markedBy (b : Batch) : s.billedBatch k (markedBy (s.pulses k) b) = s.windowed k b := rfl

/-- The state that a reported window's demands start from. -/
theorem State.beforeDemands_eq (reported : s.reported k (s.meter k).unauth) (runs : (s.arm k).state.running = true)
    (held : (s.arm k).batch = some b) : s.beforeDemands k (markedBy (s.pulses k) b) = { s with
      meters := Vec.set s.meters k (s.pulsedMeter k)
      volumes := (s.beforeDemands k (markedBy (s.pulses k) b)).volumes
      custody := { s.custody with
        gross := (s.beforeDemands k (markedBy (s.pulses k) b)).custody.gross
        standard := (s.beforeDemands k (markedBy (s.pulses k) b)).custody.standard }
      arms := Vec.set s.arms k { s.arm k with batch := some (s.windowed k b) }
      safety := { s.safety with faults := (s.pulsed k).safety.faults }, uport := (s.pulseReport k).uport } := by
  have pulsed := s.pulsed_of_report k reported.1
  have marked : s.markedArm k = { s.arm k with batch := some (markedBy (s.pulses k) b) } := by
    rw [markedArm, if_pos runs, held]
    rfl
  rw [marked] at pulsed
  unfold beforeDemands
  dsimp only
  rw [billedBatch_markedBy]
  generalize s.pulsed k = p at pulsed
  have arm : p.arm k = { s.arm k with batch := some (markedBy (s.pulses k) b) } := by
    rw [pulsed]
    exact Vec.get_set_same ..
  have arms : Vec.set p.arms k { p.arm k with batch := some (s.windowed k b) } =
      Vec.set s.arms k { s.arm k with batch := some (s.windowed k b) } := by
    rw [arm, pulsed]
    exact Vec.set_set ..
  rw [arms, pulsed]

/-- The demands of a window that leaves its doses as they stood were none (R119). -/
theorem noneDue_of_kept {s : State} {k : Fin 4} (runs : (s.arm k).state.running = true) (held : (s.arm k).batch = some b)
    (kept : ((s.demands k).arm k).batch.map Batch.doses = some b.doses) (intervals : ∀ d ∈ b.doses, 0 < d.interval) :
    ∀ d ∈ b.doses, d.claimLost = true ∨ b.gross < d.nextDue := by
  intro d listed
  obtain ⟨-, x, held', -, moves⟩ := s.demands_demanded k runs held
  rw [held'] at kept
  have same : x.doses = b.doses := Option.some.inj kept
  obtain ⟨i, inside, rfl⟩ := List.getElem_of_mem listed
  have at_ : b.doses[i]? = some b.doses[i] := List.getElem?_eq_getElem inside
  obtain ⟨y, there, o, v, moved⟩ := moves i _ at_
  rw [same, at_] at there
  obtain rfl := Option.some.inj there
  have due : b.doses[i].nextDue = b.doses[i].nextDue + b.doses[i].crossings b.gross * b.doses[i].interval :=
    congrArg DoseRec.nextDue moved
  refine (DoseRec.crossings_eq_zero _ _).1 ?_
  have zero : b.doses[i].crossings b.gross * b.doses[i].interval = 0 := by omega
  exact (Nat.mul_eq_zero.1 zero).resolve_right (by have := intervals _ listed; omega)

/-- The credit of a reported window on a running arm. -/
theorem State.afterCredit_owes (reported : s.reported k (s.meter k).unauth)
    (doses : ∀ d ∈ b.doses, s.response .dose (some d.action) = .report) (runs : (s.arm k).state.running = true)
    (held : (s.arm k).batch = some b) :
    let z := s.beforeDemands k (markedBy (s.pulses k) b)
    z.Owes (s.afterCredit k) k ∧
    (noneDue b (s.windowed k b).gross → s.afterCredit k = z) ∧
    (∀ x, ((s.afterCredit k).arm k).batch = some x →
      (b.flags.doseFault = true → x.flags.doseFault = true) ∧
      ((∀ d ∈ b.doses, 0 < d.interval) → x.doses = b.doses → noneDue b (s.windowed k b).gross)) := by
  have pulsed := s.pulsed_of_report k reported.1
  have marked : s.markedArm k = { s.arm k with batch := some (markedBy (s.pulses k) b) } := by
    rw [markedArm, if_pos runs, held]
    rfl
  have pulsedArm : (s.pulsed k).arm k = { s.arm k with batch := some (markedBy (s.pulses k) b) } := by
    rw [← marked]
    exact (congrArg (fun t : State => t.arm k) pulsed).trans (Vec.get_set_same ..)
  have credits := s.afterCredit_of_running k (x := markedBy (s.pulses k) b) (by rw [pulsedArm]; exact runs)
    (by rw [pulsedArm])
  rw [billedBatch_markedBy] at credits
  have start := s.beforeDemands_eq k reported runs held
  generalize s.beforeDemands k (markedBy (s.pulses k) b) = z at credits start
  have zArm : z.arm k = { s.arm k with batch := some (s.windowed k b) } := by
    rw [start]
    exact Vec.get_set_same ..
  have zRuns : (z.arm k).state.running = true := by rw [zArm]; exact runs
  have zHeld : (z.arm k).batch = some (s.windowed k b) := by rw [zArm]
  have reports : z.dosesReport k := by
    intro x is d listed
    obtain rfl : s.windowed k b = x := Option.some.inj (zHeld.symm.trans is)
    rw [response_congr s (by rw [start])]
    exact doses d listed
  intro z'
  by_cases zero : (s.windowed k b).gross = (markedBy (s.pulses k) b).gross
  · rw [if_pos zero] at credits
    rw [credits]
    refine ⟨.refl z k, fun _ => rfl, fun x is => ?_⟩
    obtain rfl : s.windowed k b = x := Option.some.inj (zHeld.symm.trans is)
    exact ⟨id, fun _ _ => .inl zero⟩
  · rw [if_neg zero] at credits
    rw [credits]
    refine ⟨z.demands_owes k reports, fun none => ?_, fun x is => ?_⟩
    · exact demands_of_none_due zHeld (none.resolve_left zero)
    · obtain ⟨-, y, held', demanded, -⟩ := z.demands_demanded k zRuns zHeld
      obtain rfl : y = x := Option.some.inj (held'.symm.trans is)
      exact ⟨demanded.marked, fun intervals same => .inr (noneDue_of_kept zRuns zHeld
        (by rw [is]; exact congrArg some same) intervals)⟩

theorem State.afterCheck_credited (reported : s.reported k (s.meter k).unauth)
    (doses : ∀ d ∈ b.doses, s.response .dose (some d.action) = .report) (runs : (s.arm k).state.running = true)
    (held : (s.arm k).batch = some b) : ∃ ds df, s.Credited (s.afterCheck k) k b ds df := by
  obtain ⟨owes, undue, kept⟩ := s.afterCredit_owes k reported doses runs held
  have start := s.beforeDemands_eq k reported runs held
  have sum := s.closedUnauth_of_batch k runs held
  have whole := s.afterCheck_of_report k (by rw [sum]; exact reported.2)
  obtain ⟨-, grossC, -, -⟩ := s.afterCredit_bears k runs held
  have lastN : ((s.afterCheck k).meter k).lastN = (s.meter k).n := by
    rw [meter, (s.afterCheck_bears k).meters]
    exact (congrArg Meter.lastN (Vec.get_set_same ..) :)
  have faults : ∀ c, c ≠ .dose → (s.afterCheck k).fault c = s.windowFault k (s.meter k).unauth c := fun c other => by
    rw [s.fault_afterCheck k ((s.pulsed k).fault_credit k other), sum, windowFault]
    split_ifs with raised
    · rcases raised with ⟨rfl, pulse⟩ | ⟨rfl, leak⟩
      · rw [s.response_of_report (reported.1 pulse)]
      · rw [s.response_of_report (reported.2 leak)]
    · rfl
  have doseFault : (s.afterCheck k).fault .dose = (s.afterCredit k).fault .dose := by
    rw [afterCheck, fault_unauthCheck, if_neg fun h => nomatch h.1]
  have startDose : (s.beforeDemands k (markedBy (s.pulses k) b)).fault .dose = s.fault .dose :=
    (fault_congr (by rw [start]) .dose : _ = (s.pulsed k).fault .dose).trans
      ((s.fault_pulsed k _).trans (if_neg fun h => nomatch h.1))
  have report := s.windowReport_uport k
  rw [sum] at report whole
  generalize s.beforeDemands k (markedBy (s.pulses k) b) = z at owes undue start startDose
  have zHeld : (z.arm k).batch = some (s.windowed k b) := by
    rw [start]
    exact congrArg Arm.batch (Vec.get_set_same ..)
  obtain ⟨ds, df, batch, same⟩ := owes.batch _ zHeld
  obtain ⟨marked, untouched⟩ := kept _ batch
  have owed := owes.eq
  have quiet : s.afterCredit k = z → s.additive = (s.afterCredit k).additive ∧ (s.afterCredit k).fault .dose = s.fault .dose :=
    fun is => ⟨by rw [is, start], by rw [is, startDose]⟩
  generalize s.afterCredit k = c at *
  have arms : Vec.set z.arms k { z.arm k with batch := (c.arm k).batch } =
      Vec.set s.arms k { s.arm k with batch := some (s.dosed k b ds df) } := by
    have zArm : z.arm k = { s.arm k with batch := some (s.windowed k b) } := by
      rw [start]
      exact Vec.get_set_same ..
    rw [zArm, batch, start]
    exact Vec.set_set ..
  rw [arms] at owed
  have additive : (s.afterCheck k).additive = c.additive := by rw [whole]
  refine ⟨ds, df, ?_, ?_, lastN, same, marked, fun none => ?_, fun cases_ => ?_, faults, fun stopping => ?_⟩
  · generalize s.afterCheck k = t at whole
    rw [whole, owed, start]
  · rw [whole, grossC]
    exact Vec.get_set_same ..
  · have is := undue none
    rw [is, zHeld] at batch
    have eq := Option.some.inj batch
    exact ⟨(congrArg Batch.doses eq).symm, (congrArg (fun x : Batch => x.flags.doseFault) eq).symm⟩
  · have none : noneDue b (s.windowed k b).gross := cases_.elim id fun h => untouched h.1 h.2
    obtain ⟨stands, dose⟩ := quiet (undue none)
    exact ⟨additive.trans stands.symm, doseFault.trans dose⟩
  · have is := owes.stopping (by rw [start]; exact (congrArg Arm.state (Vec.get_set_same ..)).trans stopping)
    refine ⟨additive.trans (by rw [is, start]), doseFault.trans ?_, ?_⟩
    · rw [← startDose]
      exact fault_congr (by rw [is]) _
    · rw [← report (by rw [is, start]), whole]

end

end Sys2Proof.Machine
end

section
/-! PROOFS. The examination of a reported window in each running state, the end of STOPPING among it (R94 to R99, R104 to
R106, R23). -/

namespace Sys2Proof.Machine

section
variable (s : State) (k : Fin 4) {b : Batch}

/-! ### The flow states (R94 to R97) -/

theorem State.examinedFlow_congr {t : State} (arm : t.arm k = s.arm k) (now : t.now = s.now) (tables : t.tables = s.tables)
    (record : t.session.record = s.session.record) (b : Batch) (n : Nat) :
    t.examinedFlow k b n = s.examinedFlow k b n := by
  have entry : t.armEntry k = s.armEntry k := by rw [armEntry, tables, armEntry]
  have room : t.capacity b = s.capacity b := by
    unfold capacity compartment vehicle
    rw [record, tables]
  have test : t.stopTest k b = s.stopTest k b := by
    unfold stopTest
    rw [room, arm, entry]
  have move : t.flowMove k b = s.flowMove k b := by
    unfold flowMove
    rw [arm, entry]
  have suspends : t.suspended k .noFlow = s.suspended k .noFlow := by rw [suspended, arm, now, entry, suspended]
  unfold examinedFlow
  simp only [test, move, arm, entry, suspends, stopped_congr now tables arm]

theorem flowMove_near (b : Batch) (e : ArmEntry) : (b.remaining ≤ ((e.slowdown * 1000 : Nat) : Int)) ↔
    b.preset * 1000 ≤ b.delivered + e.slowdown * 1000 := by
  unfold Batch.remaining
  omega

theorem State.not_near (far : b.delivered + (s.armEntry k).slowdown * 1000 < b.preset * 1000) :
    decide (b.remaining ≤ (((s.armEntry k).slowdown * 1000 : Nat) : Int)) = false :=
  decide_eq_false fun near => by
    have := (flowMove_near b (s.armEntry k)).1 near
    omega

section
variable {st : ArmState} (state : (s.arm k).state = st)
include state

theorem State.flowMove_of_near (flows : st.flowing = true) (moving : st ≠ .slowdown)
    (near : b.preset * 1000 ≤ b.delivered + (s.armEntry k).slowdown * 1000) : s.flowMove k b = some .slowdown := by
  have near := decide_eq_true ((flowMove_near b (s.armEntry k)).2 near)
  unfold flowMove
  dsimp only
  rw [state, near]
  cases st <;> simp [ArmState.flowing] at flows moving ⊢

theorem State.flowMove_of_started (low : st = .lowStart)
    (far : b.delivered + (s.armEntry k).slowdown * 1000 < b.preset * 1000)
    (started : (s.armEntry k).lowStart * 1000 ≤ b.delivered) : s.flowMove k b = some .full := by
  have far := s.not_near k far
  unfold flowMove
  dsimp only
  rw [state, low, far]
  simp [started]

theorem State.flowMove_of_steady (steady : st = .slowdown ∨
      b.delivered + (s.armEntry k).slowdown * 1000 < b.preset * 1000 ∧
        (st = .full ∨ b.delivered < (s.armEntry k).lowStart * 1000)) : s.flowMove k b = none := by
  unfold flowMove
  dsimp only
  rw [state]
  rcases steady with rfl | ⟨far, rfl | short⟩
  · rfl
  · rw [s.not_near k far]
    rfl
  · rw [s.not_near k far]
    cases st <;> simp [Nat.not_le.2 short]

end

theorem State.stopTest_of_going
    (going : b.delivered + predicted (s.arm k).history (s.armEntry k).maxOverrun < b.preset * 1000)
    (room : b.gross < s.capacity b * 1000) : s.stopTest k b = none := by
  unfold stopTest
  rw [if_neg (Nat.not_le.2 going), if_neg (Nat.not_le.2 room)]

theorem State.examinedFlow_of_complete
    (reached : b.preset * 1000 ≤ b.delivered + predicted (s.arm k).history (s.armEntry k).maxOverrun) (n : Nat) :
    s.examinedFlow k b n = s.stopped k .complete := by
  unfold examinedFlow stopTest
  rw [if_pos reached]

theorem State.examinedFlow_of_capacity
    (going : b.delivered + predicted (s.arm k).history (s.armEntry k).maxOverrun < b.preset * 1000)
    (full : s.capacity b * 1000 ≤ b.gross) (n : Nat) : s.examinedFlow k b n = s.stopped k .capacity := by
  unfold examinedFlow stopTest
  rw [if_neg (Nat.not_le.2 going), if_pos full]

theorem State.examinedFlow_of_move (goes : s.stopTest k b = none) {st : ArmState} (moves : s.flowMove k b = some st)
    (n : Nat) : s.examinedFlow k b n = { s.arm k with state := st } := by
  unfold examinedFlow
  rw [goes, moves]

theorem State.examinedFlow_of_steady (goes : s.stopTest k b = none) (stays : s.flowMove k b = none) (n : Nat) :
    s.examinedFlow k b n =
      if (s.armEntry k).noFlowTimeout * 1000 ≤ (if n = 0 then (s.arm k).noFlow + 250 else 0) then
        { s.suspended k .noFlow with noFlow := if n = 0 then (s.arm k).noFlow + 250 else 0 }
      else { s.arm k with noFlow := if n = 0 then (s.arm k).noFlow + 250 else 0 } := by
  unfold examinedFlow
  rw [goes, stays]

/-! ### The end of STOPPING (R104 to R106) -/

/-- The arm whose STOPPING phase is over, before its batch ends (R104, R105). -/
def State.endedArm (b : Batch) : Arm := { s.arm k with
  batch := some { b with overrun := some b.observed }
  stopTimer := none, zeroCloses := (s.arm k).zeroCloses + 1
  history := if b.endReason = some .complete ∧ b.basis = s.bay.basis
    then keepLast 4 ((s.arm k).history ++ [b.observed]) else (s.arm k).history }

theorem State.examine_of_end (ending : s.endsStopping k) (held : (s.arm k).batch = some b) : s.examine k =
    (State.batchEnd (if (s.armEntry k).maxOverrun * 1000 < b.observed then
        (s.setArm k (s.endedArm k b)).armFault .overrun k else s.setArm k (s.endedArm k b))
      k (b.endReason.getD .fault) false).closeIfDone := by
  have stops : (s.arm k).state = .stopping := ending.1
  generalize ha : ({ s.arm k with stopTimer := none, zeroCloses := (s.arm k).zeroCloses + 1 } : Arm) = a
  have stopped : (s.setArm k { s.arm k with zeroCloses := (s.arm k).zeroCloses + 1 }).setArm k
      { (s.setArm k { s.arm k with zeroCloses := (s.arm k).zeroCloses + 1 }).arm k with stopTimer := none } =
      s.setArm k a := by
    rw [arm_setArm, if_pos rfl, setArm_setArm, ← ha]
  have seen : (s.setArm k a).observeOverrun k = if (s.armEntry k).maxOverrun * 1000 < b.observed then
      (s.setArm k (s.endedArm k b)).armFault .overrun k else s.setArm k (s.endedArm k b) := by
    have arm : (s.setArm k a).arm k = a := (s.arm_setArm k k a).trans (if_pos rfl)
    have held' : a.batch = some b := by rw [← ha]; exact held
    have marks : (s.setArm k a).updBatch k (fun x => { x with overrun := some b.observed }) =
        s.setArm k { a with batch := some { b with overrun := some b.observed } } := by
      rw [updBatch, arm, held', setArm_setArm]
      rfl
    have same : (if b.endReason = some .complete ∧ b.basis = s.bay.basis then
        (s.setArm k { a with batch := some { b with overrun := some b.observed } }).setArm k
          { a with batch := some { b with overrun := some b.observed }, history := keepLast 4 (a.history ++ [b.observed]) }
        else s.setArm k { a with batch := some { b with overrun := some b.observed } }) =
        s.setArm k (s.endedArm k b) := by
      unfold endedArm
      rw [setArm_setArm, ← ha]
      split_ifs <;> rfl
    unfold observeOverrun
    rw [arm, held']
    dsimp only
    rw [marks, arm_setArm, if_pos rfl]
    change (if (s.armEntry k).maxOverrun * 1000 < b.observed then State.armFault (ite (b.endReason = some .complete ∧
      b.basis = s.bay.basis) _ _) .overrun k else ite (b.endReason = some .complete ∧ b.basis = s.bay.basis) _ _) = _
    rw [same]
  have yArm : (s.setArm k (s.endedArm k b)).arm k = s.endedArm k b := (s.arm_setArm k k _).trans (if_pos rfl)
  have zArm : ((s.setArm k (s.endedArm k b)).armFault .overrun k).arm k = s.endedArm k b :=
    (arm_raiseFault_of_pastStop _ k (.inl (by rw [yArm]; exact stops)) (by decide) (by decide) _ _ _ _).trans yArm
  rw [examine_of_ending s k ending]
  unfold endStopped
  dsimp only
  rw [stopped, seen]
  unfold endReasonOf
  split_ifs
  · rw [zArm]
    rfl
  · rw [yArm]
    rfl

/-- The end of a batch without dose records, whatever the session (log 23). -/
theorem State.arm_batchEnd_of_undosed (held : (s.arm k).batch = some b) (undosed : b.doses = []) (reason : EndReason)
    (j : Fin 4) : (s.batchEnd k reason false).arm j =
      if j = k then { s.arm k with state := .idle, batch := none, stopTimer := none, zeroCloses := 0 } else s.arm j := by
  have releases : s.releaseDoses k false = s := by rw [releaseDoses_eq s k held, if_pos undosed]
  have arms (i : Fin 4) : (s.recordEnd k b reason).arm i = s.arm i := arm_congr (by simp) i
  unfold batchEnd
  dsimp only
  rw [releases, held]
  dsimp only
  rw [arm_dropBatch, arms, arms]

theorem State.endedBatch_of_undosed (undosed : b.doses = []) : s.endedBatch k b = b := by
  unfold endedBatch
  rw [undosed, List.mapIdx_nil, ← undosed]

/-- The close of a CLOSING session whose last arm has just become IDLE, with a line (R23, R24, R134). -/
theorem State.closeIfDone_closes {u : State} {r : Session} {c : CloseReason} (record : u.session.record = some r)
    (closing : r.closing = some c) (idle : u.allIdle = true) (lines : r.lines ≠ []) :
    u.closeIfDone.session.record = none ∧
      u.closeIfDone.custody.counter = u.custody.counter.pass r.number ∧
      u.closeIfDone.custody.places = fillReserved ⟨r.number, if r.damaged then .damaged else .ready, some (u.noteOf r c),
        noteForm (u.noteOf r c), false, false⟩ u.custody.places ∧
      u.closeIfDone.uport = ((u.raise (.noteReady r.number c r.lines.length
        (r.lines.filter fun l => anyFlag l.flags).length u.custody.places.length)).raise
          (.sessionClosed r.number c r.lines.length)).uport := by
  have reason : u.closeReason = some c := by rw [closeReason, record]; exact closing
  have raised : u.closeRaised r c = (u.raise (.noteReady r.number c r.lines.length
      (r.lines.filter fun l => anyFlag l.flags).length u.custody.places.length)).raise
        (.sessionClosed r.number c r.lines.length) := by
    rw [closeRaised, if_neg lines]
  have custody : u.closedCustody r c = { u.custody with
      counter := u.custody.counter.pass r.number
      places := fillReserved ⟨r.number, if r.damaged then .damaged else .ready, some (u.noteOf r c),
        noteForm (u.noteOf r c), false, false⟩ u.custody.places } := if_neg lines
  rw [closeIfDone_of_closing reason, if_pos idle, u.closeSession_eq record, custody, raised]
  exact ⟨rfl, rfl, rfl, rfl⟩

theorem State.closeIfDone_of_going {u : State} {r : Session} (record : u.session.record = some r)
    (going : r.closing = none) : u.closeIfDone = u := by
  simp only [closeIfDone, record, going]

end

end Sys2Proof.Machine
end

section
/-! PROOFS. The close of a reported window on a running arm (R94 to R99, R104 to R106, R23). -/

namespace Sys2Proof.Machine

section
variable {s t : State} {k : Fin 4} {b : Batch} {ds : List DoseRec} {df : Bool}

/-- The state with the credited batch in its arm. -/
def State.dosedState (s : State) (k : Fin 4) (b : Batch) (ds : List DoseRec) (df : Bool) : State :=
  s.setArm k { s.arm k with batch := some (s.dosed k b ds df) }

theorem State.arm_dosedState (s : State) (k : Fin 4) (b : Batch) (ds : List DoseRec) (df : Bool) :
    (s.dosedState k b ds df).arm k = { s.arm k with batch := some (s.dosed k b ds df) } :=
  (s.arm_setArm k k _).trans (if_pos rfl)

namespace State.Credited
variable (c : s.Credited t k b ds df)
include c

theorem arm : t.arm k = { s.arm k with batch := some (s.dosed k b ds df) } :=
  (congrArg (fun x : State => x.arm k) c.eq).trans (Vec.get_set_same ..)

theorem others {j : Fin 4} (other : j ≠ k) : t.arm j = s.arm j :=
  (congrArg (fun x : State => x.arm j) c.eq).trans (Vec.get_set_ne _ _ _ _ other)

theorem stands : t.now = s.now ∧ t.tables = s.tables ∧ t.session = s.session ∧ t.dport = s.dport ∧
    t.additive.waiting = s.additive.waiting ∧ t.custody.places = s.custody.places ∧
    t.custody.counter = s.custody.counter ∧ t.custody.clock = s.custody.clock := by
  rw [c.eq]
  exact ⟨rfl, rfl, rfl, rfl, rfl, rfl, rfl, rfl⟩

theorem held : (t.arm k).batch = some (s.dosed k b ds df) := by rw [c.arm]

theorem state : (t.arm k).state = (s.arm k).state := by rw [c.arm]

/-- What the examination leaves in a flow state and in SUSPENDED. -/
theorem leaves {u : State} (others : ∀ j, j ≠ k → u.arm j = t.arm j) (tables : u.tables = t.tables)
    (record : u.session.record = t.session.record) (faults : u.safety.faults = t.safety.faults)
    (dport : u.dport = t.dport) (additive : u.additive = t.additive) :
    (∀ j, j ≠ k → u.arm j = s.arm j) ∧ u.tables = s.tables ∧ u.session.record = s.session.record ∧
      (∀ d, d ≠ .dose → u.fault d = s.windowFault k (s.meter k).unauth d) ∧ u.dport = s.dport ∧
      u.additive.waiting = s.additive.waiting ∧
      (noneDue b (s.windowed k b).gross ∨ (∀ d ∈ b.doses, 0 < d.interval) ∧ ds = b.doses →
        u.additive = s.additive ∧ u.fault .dose = s.fault .dose) := by
  obtain ⟨-, tables', session, dport', waiting, -⟩ := c.stands
  refine ⟨fun j other => (others j other).trans (c.others other), tables.trans tables', record.trans (by rw [session]),
    fun d notDose => (fault_congr faults d).trans (c.faults d notDose), dport.trans dport',
    by rw [additive, waiting], fun cases_ => ?_⟩
  obtain ⟨stands, dose⟩ := c.still cases_
  exact ⟨additive.trans stands, (fault_congr faults .dose).trans dose⟩

/-- The arm after a window in a flow state. -/
theorem arm_of_flowing (flows : (s.arm k).state.flowing = true) :
    t.examine k = t.examineFlow k (s.dosed k b ds df) (s.meter k).n ∧
    (t.examine k).arm k = (s.dosedState k b ds df).examinedFlow k (s.dosed k b ds df) (s.meter k).n := by
  obtain ⟨now, tables, session, -⟩ := c.stands
  have goes : (t.arm k).state.flowing = true := by rw [c.state]; exact flows
  have run := t.examine_of_flowing k goes c.held
  rw [c.lastN] at run
  refine ⟨run, ?_⟩
  rw [run, t.arm_examineFlow k goes, if_pos rfl]
  exact examinedFlow_congr _ k (c.arm.trans (s.arm_dosedState k b ds df).symm) now tables (by rw [session]; rfl) _ _

/-- The batch ended by the window, where its overrun is within the limit (R104, R105). -/
theorem ends (stopping : (s.arm k).state = .stopping) (zero : (s.meter k).n = 0) (second : 1 ≤ (s.arm k).zeroCloses) :
    let x := s.dosed k b ds df
    let y := t.setArm k (t.endedArm k x)
    t.examine k = (State.batchEnd (if (s.armEntry k).maxOverrun * 1000 < x.observed then y.armFault .overrun k else y) k
      (b.endReason.getD .fault) false).closeIfDone ∧
    y.arm k = { s.arm k with
      batch := some { x with overrun := some x.observed }
      stopTimer := none, zeroCloses := (s.arm k).zeroCloses + 1
      history := if b.endReason = some .complete ∧ b.basis = s.bay.basis
        then keepLast 4 ((s.arm k).history ++ [x.observed]) else (s.arm k).history } := by
  obtain ⟨-, tables, -⟩ := c.stands
  have entry : t.armEntry k = s.armEntry k := by rw [armEntry, tables, armEntry]
  have bay : t.bay = s.bay := by rw [State.bay, tables, State.bay]
  have ended := t.examine_of_end k ⟨by rw [c.state]; exact stopping, by rw [c.lastN]; exact zero,
    by rw [c.arm]; exact second⟩ c.held
  rw [entry] at ended
  intro x y
  refine ⟨ended, ?_⟩
  have yArm : y.arm k = t.endedArm k x := (t.arm_setArm k k _).trans (if_pos rfl)
  rw [yArm, endedArm, c.arm, bay]
  rfl

end State.Credited

end

/-- The flow state's clauses of R94 to R97, for the batch credited. -/
theorem State.examinedFlow_dosed (s : State) (k : Fin 4) (b : Batch) (ds : List DoseRec) (df : Bool) (n : Nat)
    (flows : (s.arm k).state.flowing = true) (timeout : 0 < (s.armEntry k).noFlowTimeout) :
    let x := s.dosed k b ds df
    let v := s.dosedState k b ds df
    let ahead := predicted (s.arm k).history (s.armEntry k).maxOverrun
    (b.preset * 1000 ≤ x.delivered + ahead → v.examinedFlow k x n = v.stopped k .complete) ∧
    (x.delivered + ahead < b.preset * 1000 → s.capacity b * 1000 ≤ x.gross →
      v.examinedFlow k x n = v.stopped k .capacity) ∧
    (x.delivered + ahead < b.preset * 1000 → x.gross < s.capacity b * 1000 →
      ((s.arm k).state ≠ .slowdown → b.preset * 1000 ≤ x.delivered + (s.armEntry k).slowdown * 1000 →
        v.examinedFlow k x n = { v.arm k with state := .slowdown }) ∧
      ((s.arm k).state = .lowStart → x.delivered + (s.armEntry k).slowdown * 1000 < b.preset * 1000 →
        (s.armEntry k).lowStart * 1000 ≤ x.delivered → v.examinedFlow k x n = { v.arm k with state := .full }) ∧
      ((s.arm k).state = .slowdown ∨ x.delivered + (s.armEntry k).slowdown * 1000 < b.preset * 1000 ∧
          ((s.arm k).state = .full ∨ x.delivered < (s.armEntry k).lowStart * 1000) →
        (0 < n → v.examinedFlow k x n = { v.arm k with noFlow := 0 }) ∧
        (n = 0 → (s.arm k).noFlow + 250 < (s.armEntry k).noFlowTimeout * 1000 →
          v.examinedFlow k x n = { v.arm k with noFlow := (s.arm k).noFlow + 250 }) ∧
        (n = 0 → (s.armEntry k).noFlowTimeout * 1000 ≤ (s.arm k).noFlow + 250 →
          v.examinedFlow k x n = { v.suspended k .noFlow with noFlow := (s.arm k).noFlow + 250 }))) := by
  intro x v ahead
  have arm : v.arm k = { s.arm k with batch := some x } := s.arm_dosedState k b ds df
  have state : (v.arm k).state = (s.arm k).state := by rw [arm]
  have timer : (v.arm k).noFlow = (s.arm k).noFlow := by rw [arm]
  have history : predicted (v.arm k).history (v.armEntry k).maxOverrun = ahead := by rw [arm]; rfl
  have room : v.capacity x = s.capacity b := rfl
  refine ⟨fun reached => ?_, fun going full => ?_, fun going free => ⟨fun moving near => ?_, fun low far started => ?_,
    fun steady => ?_⟩⟩
  · exact v.examinedFlow_of_complete k (by rw [history]; exact reached) n
  · exact v.examinedFlow_of_capacity k (by rw [history]; exact going) (by rw [room]; exact full) n
  · exact v.examinedFlow_of_move k (v.stopTest_of_going k (by rw [history]; exact going) (by rw [room]; exact free))
      (v.flowMove_of_near k state flows moving near) n
  · exact v.examinedFlow_of_move k (v.stopTest_of_going k (by rw [history]; exact going) (by rw [room]; exact free))
      (v.flowMove_of_started k state low far started) n
  · have timed := v.examinedFlow_of_steady k
      (v.stopTest_of_going k (b := x) (by rw [history]; exact going) (by rw [room]; exact free))
      (v.flowMove_of_steady k state steady) n
    have entry : v.armEntry k = s.armEntry k := rfl
    rw [timer, entry] at timed
    refine ⟨fun some_ => ?_, fun none within => ?_, fun none above => ?_⟩
    · rw [timed, if_neg (by rw [if_neg (by omega)]; omega), if_neg (by omega)]
    · rw [timed, if_neg (by rw [if_pos none]; omega), if_pos none]
    · rw [timed, if_pos (by rw [if_pos none]; exact above), if_pos none]

section
variable {s t : State} {k : Fin 4} {b : Batch} {ds : List DoseRec} {df : Bool}

/-- A window that ends STOPPING within the overrun limit (R104, R105). -/
theorem State.Credited.ends_within (c : s.Credited t k b ds df) (stopping : (s.arm k).state = .stopping)
    (zero : (s.meter k).n = 0) (second : 1 ≤ (s.arm k).zeroCloses) :
    let x := s.dosed k b ds df
    let o := x.delivered - b.atStopping.getD x.delivered
    o ≤ (s.armEntry k).maxOverrun * 1000 →
      ∃ y : State, t.examine k = (y.batchEnd k (b.endReason.getD .fault) false).closeIfDone ∧
        y = { s with
          meters := y.meters, volumes := y.volumes, custody := y.custody, arms := y.arms
          uport := (s.windowReport k (s.meter k).unauth).uport
          safety := { s.safety with faults := y.safety.faults } } ∧
        (∀ c, y.fault c = s.windowFault k (s.meter k).unauth c) ∧ (∀ j, j ≠ k → y.arm j = s.arm j) ∧
        y.arm k = { s.arm k with
          batch := some { x with overrun := some o }
          stopTimer := none, zeroCloses := (s.arm k).zeroCloses + 1
          history := if b.endReason = some .complete ∧ b.basis = s.bay.basis
            then keepLast 4 ((s.arm k).history ++ [o]) else (s.arm k).history } := by
  intro x o within
  obtain ⟨ended, arm⟩ := c.ends stopping zero second
  obtain ⟨additive, dose, uport⟩ := c.stopping stopping
  have eq := c.eq
  rw [additive, uport] at eq
  refine ⟨t.setArm k (t.endedArm k x), ended.trans ?_, ?_, fun d => ?_, fun j other => ?_, arm⟩
  · have below : ¬(s.armEntry k).maxOverrun * 1000 < (s.dosed k b ds df).observed := Nat.not_lt.2 within
    rw [if_neg below]
  · generalize t.endedArm k x = a
    rw [eq]
    rfl
  · by_cases isDose : d = .dose
    · subst isDose
      exact dose.trans (if_neg fun h => h.elim (fun h => nomatch h.1) fun h => nomatch h.1).symm
    · exact c.faults d isDose
  · exact ((t.arm_setArm k j _).trans (if_neg other)).trans (c.others other)

end

end Sys2Proof.Machine
end

section
/-! PROOFS. The end of STOPPING of a batch without dose records, and the examination of a window (R94 to R99, R104 to R106,
R23). -/

namespace Sys2Proof.Machine

theorem State.windowReport_clock (s : State) (k : Fin 4) (unauth : Nat) :
    (s.windowReport k unauth).custody.clock = s.custody.clock := by
  have announces (t : State) (c : FaultClass) (j : Option (Fin 4)) (x : Subject) (m : ResponseMode) (drill : Bool) :
      (t.announced c j x m drill).custody.clock = t.custody.clock := by rw [announced_eq]
  have reports : (s.pulseReport k).custody.clock = s.custody.clock := by rw [pulseReport_eq]
  rw [windowReport_eq]
  split_ifs
  · rw [announces, reports]
  · exact reports

section
variable {s t : State} {k : Fin 4} {b : Batch} {ds : List DoseRec} {df : Bool}

/-- An undosed batch ends its STOPPING: its arm, and the fault records (R39, R104 to R106). -/
theorem State.Credited.ends_undosed (c : s.Credited t k b ds df) (stopping : (s.arm k).state = .stopping)
    (zero : (s.meter k).n = 0) (second : 1 ≤ (s.arm k).zeroCloses) (undosed : b.doses = []) :
    let x := s.dosed k b ds df
    let o := x.delivered - b.atStopping.getD x.delivered
    let u := t.examine k
    u.arm k = { s.arm k with
      state := .idle, batch := none, stopTimer := none, zeroCloses := 0
      history := if b.endReason = some .complete ∧ b.basis = s.bay.basis
        then keepLast 4 ((s.arm k).history ++ [o]) else (s.arm k).history } ∧
    (∀ d, d ≠ .overrun → u.fault d = s.windowFault k (s.meter k).unauth d) ∧
    ((s.armEntry k).maxOverrun * 1000 < o →
      (u.fault .overrun).count = min 255 ((s.fault .overrun).count + 1) ∧
      (u.fault .overrun).armsNamed = joinArm (s.fault .overrun).armsNamed k) := by
  intro x o u
  obtain ⟨ended, arm⟩ := c.ends stopping zero second
  have empty : ds = [] := by
    have lengths := congrArg List.length c.doses
    rw [List.length_map, List.length_map, undosed] at lengths
    exact List.eq_nil_of_length_eq_zero lengths
  have yFaults : ∀ d, (t.setArm k (t.endedArm k x)).fault d = s.windowFault k (s.meter k).unauth d := fun d => by
    by_cases isDose : d = .dose
    · subst isDose
      exact (c.stopping stopping).2.1.trans (if_neg fun h => h.elim (fun h => nomatch h.1) fun h => nomatch h.1).symm
    · exact c.faults d isDose
  have observed : (s.dosed k b ds df).observed = o := rfl
  rw [observed] at ended arm
  generalize hy : t.setArm k (t.endedArm k (s.dosed k b ds df)) = y at *
  have yStops : y.pastStop k := .inl (by rw [arm]; exact stopping)
  generalize hz : (if (s.armEntry k).maxOverrun * 1000 < o then y.armFault .overrun k else y) = z at ended
  have zArm : z.arm k = y.arm k := by
    rw [← hz]
    split_ifs
    · exact y.arm_raiseFault_of_pastStop k yStops (by decide) (by decide) _ _ _ _
    · rfl
  have zFault : ∀ d, z.fault d = if d = .overrun ∧ (s.armEntry k).maxOverrun * 1000 < o then
      y.struck .overrun (some k) (y.response .overrun none) false else y.fault d := fun d => by
    rw [← hz]
    by_cases above : (s.armEntry k).maxOverrun * 1000 < o
    · simp only [above, if_true, and_true]
      exact y.fault_raiseFault .overrun d _ _ _ _
    · simp only [above, and_false, if_false]
  have uArm : (t.examine k).arm k = (z.batchEnd k (b.endReason.getD .fault) false).arm k := by
    rw [ended]
    exact arm_congr (closeIfDone_frame _).2.2.2.2.2.2.2.2.1 k
  have uFault : ∀ d, (t.examine k).fault d = z.fault d := fun d => by
    rw [ended]
    exact fault_congr (by simp) d
  have overrun : y.fault .overrun = s.fault .overrun :=
    (yFaults .overrun).trans (if_neg fun h => h.elim (fun h => nomatch h.1) fun h => nomatch h.1)
  refine ⟨?_, fun d other => ?_, fun above => ?_⟩
  · have batch : (z.arm k).batch = some { x with overrun := some o } := by
      rw [zArm, arm]
    exact uArm.trans ((z.arm_batchEnd_of_undosed k batch empty _ k).trans (by rw [if_pos rfl, zArm, arm]))
  · exact (uFault d).trans ((zFault d).trans ((if_neg fun h => other h.1).trans (yFaults d)))
  · have struck : u.fault .overrun = y.struck .overrun (some k) (y.response .overrun none) false :=
      (uFault _).trans ((zFault _).trans (if_pos ⟨rfl, above⟩))
    rw [struck, ← overrun]
    exact ⟨rfl, rfl⟩

/-- An undosed batch ends its STOPPING within the overrun limit: the session, its note and its events (R23, R105,
R106, R134). -/
theorem State.Credited.closes_undosed (c : s.Credited t k b ds df) (stopping : (s.arm k).state = .stopping)
    (zero : (s.meter k).n = 0) (second : 1 ≤ (s.arm k).zeroCloses) (undosed : b.doses = []) :
    let x := s.dosed k b ds df
    let o := x.delivered - b.atStopping.getD x.delivered
    let w := s.windowReport k (s.meter k).unauth
    let u := t.examine k
    let l := batchLine k { x with overrun := some o } (b.endReason.getD .fault)
      ((Vec.get s.custody.gross k).credit (x.gross - b.gross))
    o ≤ (s.armEntry k).maxOverrun * 1000 → u.fault .overrun = s.fault .overrun ∧
      (∀ j, j ≠ k → u.arm j = s.arm j) ∧
      (∀ r, s.session.record = some r → r.closing = none →
        u.session.record = some { r with
          reserved := r.reserved - b.preset, claims := Vec.set r.claims b.compartment none, lines := r.lines ++ [l]
          delivered := if r.source = .server then r.delivered + litres x.delivered else r.delivered } ∧
        u.uport = (w.raise (.batchEnded k b.compartment b.code l.endReason l.grossL l.standardL l.flags
          (some o))).uport) ∧
      (∀ r c, s.session.record = some r → r.closing = some c → (∀ j, j ≠ k → (s.arm j).state = .idle) →
        u.session.record = none ∧ s.noted u { r with lines := r.lines ++ [l] } c ∧
        u.uport = (((w.raise (.batchEnded k b.compartment b.code l.endReason l.grossL l.standardL l.flags
          (some o))).raise (.noteReady r.number c (r.lines.length + 1)
            ((r.lines ++ [l]).filter fun y => anyFlag y.flags).length s.custody.places.length)).raise
              (.sessionClosed r.number c (r.lines.length + 1))).uport) ∧
      (∀ r c j, s.session.record = some r → r.closing = some c → j ≠ k → (s.arm j).state ≠ .idle →
        (u.session.record.bind Session.closing) = some c) := by
  intro x o w u l within
  obtain ⟨ended, arm⟩ := c.ends stopping zero second
  obtain ⟨-, -, yUport⟩ := c.stopping stopping
  obtain ⟨-, tables, session, -, -, places, counter, clock⟩ := c.stands
  have gross := c.gross
  have empty : x.doses = [] := by
    have lengths := congrArg List.length c.doses
    rw [List.length_map, List.length_map, undosed] at lengths
    exact List.eq_nil_of_length_eq_zero lengths
  have overrun : t.fault .overrun = s.fault .overrun :=
    (c.faults .overrun (by decide)).trans (if_neg fun h => h.elim (fun h => nomatch h.1) fun h => nomatch h.1)
  have below : ¬(s.armEntry k).maxOverrun * 1000 < (s.dosed k b ds df).observed := Nat.not_lt.2 within
  have yOthers : ∀ j, j ≠ k → (t.setArm k (t.endedArm k (s.dosed k b ds df))).arm j = s.arm j := fun j other =>
    ((t.arm_setArm k j _).trans (if_neg other)).trans (c.others other)
  have yParts : (t.setArm k (t.endedArm k (s.dosed k b ds df))).custody = t.custody ∧
      (t.setArm k (t.endedArm k (s.dosed k b ds df))).session = t.session ∧
      (t.setArm k (t.endedArm k (s.dosed k b ds df))).tables = t.tables ∧
      (t.setArm k (t.endedArm k (s.dosed k b ds df))).uport = t.uport ∧
      (t.setArm k (t.endedArm k (s.dosed k b ds df))).fault .overrun = t.fault .overrun := ⟨rfl, rfl, rfl, rfl, rfl⟩
  rw [if_neg below] at ended
  generalize t.setArm k (t.endedArm k (s.dosed k b ds df)) = y at ended arm yOthers yParts
  obtain ⟨yCustody, ySession, yTables, yEvents, yOverrun⟩ := yParts
  have batch : (y.arm k).batch = some { x with overrun := some o } := by rw [arm]; rfl
  have line : batchLine k (y.endedBatch k { x with overrun := some o }) (b.endReason.getD .fault)
      (Vec.get y.custody.gross k) = l := by
    rw [y.endedBatch_of_undosed k (b := { x with overrun := some o }) empty, yCustody, gross]
    rfl
  have effects : ∀ r, s.session.record = some r → _ := fun r record =>
    y.batchEnd_effects k batch (r := r) (by rw [ySession, session, record])
      (y.releaseDoses_of_quiet k batch (by rw [show ({ x with overrun := some o } : Batch).doses = [] from empty]; simp)
        (.inl empty)) (by rw [show ({ x with overrun := some o } : Batch).doses = [] from empty]; simp)
      (b.endReason.getD .fault)
  rw [line] at effects
  obtain ⟨-, -, -, -, -, kept, -, bCustody, -⟩ := y.batchEnd_frame k (b.endReason.getD .fault) false
  have bArm := y.arm_batchEnd_of_undosed k batch empty (b.endReason.getD .fault)
  have uNamed : t.examine k = u := rfl
  rw [uNamed] at ended
  clear_value u
  generalize y.batchEnd k (b.endReason.getD .fault) false = e at *
  obtain ⟨-, -, -, -, -, uSafety, -, -, uArms, -⟩ := e.closeIfDone_frame
  have wClock : w.custody.clock = s.custody.clock := s.windowReport_clock k _
  have ends : ∀ r, s.session.record = some r →
      e.session.record = some (closedRecord r { x with overrun := some o } l) ∧ e.bay = s.bay ∧
      e.uport = (w.raise (.batchEnded k b.compartment b.code l.endReason l.grossL l.standardL l.flags (some o))).uport := by
    intro r record
    obtain ⟨-, -, recorded, tabled, -, events⟩ := effects r record
    refine ⟨recorded, ?_, events.trans ?_⟩
    · rw [State.bay, tabled, yTables, tables]
      rfl
    · rw [State.raise_eq_raised, State.raise_eq_raised, yEvents, yUport, yCustody, clock, wClock]
      rfl
  refine ⟨?_, fun j other => ?_, fun r record going => ?_, fun r cause record closing idle => ?_,
    fun r cause j record closing other busy => ?_⟩
  · rw [ended, State.fault_congr (congrArg SafetyBlk.faults uSafety), State.fault_congr kept, yOverrun, overrun]
  · rw [ended, State.arm_congr uArms, bArm, if_neg other, yOthers j other]
  · obtain ⟨recorded, -, events⟩ := ends r record
    rw [ended, State.closeIfDone_of_going recorded going]
    exact ⟨recorded, events⟩
  · obtain ⟨recorded, bay, events⟩ := ends r record
    have allIdle : e.allIdle = true := by
      refine e.allIdle_iff.2 fun j => ?_
      rw [bArm]
      split_ifs with same
      · rfl
      · rw [yOthers j same]
        exact idle j same
    obtain ⟨gone, count, filled, raised⟩ := State.closeIfDone_closes recorded closing allIdle (by simp [closedRecord])
    have note : e.noteOf (closedRecord r { x with overrun := some o } l) cause =
        s.noteOf { r with lines := r.lines ++ [l] } cause := by
      unfold State.noteOf
      rw [bay, bCustody, yCustody, clock]
      rfl
    rw [note, bCustody, yCustody] at filled
    rw [bCustody, yCustody] at count raised
    rw [ended]
    refine ⟨gone, ⟨count.trans (by rw [counter]; rfl), filled.trans (by rw [places]; rfl)⟩, raised.trans ?_⟩
    have length : (closedRecord r { x with overrun := some o } l).lines.length = r.lines.length + 1 := by
      simp [closedRecord]
    simp only [State.raise_eq_raised, bCustody, yCustody, clock, places, wClock, length, events]
    rfl
  · obtain ⟨recorded, -, -⟩ := ends r record
    have reason : e.closeReason = some cause := by rw [State.closeReason, recorded]; exact closing
    have notIdle : ¬e.allIdle = true := fun all => by
      have still := e.allIdle_iff.1 all j
      rw [bArm, if_neg other, yOthers j other] at still
      exact busy still
    rw [ended, State.closeIfDone_of_closing reason, if_neg notIdle]
    exact reason

end

/-- Settles O26: the window credited, then its examination by the arm's state. -/
theorem flowExamined : Obligations.FlowExamined := by
  intro s k b live _ measures reported doses runs held timeout
  obtain ⟨ds, df, c⟩ := s.afterCheck_credited k reported doses runs held
  have run : exec (.gateWindowClose k) s = .next ((s.afterCheck k).examine k) := by
    rw [exec_gateWindowClose_of_live live, State.closeWindow_of_running s k measures]
  generalize s.afterCheck k = t at c run
  refine ⟨t.examine k, ds, df, ?_⟩
  intro x v w n ahead
  have zeroCloses : (t.arm k).zeroCloses = (s.arm k).zeroCloses := by rw [c.arm]
  have stopTimer : (t.arm k).stopTimer = (s.arm k).stopTimer := by rw [c.arm]
  have vArm : v.arm k = t.arm k := (s.arm_dosedState k b ds df).trans c.arm.symm
  obtain ⟨now, tables, -⟩ := c.stands
  have entry : t.armEntry k = s.armEntry k := by rw [State.armEntry, tables, State.armEntry]
  refine ⟨run, c.doses, c.marked, c.untouched, fun moving => ?_, fun flows => ?_, fun suspended => ?_,
    fun stopping some_ => ?_, fun stopping zero first => ?_, fun stopping zero second => ?_,
    fun stopping zero second undosed => ?_⟩
  · rcases moving with suspended | flows
    · rw [t.examine_of_suspended k (by rw [c.state]; exact suspended)]
      exact c.leaves (fun j other => (t.arm_setArm k j _).trans (if_neg other)) rfl rfl rfl rfl rfl
    · obtain ⟨eq, -⟩ := c.arm_of_flowing flows
      rw [eq]
      have goes : (t.arm k).state.flowing = true := by rw [c.state]; exact flows
      obtain ⟨-, -, -, tables, -, record, -, faults, -, -, additive, -, -, dport, -⟩ :=
        t.examineFlow_frame k (s.dosed k b ds df) (s.meter k).n
      exact c.leaves (fun j other => (t.arm_examineFlow k goes _ _ j).trans (if_neg other)) tables record faults dport
        additive
  · obtain ⟨-, arm⟩ := c.arm_of_flowing flows
    rw [arm]
    exact s.examinedFlow_dosed k b ds df n flows timeout
  · have arm : (t.examine k).arm k = t.examinedSuspended k (s.meter k).n := by
      rw [t.examine_of_suspended k (by rw [c.state]; exact suspended), c.lastN, State.arm_setArm, if_pos rfl]
    refine ⟨fun zero => ?_, fun some_ => ?_⟩
    · rw [arm, State.examinedSuspended, if_pos zero, zeroCloses, stopTimer, vArm]
    · rw [arm, State.examinedSuspended, if_neg (by omega), stopTimer, vArm, now, entry]
  · have goes : ¬t.endsStopping k := fun ends => by
      have := ends.2.1
      rw [c.lastN] at this
      omega
    rw [t.examine_of_stopping_goes k (by rw [c.state]; exact stopping) goes, c.lastN, State.arm_setArm, if_pos rfl,
      if_neg (by omega), vArm]
  · have goes : ¬t.endsStopping k := fun ends => by
      have := ends.2.2
      omega
    rw [t.examine_of_stopping_goes k (by rw [c.state]; exact stopping) goes, c.lastN, State.arm_setArm, if_pos rfl,
      if_pos zero, zeroCloses, first, vArm]
  · exact c.ends_within stopping zero second
  · obtain ⟨arm, faults, above⟩ := c.ends_undosed stopping zero second undosed
    exact ⟨arm, faults, above, c.closes_undosed stopping zero second undosed⟩

end Sys2Proof.Machine
end

section
/-! SUPPORT. A dose record and its injector: writes of one record, a closed injection, the dose check (R120 to R125). -/

namespace Sys2Proof.Machine

section
variable {s t u v : State} {k : Fin 4} {i : Nat} {d : DoseRec}

/-! ### One dose record written -/

theorem State.dose_congr (arms : t.arms = s.arms) (k : Fin 4) (m : Nat) : t.dose k m = s.dose k m := by
  rw [dose, arm_congr arms, dose]

/-- A write of one record, between states that hold the same arms. -/
theorem State.redosed_congr (before : t.arms = s.arms) (after : v.arms = u.arms) (h : t.redosed u k i d) :
    s.redosed v k i d := by
  unfold redosed at h ⊢
  simp only [dose_congr before, dose_congr after, arm_congr before, arm_congr after] at h ⊢
  exact h

theorem State.updDose_eq (s : State) (k : Fin 4) (i : Nat) (f : DoseRec → DoseRec) :
    s.updDose k i f = { s with arms := (s.updDose k i f).arms } := rfl

theorem State.redosed.batch (h : s.redosed u k i d) {b : Batch} (held : (s.arm k).batch = some b) :
    ∃ ds, (u.arm k).batch = some { b with doses := ds } := by
  obtain ⟨-, -, -, -, batch⟩ := h
  rw [held] at batch
  obtain ⟨x, is, same⟩ := Option.map_eq_some_iff.1 batch
  refine ⟨x.doses, is.trans (congrArg some ?_)⟩
  have whole : ({ ({ x with doses := [] } : Batch) with doses := x.doses } : Batch) =
      { ({ b with doses := [] } : Batch) with doses := x.doses } := by rw [same]
  exact whole

/-! ### A closed injection (R121, R123) -/

/-- The injector whose injection closes with `n` misses in a row. -/
def Injector.closedAt (x : Injector) (now n : Nat) : Injector :=
  { x with open_ := false, timer := none, windowTimer := some (now + 500), misses := n }

/-- The misses in a row once an injection closes (R121). -/
def missesAfter (x : Injector) (onTimeout : Bool) : Nat :=
  if (onTimeout && 2 * x.measured < x.stroke) = true then min 3 (x.misses + 1) else 0

/-- The closing injection, recorded in its dose. -/
def State.recordedClose (s : State) (j : Fin 6) (onTimeout : Bool) : State :=
  let t := s.setInj j ((s.inj j).closedAt s.now (missesAfter (s.inj j) onTimeout))
  match (s.inj j).owner with
  | some (k, i) => t.updDose k i fun d => { d with done := bump 65535 d.done }
  | none => t

theorem State.closeInjection_eq (s : State) (j : Fin 6) (onTimeout : Bool) : s.closeInjection j onTimeout =
    if missesAfter (s.inj j) onTimeout = 3 then (s.recordedClose j onTimeout).injectorFailed j (s.inj j).owner
    else match (s.inj j).owner with
      | some (k, i) => (s.recordedClose j onTimeout).continueDose j k i
      | none => ((s.recordedClose j onTimeout).freeInj j).scan := rfl

/-- The injection that closes for no batch frees its injector, and the list is scanned (R123). -/
theorem State.closeInjection_unowned (s : State) (j : Fin 6) (onTimeout : Bool)
    (few : missesAfter (s.inj j) onTimeout ≠ 3) (unowned : (s.inj j).owner = none) :
    ∃ w : State, s.closeInjection j onTimeout = w.scan ∧ w = { s with additive := w.additive } ∧
      w.additive.waiting = s.additive.waiting ∧ (∀ x, x ≠ j → w.inj x = s.inj x) ∧
      w.inj j = { (s.inj j).closedAt s.now (missesAfter (s.inj j) onTimeout) with state := .free, claimant := none } := by
  have closes : s.closeInjection j onTimeout =
      ((s.setInj j ((s.inj j).closedAt s.now (missesAfter (s.inj j) onTimeout))).freeInj j).scan := by
    rw [closeInjection_eq, if_neg few, recordedClose, unowned]
  refine ⟨_, closes, rfl, rfl, fun x other => ?_, ?_⟩
  · rw [freeInj, inj_setInj, if_neg other, inj_setInj, if_neg other]
  · rw [freeInj, inj_setInj, if_pos rfl, inj_setInj, if_pos rfl]

/-- The injection that closes for a dose is recorded there; the injector goes on by what the dose owes (R123). -/
theorem State.closeInjection_owned (s : State) (j : Fin 6) (onTimeout : Bool)
    (few : missesAfter (s.inj j) onTimeout ≠ 3) (owned : (s.inj j).owner = some (k, i)) (at_ : s.dose k i = some d)
    (own : d.injector = j) :
    let closed := (s.inj j).closedAt s.now (missesAfter (s.inj j) onTimeout)
    ∃ w : State, s.closeInjection j onTimeout = w.doseCheck k i ∧
      w = { s with additive := w.additive, arms := w.arms } ∧ w.additive.waiting = s.additive.waiting ∧
      (∀ x, x ≠ j → w.inj x = s.inj x) ∧
      (d.owed = 0 ∨ (s.arm k).state = .stopping → s.redosed w k i { d with done := min 65535 (d.done + 1) } ∧
        w.inj j = { closed with state := .claimedIdle }) ∧
      (0 < d.owed → (s.arm k).state ≠ .stopping →
        s.redosed w k i { d with
          done := min 65535 (d.done + 1), owed := d.owed - 1, overflow := if d.owed = 1 then false else d.overflow } ∧
        w.inj j = { closed with
          measured := 0, state := .injecting, open_ := true, windowOpen := true
          timer := some (s.now + d.timeoutMs), windowTimer := none, stroke := d.stroke, ppl := d.ppl
          owner := some (k, i) }) := by
  intro closed
  obtain ⟨recorded, recordedEq⟩ : ∃ r, s.recordedClose j onTimeout = r := ⟨_, rfl⟩
  have writes : recorded = (s.setInj j closed).updDose k i fun d => { d with done := bump 65535 d.done } := by
    rw [← recordedEq, recordedClose, owned]
  obtain ⟨done, -⟩ := (s.setInj j closed).updDose_redosed k i (d := d) at_ fun d => { d with done := bump 65535 d.done }
  rw [← writes] at done
  have inj (x : Fin 6) : recorded.inj x = if x = j then closed else s.inj x := by
    rw [writes]
    exact s.inj_setInj j x closed
  have state : (recorded.arm k).state = (s.arm k).state := by
    rw [writes]
    exact updBatch_arm_state (s.setInj j closed) k k _
  have closes : s.closeInjection j onTimeout = recorded.continueDose j k i := by
    rw [closeInjection_eq, if_neg few, recordedEq, owned]
  have whole : recorded = { s with additive := recorded.additive, arms := recorded.arms } := by rw [writes]; rfl
  have now : recorded.now = s.now := by rw [whole]
  have waiting : recorded.additive.waiting = s.additive.waiting := by rw [writes]; rfl
  have first : s.redosed recorded k i { d with done := min 65535 (d.done + 1) } := redosed_congr rfl rfl done
  obtain ⟨here, -⟩ := id done
  by_cases goes : 0 < d.owed ∧ (s.arm k).state ≠ .stopping
  · let e : DoseRec := { d with done := bump 65535 d.done }
    refine ⟨(recorded.openInjection k i e).updDose k i DoseRec.workOff, ?_, ?_, waiting, fun x other => ?_,
      fun stays => ?_, fun _ _ => ⟨?_, ?_⟩⟩
    · rw [closes, continueDose, here]
      dsimp only
      rw [state, if_pos goes]
    · refine (updDose_eq _ k i _).trans ?_
      rw [openInjection, setInj, whole]
      rfl
    · rw [updDose_eq]
      refine (inj_setInj _ _ _ _).trans ?_
      have differs : x ≠ e.injector := fun same => other (same.trans own)
      rw [if_neg differs, inj, if_neg other]
    · exact absurd stays (by simp [goes.2]; omega)
    · have worked := ((recorded.openInjection k i e).updDose_redosed k i (d := e) here DoseRec.workOff).1
      have figures : DoseRec.workOff e = { d with
          done := min 65535 (d.done + 1), owed := d.owed - 1, overflow := if d.owed = 1 then false else d.overflow } := by
        have marks : (if d.owed - 1 = 0 then false else d.overflow) = if d.owed = 1 then false else d.overflow :=
          if_congr (by omega) rfl rfl
        exact congrArg (fun v => { d with done := min 65535 (d.done + 1), owed := d.owed - 1, overflow := v }) marks
      rw [figures] at worked
      exact redosed_trans first (redosed_congr rfl rfl worked)
    · rw [updDose_eq]
      have same : j = e.injector := own.symm
      refine ((inj_setInj _ _ _ _).trans (if_pos same)).trans ?_
      rw [← same, inj, if_pos rfl, now]
  · refine ⟨recorded.setInj j { recorded.inj j with state := .claimedIdle }, ?_, ?_, waiting, fun x other => ?_,
      fun _ => ⟨redosed_congr rfl rfl first, ?_⟩, fun some_ moving => absurd ⟨some_, moving⟩ goes⟩
    · rw [closes, continueDose, here]
      dsimp only
      rw [state, if_neg goes]
    · rw [setInj, whole]
      rfl
    · rw [inj_setInj, if_neg other, inj, if_neg other]
    · rw [inj_setInj, if_pos rfl, inj, if_pos rfl]

/-! ### The dose check (R125) -/

theorem State.doseCheck_eq {b : Batch} (s : State) (held : (s.arm k).batch = some b) (at_ : s.dose k i = some d) :
    s.doseCheck k i = if d.claimLost ∨ d.done < 5 then s
      else if outOfTolerance (doseDeviation d.measured (doseExpected b.gross d.rate)) d.tolerance then
        if 3 ≤ d.outCount + 1 then
          ((s.updDose k i fun x => { x with outCount := 0 }).raise (.doseAlarm k (i + 1) d.injector
            (doseExpected b.gross d.rate) d.measured
            (doseDeviation d.measured (doseExpected b.gross d.rate)))).raiseDose k d
        else s.updDose k i fun x => { x with outCount := x.outCount + 1 }
      else s.updDose k i fun x => { x with outCount := 0 } := by
  unfold doseCheck
  rw [held, at_]

end

end Sys2Proof.Machine
end

section
/-! PROOFS. The feedback pulse and the dose check (R122, R123, R125). -/

namespace Sys2Proof.Machine

section
variable {s : State} {k : Fin 4} {i : Nat} {d : DoseRec}

/-- The pulse measured, before the stroke is tested (R122). -/
def State.measuredPulse (s : State) (j : Fin 6) (inc rem : Nat) : State :=
  let t := (s.setInj j { s.inj j with remainder := rem, measured := (s.inj j).measured + inc }).creditAdditive j inc
  match (s.inj j).owner with
  | some (k, i) => t.updDose k i fun d => { d with measured := d.measured + inc }
  | none => t

theorem State.feedback_of_stray {j : Fin 6} (shut : (s.inj j).windowOpen = false) :
    s.feedback j = s.setInj j { s.inj j with stray := bump 65535 (s.inj j).stray } := by
  unfold feedback
  exact if_neg (by simp [shut])

theorem State.feedback_of_open {j : Fin 6} {inc rem : Nat} (isOpen : (s.inj j).windowOpen = true)
    (share : pulseShare (10000000 + (s.inj j).remainder) (s.inj j).ppl = (inc, rem)) : s.feedback j =
      if (s.inj j).open_ ∧ (s.inj j).stroke ≤ (s.inj j).measured + inc then
        (s.measuredPulse j inc rem).closeInjection j false else s.measuredPulse j inc rem := by
  unfold feedback
  refine (if_pos isOpen).trans ?_
  rw [share]
  rfl

theorem State.inj_measuredPulse (s : State) (j : Fin 6) (inc rem : Nat) (x : Fin 6) : (s.measuredPulse j inc rem).inj x =
    if x = j then { s.inj j with remainder := rem, measured := (s.inj j).measured + inc } else s.inj x := by
  have written := s.inj_setInj j x { s.inj j with remainder := rem, measured := (s.inj j).measured + inc }
  unfold measuredPulse
  dsimp only
  split
  · exact written
  · exact written

theorem State.measuredPulse_stands (s : State) (j : Fin 6) (inc rem : Nat) : s.measuredPulse j inc rem = { s with
      additive := (s.measuredPulse j inc rem).additive, arms := (s.measuredPulse j inc rem).arms
      custody := { s.custody with
        additive := Vec.set s.custody.additive j ((Vec.get s.custody.additive j).credit inc) } } ∧
    (s.measuredPulse j inc rem).additive.waiting = s.additive.waiting ∧
    ((s.inj j).owner = none → (s.measuredPulse j inc rem).arms = s.arms) := by
  unfold measuredPulse
  dsimp only
  split
  · exact ⟨rfl, rfl, fun unowned => by simp_all⟩
  · exact ⟨rfl, rfl, fun _ => rfl⟩

theorem State.measuredPulse_redosed {j : Fin 6} (owned : (s.inj j).owner = some (k, i)) (at_ : s.dose k i = some d)
    (inc rem : Nat) : s.redosed (s.measuredPulse j inc rem) k i { d with measured := d.measured + inc } := by
  unfold measuredPulse
  dsimp only
  rw [owned]
  refine redosed_congr (s := s) ?_ rfl (updDose_redosed _ k i (d := d) at_ fun d => { d with measured := d.measured + inc }).1
  rfl

theorem pulseShare_of (inc rem num ppl : Nat) (scaled : ppl ≠ 0 → inc = num / ppl ∧ rem = num % ppl)
    (free : ppl = 0 → inc = (Config.zeroScale num).1 % 1000000000000000 ∧ rem = (Config.zeroScale num).2) :
    pulseShare num ppl = (inc, rem) := by
  unfold pulseShare
  split_ifs with zero
  · obtain ⟨rfl, rfl⟩ := free zero
    rfl
  · obtain ⟨rfl, rfl⟩ := scaled zero
    rfl

theorem missesAfter_of_full (x : Injector) : missesAfter x false = 0 := by simp [missesAfter]

theorem outOfTolerance_iff (v : Int) (tolerance : Nat) :
    outOfTolerance v tolerance = true ↔ v < -(tolerance : Int) ∨ (tolerance : Int) < v := by
  simp [outOfTolerance, or_comm]

theorem exec_feedbackPulse_of_live (live : s.live = true) (j : Fin 6) :
    exec (.feedbackPulse j) s = .next (s.feedback j) := by
  change execFeedbackPulse j s = _
  rw [execFeedbackPulse, whenPowered_of_live s live]

end

/-- The dose check of R125 by its cases. -/
theorem State.doseCheck_checks (s : State) (k : Fin 4) (i : Nat) (b : Batch) (d : DoseRec)
    (held : (s.arm k).batch = some b) (at_ : s.dose k i = some d) :
    let e := b.gross * d.rate / 100000
    let v := if e = 0 then Config.zeroExpected d.measured else (((d.measured : Int) - e) * 100).tdiv e
    (d.claimLost = true ∨ d.done < 5 → s.doseCheck k i = s) ∧
    (d.claimLost = false → 5 ≤ d.done →
      (-(d.tolerance : Int) ≤ v → v ≤ d.tolerance →
        s.redosed (s.doseCheck k i) k i { d with outCount := 0 } ∧
        s.doseCheck k i = { s with arms := (s.doseCheck k i).arms }) ∧
      (v < -(d.tolerance : Int) ∨ (d.tolerance : Int) < v →
        (d.outCount < 2 → s.redosed (s.doseCheck k i) k i { d with outCount := d.outCount + 1 } ∧
          s.doseCheck k i = { s with arms := (s.doseCheck k i).arms }) ∧
        (2 ≤ d.outCount → ∃ w : State, s.doseCheck k i = w.raiseDose k d ∧
          w = { s with arms := w.arms, uport := (s.raise (.doseAlarm k (i + 1) d.injector e d.measured v)).uport } ∧
          s.redosed w k i { d with outCount := 0 }))) := by
  intro e v
  have checks := s.doseCheck_eq held at_
  have deviation : doseDeviation d.measured (doseExpected b.gross d.rate) = v := rfl
  have expected : doseExpected b.gross d.rate = e := rfl
  rw [deviation, expected] at checks
  obtain ⟨cleared, clearedEq⟩ := s.updDose_redosed k i at_ fun x => { x with outCount := 0 }
  obtain ⟨counted, countedEq⟩ := s.updDose_redosed k i at_ fun x => { x with outCount := x.outCount + 1 }
  refine ⟨fun early => by rw [checks, if_pos early], fun claimed late => ?_⟩
  rw [if_neg (by simp [claimed]; omega)] at checks
  refine ⟨fun least most => ?_, fun out => ⟨fun few => ?_, fun many => ?_⟩⟩
  · have inside : ¬outOfTolerance v d.tolerance = true := fun out => by
      have := (outOfTolerance_iff v d.tolerance).1 out
      omega
    rw [checks, if_neg inside]
    exact ⟨cleared, clearedEq⟩
  · rw [checks, if_pos ((outOfTolerance_iff v d.tolerance).2 out), if_neg (by omega)]
    exact ⟨counted, countedEq⟩
  · rw [if_pos ((outOfTolerance_iff v d.tolerance).2 out), if_pos (by omega)] at checks
    refine ⟨_, checks, ?_, redosed_congr rfl ?_ cleared⟩
    · rw [raise_eq_raised, raise_eq_raised]
      rfl
    · exact (raise_frame _ _).2.2.2.2.2.2.2.2.1

/-- Settles O38: the pulse measured, then the injection that its stroke closes. -/
theorem feedbackPulse : Obligations.FeedbackPulse := by
  refine ⟨fun s j live => ⟨fun shut => ?_, fun inc rem scaled free isOpen => ?_⟩,
    fun s k i b d held at_ => s.doseCheck_checks k i b d held at_⟩
  · have run := exec_feedbackPulse_of_live live j
    rw [State.feedback_of_stray shut] at run
    refine ⟨_, run, rfl, rfl,
      fun x other => ?_, ?_⟩
    · rw [State.inj_setInj, if_neg other]
    · rw [State.inj_setInj, if_pos rfl]
      rfl
  · have run := exec_feedbackPulse_of_live live j
    rw [State.feedback_of_open isOpen (pulseShare_of inc rem _ _ scaled free)] at run
    have inj := s.inj_measuredPulse j inc rem
    obtain ⟨whole, waiting, arms⟩ := s.measuredPulse_stands j inc rem
    have measured := fun (k : Fin 4) (i : Nat) (d : DoseRec) (owned : (s.inj j).owner = some (k, i))
      (at_ : s.dose k i = some d) => State.measuredPulse_redosed owned at_ inc rem
    generalize s.measuredPulse j inc rem = t at *
    have own := inj j
    rw [if_pos rfl] at own
    have now : t.now = s.now := by rw [whole]
    intro custody
    refine ⟨fun short => ?_, fun filling full => ⟨fun unowned => ?_, fun k i d owned at_ named => ?_⟩⟩
    · rw [if_neg fun h => short.elim (fun shut => by simp [shut] at h) fun below => by omega] at run
      refine ⟨t, run, whole, waiting, fun x other => by rw [inj, if_neg other], own, arms, measured⟩
    · rw [if_pos ⟨filling, full⟩] at run
      obtain ⟨w, closes, eq, waits, others, mine⟩ := t.closeInjection_unowned j false
        (by rw [missesAfter_of_full]; decide) (by rw [own]; exact unowned)
      have stands : t.arms = s.arms := arms unowned
      rw [closes] at run
      rw [missesAfter_of_full, own, now] at mine
      refine ⟨w, run, ?_, waits.trans waiting, fun x other => (others x other).trans ?_, mine⟩
      · rw [eq, whole, stands]
      · rw [inj, if_neg other]
    · rw [if_pos ⟨filling, full⟩] at run
      have dosed := measured k i d owned at_
      obtain ⟨w, closes, eq, waits, others, rests, goes⟩ := t.closeInjection_owned j false
        (by rw [missesAfter_of_full]; decide) (by rw [own]; exact owned) dosed.1 named
      have state : (t.arm k).state = (s.arm k).state := by
        obtain ⟨-, -, -, arm, -⟩ := dosed
        exact (congrArg Arm.state arm :)
      rw [missesAfter_of_full, own, now, state] at rests goes
      rw [closes] at run
      refine ⟨w, run, ?_, waits.trans waiting, fun x other => (others x other).trans ?_, fun stays => ?_,
        fun some_ moving => ?_⟩
      · rw [eq, whole]
      · rw [inj, if_neg other]
      · obtain ⟨redosed, mine⟩ := rests stays
        exact ⟨State.redosed_trans dosed redosed, mine⟩
      · obtain ⟨redosed, mine⟩ := goes some_ moving
        exact ⟨State.redosed_trans dosed redosed, mine⟩

end Sys2Proof.Machine
end

section
/-! SUPPORT. The third miss of an injector; a start refused after its grant; DOSE under its failure action (R93, R116, R118,
R124, R126). -/

namespace Sys2Proof.Machine

section
variable (s : State)

/-! ### The third miss (R124) -/

/-- The injector's entry after the part took it out of service. -/
theorem State.injEntry_outOfService (canonical : s.canonical = true) (j x : Fin 6) : (s.outOfService j).injEntry x =
    if x = j then { s.injEntry j with inService := false } else s.injEntry x := by
  obtain ⟨-, -, -, -, injectors, -⟩ := s.canonical_iff.1 canonical
  have same : x.val = j.val ↔ x = j := Fin.val_inj
  unfold outOfService
  dsimp only
  by_cases damaged : (tabGet emptyInjector s.tables.injectors j.val).damaged = true
  · rw [if_pos damaged]
    split_ifs with here
    · have reads : s.injEntry j = emptyInjector := by
        rw [injEntry, tabRead]
        exact if_pos damaged
      rw [here, reads]
      rfl
    · rfl
  · rw [if_neg damaged]
    refine (tabRead_tabSet injectors j.val x.val _).trans ?_
    simp only [same]
    split_ifs with here
    · have reads : s.injEntry j = (tabGet emptyInjector s.tables.injectors j.val).entry := by
        rw [injEntry, tabRead]
        exact if_neg damaged
      rw [reads]
    · rfl

/-- The state after the injector's own part of a failure: INJECTOR raised, the entry out of service, the injector FREE. -/
def State.failedInj (s : State) (j : Fin 6) : State :=
  ((s.raiseFault .injector (s.inj j).claimant (.injector j) false none).outOfService j).freeInj j

/-- The dose whose claim is lost, with its batch's mark. -/
def State.lostClaim (s : State) (owner : Option (Fin 4 × Nat)) : State :=
  match owner with
  | some (k, i) => (s.updDose k i fun d => { d with claimLost := true }).updBatch k fun b =>
      { b with flags := { b.flags with injectorLost := true } }
  | none => s

/-- DOSE raised for the dose whose claim is lost. -/
def State.lostDose (s : State) (owner : Option (Fin 4 × Nat)) : State :=
  match owner with
  | some (k, i) =>
    match s.dose k i with
    | some d => s.raiseDose k d
    | none => s
  | none => s

theorem State.injectorFailed_eq (j : Fin 6) (owner : Option (Fin 4 × Nat)) :
    s.injectorFailed j owner = (((s.failedInj j).lostClaim owner).lostDose owner).scan := by
  unfold injectorFailed lostDose lostClaim
  cases owner with
  | none => rfl
  | some o => rfl

theorem State.outOfService_eq (j : Fin 6) :
    s.outOfService j = { s with tables := { s.tables with injectors := (s.outOfService j).tables.injectors } } := by
  unfold outOfService
  dsimp only
  split_ifs <;> rfl

theorem State.injEntry_congr {t : State} (injectors : t.tables.injectors = s.tables.injectors) (x : Fin 6) :
    t.injEntry x = s.injEntry x := by rw [injEntry, injectors, injEntry]

theorem State.injEntry_failedInj (canonical : s.canonical = true) (j x : Fin 6) : (s.failedInj j).injEntry x =
    if x = j then { s.injEntry j with inService := false } else s.injEntry x := by
  have tables := s.raiseFault_tables .injector (s.inj j).claimant (.injector j) false none
  unfold failedInj
  generalize s.raiseFault .injector (s.inj j).claimant (.injector j) false none = t at tables
  have entries := t.injEntry_outOfService (canonical_congr tables ▸ canonical) j x
  rw [s.injEntry_congr (t := t) (by rw [tables]) j, s.injEntry_congr (t := t) (by rw [tables]) x] at entries
  exact entries

theorem State.fault_failedInj (j : Fin 6) (c : FaultClass) : (s.failedInj j).fault c =
    if c = .injector then s.struck .injector (s.inj j).claimant (s.response .injector none) false else s.fault c := by
  have raised := s.fault_raiseFault .injector c (s.inj j).claimant (.injector j) false none
  unfold failedInj
  generalize s.raiseFault .injector (s.inj j).claimant (.injector j) false none = t at raised
  rw [← raised]
  exact fault_congr (by rw [outOfService_eq]; rfl) c

theorem State.lostClaim_eq (owner : Option (Fin 4 × Nat)) : s.lostClaim owner = { s with arms :=
    (s.lostClaim owner).arms } := by
  unfold lostClaim
  split <;> rfl

theorem State.lostDose_leaves (owner : Option (Fin 4 × Nat)) : (s.lostDose owner).tables = s.tables ∧
    ∀ c, c ≠ .dose → (s.lostDose owner).fault c = s.fault c := by
  unfold lostDose
  split
  · split
    · refine ⟨?_, fun c other => ?_⟩
      · rw [raiseDose, raiseFault_tables]
        rfl
      · rw [raiseDose, fault_raiseFault, if_neg other]
        rfl
    · exact ⟨rfl, fun _ _ => rfl⟩
  · exact ⟨rfl, fun _ _ => rfl⟩

/-! ### A start refused after its grant (R93, R116) -/

/-- From state `s` to state `t` arm `k` has been granted injectors that were FREE, its dose records `ds`. -/
structure State.Claims (s t : State) (k : Fin 4) (b : Batch) (ds : List DoseRec) : Prop where
  eq : t = { s with
    arms := Vec.set s.arms k { s.arm k with batch := some { b with doses := ds } }
    additive := { s.additive with injectors := t.additive.injectors } }
  freed : ∀ j, ({ t.inj j with
      claimant := none, state := if j ∈ ds.map DoseRec.injector then .free else (t.inj j).state } : Injector) =
    { s.inj j with claimant := none }

variable {s} in
theorem State.Claims.grantDose {t : State} {k : Fin 4} {b : Batch} {ds : List DoseRec} (h : s.Claims t k b ds)
    (r : RecipeEntry) (d : Dose) : ∃ ds', s.Claims (State.grantDose k r t d) k b ds' := by
  cases picked : t.pick k d with
  | none =>
    rw [grantDose_of_none t picked]
    exact ⟨ds, h⟩
  | some i =>
    obtain ⟨-, free⟩ := pick_spec picked
    rw [grantDose_of_some t picked]
    have arm : t.arm k = { s.arm k with batch := some { b with doses := ds } } :=
      (congrArg (fun x : State => x.arm k) h.eq).trans (Vec.get_set_same ..)
    have written : ((t.setInj i { t.inj i with state := .claimedIdle, claimant := some k }).updBatch k fun b =>
        { b with doses := b.doses ++ [t.doseGiven r d i] }).arms =
        Vec.set s.arms k { s.arm k with batch := some { b with doses := ds ++ [t.doseGiven r d i] } } := by
      refine (congrArg (fun a : Arm => Vec.set t.arms k { a with
        batch := a.batch.map fun b => { b with doses := b.doses ++ [t.doseGiven r d i] } }) arm).trans ?_
      rw [congrArg State.arms h.eq]
      exact Vec.set_set ..
    refine ⟨ds ++ [t.doseGiven r d i], ?_, fun j => ?_⟩
    · rw [← written]
      have := h.eq
      generalize hx : (t.setInj i { t.inj i with state := .claimedIdle, claimant := some k }).updBatch k
        (fun b => { b with doses := b.doses ++ [t.doseGiven r d i] }) = x at *
      have parts : x = { t with arms := x.arms, additive := { t.additive with injectors := x.additive.injectors } } := by
        rw [← hx]
        rfl
      refine parts.trans ?_
      rw [this]
    · have inj : ((t.setInj i { t.inj i with state := .claimedIdle, claimant := some k }).updBatch k fun b =>
          { b with doses := b.doses ++ [t.doseGiven r d i] }).inj j =
          if j = i then { t.inj i with state := .claimedIdle, claimant := some k } else t.inj j := t.inj_setInj i j _
      have injector : (t.doseGiven r d i).injector = i := rfl
      rw [inj, ← h.freed j]
      by_cases here : j = i
      · subst here
        simp [injector, free]
      · simp [here, injector]

variable {s} in
/-- A grant to a batch without dose records, whatever its recipe (R116). -/
theorem State.grant_claims {k : Fin 4} {b : Batch} (held : (s.arm k).batch = some b) (undosed : b.doses = [])
    (recipe : Option (Fin 16)) : ∃ ds, s.Claims (s.grant k recipe) k b ds := by
  have start : s.Claims s k b [] := by
    refine ⟨?_, fun j => by simp⟩
    have same : ({ s.arm k with batch := some { b with doses := [] } } : Arm) = s.arm k := by
      rw [← undosed, ← held]
    rw [same, arm, Vec.set_get_self]
  unfold grant
  split
  · rename_i q
    have each : ∀ (l : List Dose) (t : State) (ds : List DoseRec), s.Claims t k b ds →
        ∃ ds', s.Claims (l.foldl (State.grantDose k (s.recipe q)) t) k b ds' := fun l => by
      induction l with
      | nil => exact fun t ds h => ⟨ds, h⟩
      | cons d l ih =>
        intro t ds h
        obtain ⟨ds', h'⟩ := h.grantDose (s.recipe q) d
        exact ih _ ds' h'
    exact each _ s [] start
  · exact ⟨[], start⟩

/-- Injectors freed one after the other. -/
theorem State.foldl_freeInj (l : List DoseRec) : l.foldl (fun t d => t.freeInj d.injector) s = { s with
      additive := { s.additive with injectors := (l.foldl (fun t d => t.freeInj d.injector) s).additive.injectors } } ∧
    ∀ j, (l.foldl (fun t d => t.freeInj d.injector) s).inj j =
      if j ∈ l.map DoseRec.injector then { s.inj j with state := .free, claimant := none } else s.inj j := by
  induction l generalizing s with
  | nil => exact ⟨rfl, fun j => by simp⟩
  | cons d l ih =>
    obtain ⟨eq, freed⟩ := ih (s.freeInj d.injector)
    refine ⟨eq, fun j => ?_⟩
    rw [List.foldl_cons, freed, freeInj, inj_setInj]
    by_cases here : j = d.injector
    · simp [here]
    · simp [here]

/-- A grant taken back leaves the arm and the injectors as they stood, FREE ones without a claimant (R116). -/
theorem State.Claims.revoke {s t : State} {k : Fin 4} {b : Batch} {ds : List DoseRec} (h : s.Claims t k b ds)
    (held : (s.arm k).batch = some b) (undosed : b.doses = []) :
    t.revoke k = { s with additive := { s.additive with injectors := (t.revoke k).additive.injectors } } ∧
    ∀ j, ({ (t.revoke k).inj j with claimant := none } : Injector) = { s.inj j with claimant := none } := by
  have arm : t.arm k = { s.arm k with batch := some { b with doses := ds } } :=
    (congrArg (fun x : State => x.arm k) h.eq).trans (Vec.get_set_same ..)
  have revokes : t.revoke k = (ds.foldl (fun t d => t.freeInj d.injector) t).updBatch k fun b => { b with doses := [] } := by
    unfold State.revoke
    rw [arm]
  obtain ⟨eq, freed⟩ := foldl_freeInj t ds
  rw [revokes]
  generalize ds.foldl (fun t d => t.freeInj d.injector) t = v at eq freed
  have vArm : v.arm k = t.arm k := by rw [eq]; rfl
  have arms : (v.updBatch k fun b => { b with doses := [] }).arms = s.arms := by
    have same : ({ s.arm k with batch := some { b with doses := [] } } : Arm) = s.arm k := by
      rw [← undosed, ← held]
    refine (congrArg (fun a : Arm => Vec.set v.arms k { a with
      batch := a.batch.map fun b => { b with doses := [] } }) (vArm.trans arm)).trans ?_
    rw [congrArg State.arms eq, congrArg State.arms h.eq]
    refine (Vec.set_set ..).trans ?_
    exact (congrArg (Vec.set s.arms k) same).trans (Vec.set_get_self _ _)
  have injs : ∀ j, (v.updBatch k fun b => { b with doses := [] }).inj j = v.inj j := fun _ => rfl
  refine ⟨?_, fun j => ?_⟩
  · have parts : (v.updBatch k fun b => { b with doses := [] }) = { v with arms := s.arms } := by
      rw [← arms]
      rfl
    rw [parts, eq, h.eq]
  · rw [injs, freed, ← h.freed j]
    split_ifs <;> rfl

/-- A start refused after its grant (R93, R118). -/
theorem State.scanArm_of_revoked {s : State} {k : Fin 4} {b : Batch} (waits : (s.arm k).state = .waitInjector)
    (held : (s.arm k).batch = some b) (undosed : b.doses = []) (granted : s.evaluate k b.recipe = .granted)
    {r : BatchReason} (refused : s.startRefusal k = some r) : s.sentBack (s.scanArm k) k b r := by
  obtain ⟨ds, claims⟩ := (s.unwait k).grant_claims (k := k) held undosed b.recipe
  obtain ⟨revoked, injectors⟩ := claims.revoke held undosed
  have refusal : ((s.unwait k).grant k b.recipe).startRefusal k = some r := by
    obtain ⟨-, -, -, tables, -, safety, -, volumes, -⟩ := (s.unwait k).grant_frame k b.recipe
    rw [← refused]
    unfold startRefusal armLatched permitted vol
    simp only [fault, input, safety, volumes]
    rfl
  have runs : s.scanArm k =
      (((((s.unwait k).grant k b.recipe).revoke k).backToReady k b.preset).refuseGrant k b.source r) := by
    unfold scanArm
    rw [waits, held]
    dsimp only
    rw [granted]
    dsimp only
    rw [refusal]
  generalize ((s.unwait k).grant k b.recipe).revoke k = v at *
  have back := ({ s with additive := { s.additive with injectors := v.additive.injectors } } : State).sendBack_sentBack
    (b := b) waits r
  have same : ({ s with additive := { s.additive with injectors := v.additive.injectors } } : State).unwait k = v := by
    rw [revoked]
    rfl
  have told : (({ s with additive := { s.additive with injectors := v.additive.injectors } } : State).raise
      (.batchRefused k.val .start b.source r)).uport = (s.raise (.batchRefused k.val .start b.source r)).uport := by
    rw [raise_eq_raised, raise_eq_raised]
  rw [same, ← runs] at back
  obtain ⟨arm, others, waiting, claimants, session, event, verdict, stands⟩ := back
  refine ⟨arm, others, waiting, fun j => (claimants j).trans (injectors j), session,
    event.trans told, verdict.trans ?_, stands⟩
  cases b.source with
  | server => rfl
  | keypad a =>
    dsimp only
    rw [tellKeypad_eq_pushed, tellKeypad_eq_pushed]
    rfl

end

end Sys2Proof.Machine
end

section
/-! PROOFS. The injection timeout, the third miss, the end of the feedback window, the scan, and DOSE under its failure
action (R118, R121, R123, R124, R126). -/

namespace Sys2Proof.Machine

section
variable {s : State} {k : Fin 4} {i : Nat} {d : DoseRec}

theorem exec_injectionTimeout_of_live (live : s.live = true) (j : Fin 6) : exec (.injectionTimeout j) s =
    .next (if (s.inj j).timer.isSome then s.closeInjection j true else s) := by
  change execInjectionTimeout j s = _
  rw [execInjectionTimeout, whenPowered_of_live s live]

theorem exec_feedbackWindowClose_of_live (live : s.live = true) (j : Fin 6) : exec (.feedbackWindowClose j) s =
    .next (if (s.inj j).windowTimer.isSome then
      s.setInj j { s.inj j with windowOpen := false, windowTimer := none, owner := none } else s) := by
  change execFeedbackWindowClose j s = _
  rw [execFeedbackWindowClose, whenPowered_of_live s live]

/-! ### The third miss -/

theorem State.recordedClose_stands (s : State) (j : Fin 6) : s.recordedClose j true = { s with
      additive := (s.recordedClose j true).additive, arms := (s.recordedClose j true).arms } ∧
    (s.recordedClose j true).additive.waiting = s.additive.waiting ∧
    (∀ x, (s.recordedClose j true).inj x =
      if x = j then (s.inj j).closedAt s.now (missesAfter (s.inj j) true) else s.inj x) ∧
    ((s.inj j).owner = none → (s.recordedClose j true).arms = s.arms) := by
  have written (x : Fin 6) := s.inj_setInj j x ((s.inj j).closedAt s.now (missesAfter (s.inj j) true))
  unfold recordedClose
  dsimp only
  split
  · exact ⟨rfl, rfl, written, fun unowned => by simp_all⟩
  · exact ⟨rfl, rfl, written, fun _ => rfl⟩

/-- The records and the entries after a third miss, whatever the response (R124). -/
theorem State.closeInjection_fails (s : State) (j : Fin 6) (canonical : s.canonical = true)
    (third : missesAfter (s.inj j) true = 3) :
    (s.closeInjection j true).injEntry j = { s.injEntry j with inService := false } ∧
    (∀ x, x ≠ j → (s.closeInjection j true).injEntry x = s.injEntry x) ∧
    (s.closeInjection j true).fault .injector =
      s.struck .injector (s.inj j).claimant (s.response .injector none) false ∧
    ∀ c, c ≠ .injector → c ≠ .dose → (s.closeInjection j true).fault c = s.fault c := by
  obtain ⟨whole, -, inj, -⟩ := s.recordedClose_stands j
  have own : ((s.recordedClose j true).inj j).claimant = (s.inj j).claimant := by
    rw [inj, if_pos rfl]
    rfl
  have closes : s.closeInjection j true =
      ((((s.recordedClose j true).failedInj j).lostClaim (s.inj j).owner).lostDose (s.inj j).owner).scan := by
    rw [closeInjection_eq, if_pos third, injectorFailed_eq]
  generalize s.recordedClose j true = t at *
  have entries := t.injEntry_failedInj (canonical_congr (s := s) (t := t) (by rw [whole]) ▸ canonical) j
  have faults := t.fault_failedInj j
  generalize t.failedInj j = v at *
  have kept := v.lostClaim_eq (s.inj j).owner
  obtain ⟨tables, records⟩ := (v.lostClaim (s.inj j).owner).lostDose_leaves (s.inj j).owner
  have entry (x : Fin 6) : (s.closeInjection j true).injEntry x = v.injEntry x := by
    refine v.injEntry_congr ?_ x
    rw [closes, (scan_frame _).2.2.2.1, tables, kept]
  have fault (c : FaultClass) (other : c ≠ .dose) : (s.closeInjection j true).fault c = v.fault c := by
    have scanned : (s.closeInjection j true).fault c =
        ((v.lostClaim (s.inj j).owner).lostDose (s.inj j).owner).fault c := by
      refine fault_congr ?_ c
      rw [closes]
      exact (scan_frame _).2.2.2.2.2.2.1
    rw [scanned, records c other]
    exact fault_congr (by rw [kept]) c
  have same (x : Fin 6) : t.injEntry x = s.injEntry x := s.injEntry_congr (t := t) (by rw [whole]) x
  have standing (c : FaultClass) : t.fault c = s.fault c := fault_congr (by rw [whole]) c
  refine ⟨?_, fun x other => ?_, ?_, fun c notInjector notDose => ?_⟩
  · rw [entry, entries, if_pos rfl, same]
  · rw [entry, entries, if_neg other, same]
  · rw [fault _ (by decide), faults, if_pos rfl, own, response_congr s (by rw [whole])]
    exact s.struck_of_stands (standing _) (by rw [whole]) _ _ _
  · rw [fault c notDose, faults, if_neg notInjector, standing]

/-- The dose of a lost claim, and its batch's mark (R124). -/
theorem State.lostClaim_marks (at_ : s.dose k i = some d) :
    (s.lostClaim (some (k, i))).dose k i = some { d with claimLost := true } ∧
    (∀ m, m ≠ i → (s.lostClaim (some (k, i))).dose k m = s.dose k m) ∧
    (∀ m, m ≠ k → (s.lostClaim (some (k, i))).arm m = s.arm m) ∧
    { (s.lostClaim (some (k, i))).arm k with batch := none } = { s.arm k with batch := none } ∧
    ((s.lostClaim (some (k, i))).arm k).batch.map (fun b => { b with doses := [] }) =
      (s.arm k).batch.map fun b => { b with doses := [], flags := { b.flags with injectorLost := true } } := by
  obtain ⟨lost, others, arms, arm, batch⟩ := (s.updDose_redosed k i at_ fun d => { d with claimLost := true }).1
  unfold lostClaim
  dsimp only
  generalize s.updDose k i (fun d => { d with claimLost := true }) = t at *
  have own : (t.updBatch k fun b => { b with flags := { b.flags with injectorLost := true } }).arm k = { t.arm k with
      batch := (t.arm k).batch.map fun b => { b with flags := { b.flags with injectorLost := true } } } := by
    rw [arm_updBatch, if_pos rfl]
  have doses (m : Nat) : (t.updBatch k fun b => { b with flags := { b.flags with injectorLost := true } }).dose k m =
      t.dose k m := by
    rw [dose, own, dose]
    cases (t.arm k).batch <;> rfl
  refine ⟨(doses i).trans lost, fun m other => (doses m).trans (others m other), fun m other => ?_, ?_, ?_⟩
  · rw [arm_updBatch, if_neg other, arms m other]
  · rw [own]
    exact arm
  · rw [own]
    have marked := congrArg (Option.map fun b : Batch => { b with flags := { b.flags with injectorLost := true } }) batch
    simp only [Option.map_map] at marked ⊢
    exact marked

/-- The injector's part of a failure under REPORT (R39, R124). -/
theorem State.failedInj_of_report (s : State) (j : Fin 6) (mode : (s.policy .injector).mode = .report) :
    s.failedInj j = { s with
      tables := { s.tables with injectors := (s.failedInj j).tables.injectors }
      safety := { s.safety with faults := (s.failedInj j).safety.faults }
      uport := (s.announced .injector (s.inj j).claimant (.injector j) .report false).uport
      additive := (s.failedInj j).additive } ∧
    (s.failedInj j).additive.waiting = s.additive.waiting ∧
    ∀ x, (s.failedInj j).inj x = if x = j then { s.inj j with state := .free, claimant := none } else s.inj x := by
  have raises := s.raiseFault_of_report (c := .injector) (by decide) (by decide) (s.response_of_report mode none)
    (s.inj j).claimant (.injector j) false
  unfold failedInj
  rw [raises, outOfService_eq]
  exact ⟨rfl, rfl, fun x => s.inj_setInj j x _⟩

/-- The third miss under REPORT, before DOSE is raised and the list scanned (R124). -/
theorem State.closeInjection_fails_of_report (s : State) (j : Fin 6) (canonical : s.canonical = true)
    (third : missesAfter (s.inj j) true = 3) (mode : (s.policy .injector).mode = .report) :
    ∃ w : State,
      w = { s with
        tables := { s.tables with injectors := w.tables.injectors }
        safety := { s.safety with faults := w.safety.faults }, uport := w.uport, additive := w.additive
        arms := w.arms } ∧
      w.injEntry j = { s.injEntry j with inService := false } ∧ (∀ x, x ≠ j → w.injEntry x = s.injEntry x) ∧
      w.inj j = { (s.inj j).closedAt s.now (missesAfter (s.inj j) true) with state := .free, claimant := none } ∧
      (∀ x, x ≠ j → w.inj x = s.inj x) ∧
      w.additive.waiting = s.additive.waiting ∧ (∀ c, c ≠ .injector → w.fault c = s.fault c) ∧
      (w.fault .injector).count = min 255 ((s.fault .injector).count + 1) ∧
      (w.fault .injector).armsNamed = joinOpt (s.fault .injector).armsNamed (s.inj j).claimant ∧
      (w.fault .injector).latch = (s.fault .injector).latch ∧
      w.uport = (if (s.policy .injector).mask then s else s.raise (.faultRaised .injector (s.inj j).claimant
        (.injector j) (min 255 ((s.fault .injector).count + 1)) .report false)).uport ∧
      ((s.inj j).owner = none → w.arms = s.arms ∧ s.closeInjection j true = w.scan) ∧
      (∀ (k : Fin 4) (i : Nat) (d : DoseRec), (s.inj j).owner = some (k, i) → s.dose k i = some d →
        s.closeInjection j true = (w.raiseDose k d).scan ∧
        w.dose k i = some { d with done := min 65535 (d.done + 1), claimLost := true } ∧
        (∀ m, m ≠ i → w.dose k m = s.dose k m) ∧ (∀ m, m ≠ k → w.arm m = s.arm m) ∧
        { w.arm k with batch := none } = { s.arm k with batch := none } ∧
        (w.arm k).batch.map (fun b => { b with doses := [] }) = (s.arm k).batch.map fun b =>
          { b with doses := [], flags := { b.flags with injectorLost := true } }) := by
  obtain ⟨whole, waiting, inj, unmoved⟩ := s.recordedClose_stands j
  have closes : s.closeInjection j true =
      ((((s.recordedClose j true).failedInj j).lostClaim (s.inj j).owner).lostDose (s.inj j).owner).scan := by
    rw [closeInjection_eq, if_pos third, injectorFailed_eq]
  have recorded (k : Fin 4) (i : Nat) (d : DoseRec) (owned : (s.inj j).owner = some (k, i)) (at_ : s.dose k i = some d) :
      s.redosed (s.recordedClose j true) k i { d with done := min 65535 (d.done + 1) } := by
    unfold recordedClose
    dsimp only
    rw [owned]
    exact redosed_congr (s := s) rfl rfl (updDose_redosed _ k i (d := d) at_ fun d => { d with done := bump 65535 d.done }).1
  generalize s.recordedClose j true = t at *
  have own := inj j
  rw [if_pos rfl] at own
  have tables : t.tables = s.tables := by rw [whole]
  have tFault (c : FaultClass) : t.fault c = s.fault c := fault_congr (by rw [whole]) c
  have entries := t.injEntry_failedInj (canonical_congr (s := s) (t := t) tables ▸ canonical) j
  have faults := t.fault_failedInj j
  have tMode : (t.policy .injector).mode = .report := by
    rw [policy, tables]
    exact mode
  obtain ⟨failed, waits, frees⟩ := t.failedInj_of_report j tMode
  have claimant : (t.inj j).claimant = (s.inj j).claimant := by
    rw [own]
    rfl
  have announces : (t.announced .injector (t.inj j).claimant (.injector j) .report false).uport =
      (s.announced .injector (s.inj j).claimant (.injector j) .report false).uport := by
    rw [claimant]
    exact s.announced_uport tables (tFault _) (by rw [whole]) (by rw [whole]) _ _ _ _
  rw [t.response_of_report tMode, claimant] at faults
  rw [announces] at failed
  generalize t.failedInj j = v at *
  have kept := v.lostClaim_eq (s.inj j).owner
  have wFault (c : FaultClass) : (v.lostClaim (s.inj j).owner).fault c = v.fault c := fault_congr (by rw [kept]) c
  have wInj (x : Fin 6) : (v.lostClaim (s.inj j).owner).inj x = v.inj x := by
    rw [State.inj, kept]
    rfl
  have wEntry (x : Fin 6) : (v.lostClaim (s.inj j).owner).injEntry x = v.injEntry x := v.injEntry_congr (by rw [kept]) x
  have sEntry (x : Fin 6) : t.injEntry x = s.injEntry x := s.injEntry_congr (by rw [tables]) x
  have injectorFault : v.fault .injector = s.struck .injector (s.inj j).claimant .report false := by
    rw [faults, if_pos rfl]
    exact s.struck_of_stands (tFault _) (by rw [whole]) _ _ _
  refine ⟨v.lostClaim (s.inj j).owner, ?_, ?_, fun x other => ?_, ?_, fun x other => ?_, ?_, fun c other => ?_, ?_, ?_, ?_, ?_,
    fun unowned => ?_, fun k i d owned at_ => ?_⟩
  · generalize v.lostClaim (s.inj j).owner = w at kept
    rw [kept, failed, whole]
  · rw [wEntry, entries, if_pos rfl, sEntry]
  · rw [wEntry, entries, if_neg other, sEntry]
  · rw [wInj, frees, if_pos rfl, own]
  · rw [wInj, frees, if_neg other, inj, if_neg other]
  · rw [kept]
    exact waits.trans waiting
  · rw [wFault, faults, if_neg other, tFault]
  · rw [wFault, injectorFault]
    rfl
  · rw [wFault, injectorFault]
    rfl
  · rw [wFault, injectorFault]
    rfl
  · rw [kept, failed]
    rfl
  · rw [unowned] at closes ⊢
    refine ⟨?_, closes⟩
    rw [← unmoved unowned]
    exact (congrArg State.arms failed :)
  · obtain ⟨done, doses, arms, arm, batch⟩ := recorded k i d owned at_
    have vArms : v.arms = t.arms := by rw [failed]
    obtain ⟨lost, doses', arms', arm', batch'⟩ := v.lostClaim_marks
      (d := { d with done := min 65535 (d.done + 1) }) (k := k) (i := i) (by rw [dose_congr vArms]; exact done)
    rw [owned] at closes ⊢
    refine ⟨?_, lost, fun m other => ?_, fun m other => ?_, ?_, ?_⟩
    · rw [closes, lostDose, lost]
      rfl
    · rw [doses' m other, dose_congr vArms, doses m other]
    · rw [arms' m other, arm_congr vArms, arms m other]
    · rw [arm', arm_congr vArms]
      exact arm
    · rw [batch', arm_congr vArms]
      have marked := congrArg (Option.map fun b : Batch => { b with flags := { b.flags with injectorLost := true } }) batch
      simp only [Option.map_map] at marked ⊢
      exact marked

end

end Sys2Proof.Machine
end

section
/-! PROOFS. DOSE under its failure action, and the additive unit's timeouts and scans (R118, R121, R123, R124, R126). -/

namespace Sys2Proof.Machine

section
variable {s : State} {k : Fin 4} {b : Batch} {d : DoseRec}

/-- The response to DOSE under the policy RECIPE (R37, R126). -/
theorem State.response_dose (mode : (s.policy .dose).mode = .recipe) (a : FailureAction) :
    s.response .dose (some a) = if a = .stopArm then .stopArm else .report := by
  unfold response
  rw [mode]
  cases a <;> rfl

/-- The batch marked with DOSE. -/
def State.doseMarked (s : State) (k : Fin 4) (b : Batch) : State :=
  s.setArm k { s.arm k with batch := some { b with flags := { b.flags with doseFault := true } } }

theorem State.arm_doseMarked (s : State) (k : Fin 4) (b : Batch) (m : Fin 4) : (s.doseMarked k b).arm m =
    if m = k then { s.arm k with batch := some { b with flags := { b.flags with doseFault := true } } } else s.arm m :=
  s.arm_setArm k m _

/-- DOSE is recorded and announced; under STOP_ARM the arm is stopped (R39, R40, R126). -/
theorem State.raiseDose_eq (held : (s.arm k).batch = some b) (mode : (s.policy .dose).mode = .recipe) :
    s.raiseDose k d =
      let v := s.doseMarked k b
      if d.action = .stopArm then (v.recorded .dose (some k) (.injector d.injector) .stopArm false).faultArm k
      else v.recorded .dose (some k) (.injector d.injector) .report false := by
  have marks : (s.updBatch k fun b => { b with flags := { b.flags with doseFault := true } }) = s.doseMarked k b := by
    rw [updBatch, held]
    rfl
  have response : (s.doseMarked k b).response .dose (some d.action) = if d.action = .stopArm then .stopArm else .report :=
    (response_congr s (t := s.doseMarked k b) rfl .dose (some d.action)).trans (response_dose mode d.action)
  rw [raiseDose, marks]
  dsimp only
  split_ifs with stops
  · rw [if_pos stops] at response
    rw [raiseFault_of_stopArm _ k response, flagMeter_of_other _ (by decide) (by decide)]
  · rw [if_neg stops] at response
    exact raiseFault_of_report _ (by decide) (by decide) response _ _ _

theorem State.raiseDose_raises (s : State) (k : Fin 4) (b : Batch) (d : DoseRec) (held : (s.arm k).batch = some b)
    (mode : (s.policy .dose).mode = .recipe) :
    let u := s.raiseDose k d
    let v := s.setArm k { s.arm k with batch := some { b with flags := { b.flags with doseFault := true } } }
    (∀ m, m ≠ k → u.arm m = s.arm m) ∧ (∀ c, c ≠ .dose → u.fault c = s.fault c) ∧ u.tables = s.tables ∧
    u.custody = s.custody ∧ u.additive = s.additive ∧
    (u.fault .dose).count = min 255 ((s.fault .dose).count + 1) ∧
    (u.fault .dose).armsNamed = joinArm (s.fault .dose).armsNamed k ∧
    u.uport = (if (s.policy .dose).mask then s else s.raise (.faultRaised .dose (some k) (.injector d.injector)
      (min 255 ((s.fault .dose).count + 1)) (if d.action = .stopArm then .stopArm else .report) false)).uport ∧
    (d.action = .continueUntreated → u.arm k = v.arm k ∧ (u.fault .dose).latch = (s.fault .dose).latch ∧
      (u.fault .dose).armsLatched = (s.fault .dose).armsLatched) ∧
    (d.action = .stopArm →
      (u.fault .dose).latch = (if (s.fault .dose).latch = some .stopBay then some .stopBay else some .stopArm) ∧
      (u.fault .dose).armsLatched = joinArm (s.fault .dose).armsLatched k ∧
      u.arm k = if (s.arm k).state.flowing ∨ (s.arm k).state = .suspended then v.stopped k .fault else v.arm k) := by
  intro u v
  have raises : u = _ := raiseDose_eq (d := d) held mode
  have vArm : ∀ m, v.arm m = if m = k then { s.arm k with
    batch := some { b with flags := { b.flags with doseFault := true } } } else s.arm m := s.arm_doseMarked k b
  have vNamed : s.doseMarked k b = v := rfl
  rw [vNamed] at raises
  have vParts : v.now = s.now ∧ v.tables = s.tables ∧ v.custody = s.custody ∧ v.additive = s.additive ∧
      v.uport = s.uport ∧ v.safety = s.safety := ⟨rfl, rfl, rfl, rfl, rfl, rfl⟩
  clear_value v u
  obtain ⟨now, tables, custody, additive, uport, safety⟩ := vParts
  have vFault (c : FaultClass) : v.fault c = s.fault c := fault_congr (by rw [safety]) c
  have struck (m : ResponseMode) : v.struck .dose (some k) m false = s.struck .dose (some k) m false :=
    s.struck_of_stands (vFault _) (by rw [custody]) _ _ _
  have announced (m : ResponseMode) := s.announced_uport (t := v) (c := .dose) tables (vFault _) uport (by rw [custody])
    (some k) (.injector d.injector) m false
  have recorded (m : ResponseMode) (c : FaultClass) :
      (v.recorded .dose (some k) (.injector d.injector) m false).fault c =
        if c = .dose then s.struck .dose (some k) m false else s.fault c := by
    rw [fault_recorded, struck, vFault]
  obtain ⟨m, chosen⟩ : ∃ m, (if d.action = .stopArm then ResponseMode.stopArm else .report) = m := ⟨_, rfl⟩
  have parts : (∀ j, j ≠ k → u.arm j = v.arm j) ∧ u.tables = v.tables ∧ u.custody = v.custody ∧ u.additive = v.additive ∧
      u.uport = (v.announced .dose (some k) (.injector d.injector) m false).uport ∧
      ∀ c, u.fault c = if c = .dose then s.struck .dose (some k) m false else s.fault c := by
    rw [raises, ← chosen]
    by_cases stops : d.action = .stopArm
    · simp only [if_pos stops]
      have same := recorded .stopArm
      obtain ⟨-, tables', -, arms', additive', custody', -, -, -, uport'⟩ :=
        v.recorded_stands .dose (some k) (.injector d.injector) .stopArm false
      generalize v.recorded .dose (some k) (.injector d.injector) .stopArm false = w at *
      refine ⟨fun j other => ?_, ?_, ?_, ?_, ?_, fun c => ?_⟩
      · rw [arm_faultArm, if_neg other, arm_congr arms']
      · simp [tables']
      · simp [custody']
      · simp [additive']
      · simp [uport']
      · rw [← same c]
        exact fault_congr (by simp) c
    · simp only [if_neg stops]
      exact ⟨fun _ _ => rfl, rfl, rfl, rfl, rfl, recorded .report⟩
  obtain ⟨others, uTables, uCustody, uAdditive, uUport, faults⟩ := parts
  rw [chosen]
  refine ⟨fun j other => ?_, fun c other => ?_, uTables.trans tables, uCustody.trans custody, uAdditive.trans additive, ?_, ?_,
    ?_, fun untreated => ⟨?_, ?_, ?_⟩, fun stops => ⟨?_, ?_, ?_⟩⟩
  · rw [others j other, vArm, if_neg other]
  · rw [faults, if_neg other]
  · rw [faults, if_pos rfl]
    rfl
  · rw [faults, if_pos rfl]
    rfl
  · rw [uUport, announced]
    rfl
  · rw [raises, if_neg (by simp [untreated])]
    rfl
  · rw [faults, if_pos rfl, ← chosen, if_neg (by simp [untreated])]
    rfl
  · rw [faults, if_pos rfl, ← chosen, if_neg (by simp [untreated])]
    rfl
  · rw [faults, if_pos rfl, ← chosen, if_pos stops]
    rfl
  · rw [faults, if_pos rfl, ← chosen, if_pos stops]
    rfl
  · rw [raises, if_pos stops, arm_faultArm, if_pos rfl]
    have own : (v.arm k).state = (s.arm k).state := by rw [vArm, if_pos rfl]
    have acts : ∀ w : State, w.now = v.now → w.tables = v.tables → w.arm k = v.arm k → w.faultedArm k =
        if (s.arm k).state.flowing ∨ (s.arm k).state = .suspended then v.stopped k .fault else v.arm k := by
      intro w now tables arm
      unfold faultedArm
      rw [arm, own, stopped_congr now tables arm]
      cases (s.arm k).state <;> simp [ArmState.flowing]
    exact acts _ rfl rfl rfl

/-- What a scan does with a waiting arm (R118). -/
theorem State.scanArm_scans (s : State) (k : Fin 4) (b : Batch) (waits : (s.arm k).state = .waitInjector)
    (held : (s.arm k).batch = some b) (undosed : b.doses = []) :
    (s.evaluate k b.recipe = .wait → s.scanArm k = s) ∧
    (∀ r, s.evaluate k b.recipe = .refused r → s.sentBack (s.scanArm k) k b r) ∧
    (∀ r, s.evaluate k b.recipe = .granted → s.startRefusal k = some r → s.sentBack (s.scanArm k) k b r) ∧
    (s.evaluate k b.recipe = .granted → s.startRefusal k = none → ∃ u : State, (s.unwait k).flows u k b b.source 0 ∧
      s.scanArm k = match b.source with
        | .keypad a => u.tellKeypad a (.started (BitVec.ofNat 8 k.val))
        | .server => u) := by
  refine ⟨fun wait => ?_, fun r refused => s.scanArm_of_refused waits held refused,
    fun r granted refused => scanArm_of_revoked waits held undosed granted refused, fun granted clear => ?_⟩
  · unfold scanArm
    rw [waits, held]
    dsimp only
    rw [wait]
  · refine ⟨((s.unwait k).grant k b.recipe).enterFlow k, (s.unwait k).grant_flows held granted, ?_⟩
    have refusal : ((s.unwait k).grant k b.recipe).startRefusal k = none := by
      obtain ⟨-, -, -, tables, -, safety, -, volumes, -⟩ := (s.unwait k).grant_frame k b.recipe
      rw [← clear]
      unfold startRefusal armLatched permitted vol
      simp only [fault, input, safety, volumes]
      rfl
    unfold scanArm
    rw [waits, held]
    dsimp only
    rw [granted]
    dsimp only
    rw [refusal]
    rfl

end

/-- Settles O39: the injection that closes on its timeout, the end of the window, the scan, and DOSE. -/
theorem injectionTimeout : Obligations.InjectionTimeout := by
  refine ⟨fun s j n live canonical misses => ?_, fun s none => State.scan_of_none none, fun s k l waiting => ?_,
    fun s k b waits held undosed => s.scanArm_scans k b waits held undosed,
    fun s k b d held mode => s.raiseDose_raises k b d held mode⟩
  · have run := exec_injectionTimeout_of_live live j
    have window := exec_feedbackWindowClose_of_live live j
    have count : missesAfter (s.inj j) true = n := by
      rw [misses, missesAfter]
      simp
    intro closed
    have closedIs : (s.inj j).closedAt s.now (missesAfter (s.inj j) true) = closed := by
      rw [count]
      rfl
    refine ⟨fun stopped => ?_, fun timed few => ⟨fun unowned => ?_, fun k i d owned at_ named => ?_⟩, fun timed third => ?_,
      fun timed third mode => ?_, fun stopped => ?_, fun timed => ?_⟩
    · rw [run, stopped]
      rfl
    · rw [if_pos timed] at run
      obtain ⟨w, closes, eq, waits, others, own⟩ := s.closeInjection_unowned j true (by omega) unowned
      rw [closes] at run
      rw [closedIs] at own
      exact ⟨w, run, eq, waits, others, own⟩
    · rw [if_pos timed] at run
      obtain ⟨w, closes, eq, waits, others, rests, goes⟩ :=
        s.closeInjection_owned j true (by omega) owned at_ named
      rw [closes] at run
      rw [closedIs] at rests goes
      exact ⟨w, run, eq, waits, others, rests, goes⟩
    · rw [if_pos timed] at run
      exact ⟨_, run, s.closeInjection_fails j canonical (count.trans third)⟩
    · rw [if_pos timed] at run
      have fails := s.closeInjection_fails_of_report j canonical (count.trans third) mode
      rw [closedIs] at fails
      rw [run]
      obtain ⟨w, eq, entry, entries, own, injs, waits, faults, counted, named, latch, uport, unowned, owned⟩ := fails
      refine ⟨w, eq, entry, entries, own, injs, waits, faults, counted, named, latch, uport, fun none => ?_,
        fun k i d holds at_ => ?_⟩
      · obtain ⟨arms, closes⟩ := unowned none
        exact ⟨arms, by rw [closes]⟩
      · obtain ⟨closes, rest⟩ := owned k i d holds at_
        exact ⟨by rw [closes], rest⟩
    · rw [window, stopped]
      rfl
    · rw [if_pos timed] at window
      refine ⟨_, window, rfl, rfl, fun x other => ?_, ?_⟩
      · rw [State.inj_setInj, if_neg other]
      · rw [State.inj_setInj, if_pos rfl]
  · rw [State.scan, waiting]
    rfl

end Sys2Proof.Machine
end

section
/-! SUPPORT. What an uncorrectable error makes of each item, before and after RETENTION is raised (R144, R145, R188,
R190, Table 9-7). -/

namespace Sys2Proof.Machine

section
variable {s : State}

/-! ### The items that raise RETENTION -/

/-- The BAY entry marked DAMAGED, the histories emptied where the basis was another than the default's (R83, R188). -/
def State.bayDamaged (s : State) : State :=
  let v := s.withTables (s.tables.damage .bay 0)
  if v.bay.basis ≠ s.bay.basis then v.clearHistories else v

/-- What Table 9-7 makes of an item, before RETENTION is raised for it. -/
def State.reworded (s : State) : RetItem → State
  | .tableEntry _ _ => s.bayDamaged
  | .sessionRecord img => s.rewriteSession img
  | .quotaDay => s.withSession { s.session with quotaDay := s.bayDay }
  | .noteWord _ _ _ => s
  | .placeList both => if both then s.rebuildPlaces else s
  | .noteCounter both => if both then s.withCustody { s.custody with counter := .usedUp } else s
  | .totalizer t asRead => s.damageTotalizer t asRead
  | .faultRecord c => s.setFault c (FaultRec.rewritten s.custody.clock)
  | .serviceFlag => s.withSession { s.session with inService := false }
  | .bayClock asRead => s.withCustody { s.custody with clock := asRead }
  | .validityMarker => s.withRetention { s.retention with marker := true }

theorem State.uncorrectable_of_strikes {item : RetItem} (strikes : s.strikes item = true) (scan : Bool) :
    s.uncorrectable scan item = (s.reworded item).raiseRetention scan item := by
  cases item with
  | tableEntry id i =>
    obtain ⟨⟨rfl, rfl⟩, sound⟩ : (id = .bay ∧ i = 0) ∧ s.tables.bay.damaged = false := by simpa [State.strikes] using strikes
    have fresh : ¬(tableSize .bay ≤ 0 ∨ s.tables.damaged .bay 0 = true) := by simp [tableSize, Tables.damaged, sound]
    change s.damageEntry scan .bay 0 = _
    rw [damageEntry, if_neg fresh]
    exact if_pos rfl
  | noteWord n offset word => exact absurd strikes (by simp [State.strikes])
  | _ => rfl

theorem State.uncorrectable_of_quiet {item : RetItem} (quiet : s.strikes item = false) :
    s.uncorrectable true item = s.uncorrectable false item := by
  cases item with
  | tableEntry id i =>
    change s.damageEntry true id i = s.damageEntry false id i
    unfold damageEntry
    by_cases still : tableSize id ≤ i ∨ s.tables.damaged id i = true
    · rw [if_pos still, if_pos still]
    · rw [if_neg still, if_neg still]
      have other : id ≠ .bay := by
        rintro rfl
        have first : i = 0 := by
          have small := not_or.1 still |>.1
          simp only [tableSize] at small
          omega
        subst first
        simp_all [State.strikes, Tables.damaged]
      dsimp only
      rw [if_neg other, if_neg other]
  | noteWord n offset word => rfl
  | _ => exact absurd quiet (by simp [State.strikes])

theorem State.bay_damaged (s : State) : (s.withTables (s.tables.damage .bay 0)).bay = defaultBay := rfl

theorem State.bayDamaged_eq (s : State) : s.bayDamaged =
    { s with tables := { s.tables with bay := ⟨s.tables.bay.entry, true⟩ }, arms := s.bayDamaged.arms } := by
  unfold bayDamaged
  dsimp only
  split_ifs <;> rfl

theorem State.arm_bayDamaged (k : Fin 4) :
    s.bayDamaged.arm k = if s.bay.basis = .gross then s.arm k else { s.arm k with history := [] } := by
  unfold bayDamaged
  dsimp only
  rw [bay_damaged]
  change (if Basis.gross ≠ s.bay.basis then _ else _ : State).arm k = _
  by_cases gross : s.bay.basis = .gross
  · rw [if_pos gross, if_neg (not_not.2 gross.symm)]
    rfl
  · rw [if_neg gross, if_pos fun same => gross same.symm, arm_clearHistories]
    rfl

theorem State.rewords_reworded (item : RetItem) : s.rewords (s.reworded item) item := by
  cases item with
  | tableEntry id i =>
    refine ⟨s.bayDamaged_eq, ?_, fun k => s.arm_bayDamaged k⟩
    change s.bayDamaged.bay = _
    rw [bayDamaged_eq]
    rfl
  | totalizer t x => cases t <;> rfl
  | faultRecord c =>
    exact ⟨rfl, (s.fault_setFault c c _).trans (if_pos rfl), fun d other => (s.fault_setFault c d _).trans (if_neg other)⟩
  | _ => rfl

/-! ### RETENTION -/

theorem State.recorded_records (s : State) (item : RetItem) :
    s.recordsRetention (s.recorded .retention none (.retention (itemCode item)) .stopBay false) item :=
  ⟨rfl, fun c other => (s.fault_setFault .retention c _).trans (if_neg other),
    (s.fault_setFault .retention .retention _).trans (if_pos rfl), rfl⟩

theorem State.raiseRetention_of_scan (s : State) (item : RetItem) : s.raiseRetention true item =
    s.recorded .retention none (.retention (itemCode item)) .stopBay false := s.recorded_stopBay _ _ _ _

theorem State.readWord_scan_strikes {item : RetItem} (strikes : s.strikes item = true) :
    (s.reworded item).recordsRetention (State.readWord true s ⟨item, .multi⟩) item := by
  rw [show State.readWord true s ⟨item, .multi⟩ = s.uncorrectable true item from rfl, uncorrectable_of_strikes strikes,
    raiseRetention_of_scan]
  exact recorded_records _ item

end

end Sys2Proof.Machine
end

section
/-! PROOFS. One visit of the scrub (R187, R189). -/

namespace Sys2Proof.Machine

/-- A part with its supply whose correction counter stands above 255, where no command brings it: a single-bit error
counts there up to 255 and then sets the overflow mark alone (R187). -/
def beyondCorrections : State :=
  { State.reset with retention := { State.reset.retention with correctable := 256, reads := [] } }

theorem beyondCorrections_live : beyondCorrections.live = true := rfl

/-- The visit that finds a single-bit error counts 257, not 255. -/
theorem readWord_beyondCorrections (item : RetItem) :
    (State.readWord false beyondCorrections ⟨item, .single⟩).retention.correctable = 257 := rfl

theorem State.scrubNext_correctable (s : State) : s.scrubNext.retention.correctable = s.retention.correctable := by
  unfold scrubNext
  split_ifs <;> rfl

theorem exec_scrubVisit {s : State} (live : s.live = true) (f : Finding) :
    exec (.scrubVisit f) s = .next (State.readWord false s f).scrubNext := by
  change execScrubVisit f s = _
  rw [execScrubVisit, whenPowered_of_live s live]

/-- Refutes O60: the statement saturates the correction counter at 255 from every state, but from a state whose counter
already stands above 255, which the state's type admits, a visit that finds a single-bit error adds 1. -/
theorem not_scrubVisit : ¬ Obligations.ScrubVisit := by
  intro holds
  obtain ⟨visits, -⟩ := holds
  obtain ⟨-, single, -⟩ := visits beyondCorrections beyondCorrections_live
  obtain ⟨u, run, -, counted, -⟩ := single .quotaDay
  rw [exec_scrubVisit beyondCorrections_live] at run
  rw [← Host.Outcome.next.inj run, State.scrubNext_correctable, readWord_beyondCorrections] at counted
  exact absurd counted (by decide)

end Sys2Proof.Machine
end

section
/-! SUPPORT. The batches that a reset or a start-up ends, one after another (R4, R19, R25, R26, R106, R127). -/

namespace Sys2Proof.Machine

/-! ### What one end writes into the tables (R4, R19) -/

section
variable (s : State)

/-- The permit that a session charges, where its entry is undamaged. -/
def State.chargedEntry (r : Session) (i : Nat) : Prop :=
  r.source = .local_ ∧ r.permit = some i ∧ (tabGet emptyPermit s.tables.permits i).damaged = false

/-- The vehicle whose products a session writes, where its entry is undamaged. -/
def State.markedEntry (r : Session) (i : Nat) : Prop :=
  i = r.vehicle ∧ (tabGet emptyVehicle s.tables.vehicles i).damaged = false

open Classical in
theorem State.tabGet_chargedPermits (canonical : s.canonical = true) (r : Session) (n i : Nat) :
    tabGet emptyPermit (s.chargedPermits r n) i =
      if s.chargedEntry r i then
        ⟨{ (tabGet emptyPermit s.tables.permits i).entry with
          usedToday := min 9999999 ((tabGet emptyPermit s.tables.permits i).entry.usedToday + n) }, false⟩
      else tabGet emptyPermit s.tables.permits i := by
  obtain ⟨permits, -⟩ := s.canonical_iff.1 canonical
  unfold chargedPermits chargedEntry
  split
  case h_1 p source permit =>
    unfold setPermit
    dsimp only
    by_cases damaged : (tabGet emptyPermit s.tables.permits p).damaged = true
    · rw [if_pos damaged, if_neg]
      rintro ⟨-, same, sound⟩
      rw [permit] at same
      rw [← Option.some.inj same, damaged] at sound
      cases sound
    · rw [if_neg damaged]
      refine (tabGet_tabSet _ permits p i _).trans ?_
      by_cases same : i = p
      · subst same
        rw [if_pos rfl, if_pos ⟨source, permit, by simpa using damaged⟩]
      · rw [if_neg same, if_neg]
        rintro ⟨-, other, -⟩
        exact same (Option.some.inj (other.symm.trans permit))
  case h_2 none =>
    rw [if_neg]
    rintro ⟨source, permit, -⟩
    exact none i source permit

open Classical in
theorem State.tabGet_markedVehicles (canonical : s.canonical = true) (r : Session) (x : Fin 4 × Batch) (i : Nat) :
    tabGet emptyVehicle (s.markedVehicles r x.2) i =
      if s.markedEntry r i then ⟨lastProduct (tabGet emptyVehicle s.tables.vehicles i).entry x, false⟩
      else tabGet emptyVehicle s.tables.vehicles i := by
  obtain ⟨-, vehicles, -⟩ := s.canonical_iff.1 canonical
  unfold markedVehicles markedEntry lastProduct
  by_cases flowed : 0 < x.2.gross
  · rw [if_pos flowed]
    unfold setLastProduct
    dsimp only
    by_cases damaged : (tabGet emptyVehicle s.tables.vehicles r.vehicle).damaged = true
    · rw [if_pos damaged, if_neg]
      rintro ⟨rfl, sound⟩
      rw [damaged] at sound
      cases sound
    · rw [if_neg damaged]
      refine (tabGet_tabSet _ vehicles r.vehicle i _).trans ?_
      by_cases same : i = r.vehicle
      · subst same
        rw [if_pos rfl, if_pos ⟨rfl, by simpa using damaged⟩, if_pos flowed]
      · rw [if_neg same, if_neg fun marks => same marks.1]
  · rw [if_neg flowed]
    split_ifs with marks
    · rw [← marks.2]
    · rfl

end

/-! ### The injectors of an arm still to end -/

/-- Injector `j` injects for dose `i` of arm `k`: the arm's end counts the injection as done (R127). -/
def State.strokes (s : State) (k : Fin 4) (j : Fin 6) (i : Nat) : Prop :=
  (s.inj j).state = .injecting ∧ (s.inj j).claimant = some k ∧ (s.inj j).owner = some (k, i)

/-- From state `s` to state `t` arm `k` stands, with the injections that its end counts. -/
structure State.Awaits (s t : State) (k : Fin 4) : Prop where
  arm : t.arm k = s.arm k
  strokes : ∀ j i, t.strokes k j i ↔ s.strokes k j i

theorem State.Awaits.refl (s : State) (k : Fin 4) : s.Awaits s k := ⟨rfl, fun _ _ => .rfl⟩

theorem State.Awaits.trans {s t u : State} {k : Fin 4} (h : s.Awaits t k) (g : t.Awaits u k) : s.Awaits u k :=
  ⟨g.arm.trans h.arm, fun j i => (g.strokes j i).trans (h.strokes j i)⟩

theorem State.Awaits.of_injectors {s t : State} {k : Fin 4} (arm : t.arm k = s.arm k)
    (injectors : t.additive.injectors = s.additive.injectors) : s.Awaits t k :=
  ⟨arm, fun j i => by simp only [State.strokes, inj, injectors]⟩

theorem State.Awaits.doseEnded {s t : State} {k : Fin 4} (h : s.Awaits t k) (gross i : Nat) (d : DoseRec) :
    t.doseEnded k gross i d = s.doseEnded k gross i d := by
  have same := h.strokes d.injector i
  unfold State.strokes at same
  simp only [State.doseEnded, same]

theorem State.Awaits.endedBatch {s t : State} {k : Fin 4} (h : s.Awaits t k) (b : Batch) :
    t.endedBatch k b = s.endedBatch k b := by
  have each : t.doseEnded k b.gross = s.doseEnded k b.gross := by
    funext i d
    exact h.doseEnded b.gross i d
  rw [State.endedBatch, each, State.endedBatch]

/-- An injector released by one arm stands as another arm's end finds it. -/
theorem released_strokes (x : Injector) {k other : Fin 4} (apart : other ≠ k) (m i : Nat) :
    ((x.released k m).state = .injecting ∧ (x.released k m).claimant = some other ∧
      (x.released k m).owner = some (other, i)) ↔
    (x.state = .injecting ∧ x.claimant = some other ∧ x.owner = some (other, i)) := by
  rw [released_eq]
  by_cases claimed : x.claimant = some k
  · have foreign : x.claimant ≠ some other := by simp [claimed, apart.symm]
    simp [claimed, apart.symm]
  · by_cases owned : x.owner = some (k, m)
    · simp [claimed, owned, apart.symm]
    · simp [claimed, owned]

theorem State.releaseDoses_awaits {s : State} {k : Fin 4} {b : Batch} (held : (s.arm k).batch = some b)
    (distinct : (b.doses.map DoseRec.injector).Nodup) {other : Fin 4} (apart : other ≠ k) (j : Fin 6) (i : Nat) :
    (s.releaseDoses k true).strokes other j i ↔ s.strokes other j i := by
  obtain ⟨-, released, untouched⟩ := s.releaseDoses_finalises k held distinct
  unfold strokes
  by_cases named : j ∈ b.doses.map DoseRec.injector
  · obtain ⟨d, mem, rfl⟩ := List.mem_map.1 named
    obtain ⟨m, inside, rfl⟩ := List.getElem_of_mem mem
    rw [released m _ (List.getElem?_eq_getElem inside)]
    exact released_strokes _ apart m i
  · rw [untouched j named]

end Sys2Proof.Machine
end

section
/-! SUPPORT. A session that closes with the batches that end with it (R19, R24 to R26, R106, R134). -/

namespace Sys2Proof.Machine

/-- A session record that differs from `p` in what no note and no charge reads. -/
def resembles (q p : Session) : Prop :=
  ∃ (reserved : Nat) (claims : Vector (Option (Fin 4)) 8) (delivered : Nat) (closing : Option CloseReason),
    q = { p with reserved := reserved, claims := claims, delivered := delivered, closing := closing }

/-- BATCH_ENDED for a batch that ends with the session (R106). -/
def State.lastEvent (s : State) (e : EndReason) (x : Fin 4 × Batch) : Event :=
  .batchEnded x.1 x.2.compartment x.2.code e (litres x.2.gross) (litres x.2.standard) (s.lastLine e x).flags x.2.overrun

/-- What a permit has used today after the charges of the batches `l` (R19). -/
def usedAfter (l : List (Fin 4 × Batch)) (n : Nat) : Nat := l.foldl (fun n x => min 9999999 (n + litres x.2.delivered)) n

open Classical in
/-- From state `s`, with the session `r` open, to state `t` the batches `l` have ended with reason `e`. -/
structure State.Winding (s t : State) (r : Session) (l : List (Fin 4 × Batch)) (e : EndReason) : Prop where
  record : ∃ q, t.session.record = some q ∧ resembles q (s.lined r l e)
  tables : t.tables = { s.tables with permits := t.tables.permits, vehicles := t.tables.vehicles }
  server : r.source = .server → t.tables.permits = s.tables.permits
  permit : ∀ i, tabGet emptyPermit t.tables.permits i =
    if s.chargedEntry r i then
      ⟨{ (tabGet emptyPermit s.tables.permits i).entry with
        usedToday := usedAfter l (tabGet emptyPermit s.tables.permits i).entry.usedToday }, false⟩
    else tabGet emptyPermit s.tables.permits i
  vehicle : ∀ i, tabGet emptyVehicle t.tables.vehicles i =
    if s.markedEntry r i then ⟨l.foldl lastProduct (tabGet emptyVehicle s.tables.vehicles i).entry, false⟩
    else tabGet emptyVehicle s.tables.vehicles i
  canonical : t.canonical = true
  custody : t.custody = s.custody
  uport : t.uport = ((l.map (s.lastEvent e)).foldl State.raise s).uport

section
variable {s t u : State} {r : Session} {l : List (Fin 4 × Batch)} {e : EndReason}

theorem State.Winding.refl (record : s.session.record = some r) (canonical : s.canonical = true) : s.Winding s r [] e where
  record := ⟨r, record, r.reserved, r.claims, r.delivered, r.closing, by simp [lined]⟩
  tables := rfl
  server := fun _ => rfl
  permit := fun i => by
    split_ifs with charged
    · rw [← charged.2.2]
      rfl
    · rfl
  vehicle := fun i => by
    split_ifs with marks
    · rw [← marks.2]
      rfl
    · rfl
  canonical := canonical
  custody := rfl
  uport := rfl

/-- A step that leaves the tables, the custody store and the event queue, and of the record what a note reads. -/
theorem State.Winding.still (h : s.Winding t r l e)
    (record : ∀ q, t.session.record = some q → ∃ q', u.session.record = some q' ∧ resembles q' q)
    (tables : u.tables = t.tables) (custody : u.custody = t.custody) (uport : u.uport = t.uport) :
    s.Winding u r l e := by
  obtain ⟨q, held, alike⟩ := h.record
  obtain ⟨q', held', alike'⟩ := record q held
  refine ⟨⟨q', held', ?_⟩, by rw [tables]; exact h.tables, by rw [tables]; exact h.server, by rw [tables]; exact h.permit,
    by rw [tables]; exact h.vehicle, (canonical_congr tables).trans h.canonical, custody.trans h.custody,
    uport.trans h.uport⟩
  obtain ⟨_, _, _, _, rfl⟩ := alike
  obtain ⟨reserved, claims, delivered, closing, rfl⟩ := alike'
  exact ⟨reserved, claims, delivered, closing, rfl⟩

theorem State.Winding.windsDown (h : s.Winding t r l e) (winds : t.WindsDown u) : s.Winding u r l e := by
  obtain ⟨claims, reserved, closing, idle, deadman, arms, waiting, rfl⟩ := winds
  exact h.still (fun q held => ⟨{ q with claims := claims, reserved := reserved, closing := closing }, by rw [held]; rfl,
    reserved, claims, q.delivered, closing, rfl⟩) rfl rfl rfl

theorem State.foldl_raise_custody (l : List Event) (s : State) : (l.foldl State.raise s).custody = s.custody :=
  foldl_frame (p := fun t : State => t.custody) (fun t x => by rw [raise_eq_raised]) l s

theorem State.Winding.charged_iff (h : s.Winding t r l e) (i : Nat) : t.chargedEntry r i ↔ s.chargedEntry r i := by
  unfold chargedEntry
  rw [h.permit]
  by_cases charged : s.chargedEntry r i
  · rw [if_pos charged]
    exact ⟨fun _ => charged, fun _ => ⟨charged.1, charged.2.1, rfl⟩⟩
  · rw [if_neg charged]

theorem State.Winding.marked_iff (h : s.Winding t r l e) (i : Nat) : t.markedEntry r i ↔ s.markedEntry r i := by
  unfold markedEntry
  rw [h.vehicle]
  by_cases marks : s.markedEntry r i
  · rw [if_pos marks]
    exact ⟨fun _ => marks, fun _ => ⟨marks.1, rfl⟩⟩
  · rw [if_neg marks]

theorem State.lined_append (x : Fin 4 × Batch) : s.lined r (l ++ [x]) e =
    { s.lined r l e with lines := (s.lined r l e).lines ++ [s.lastLine e x] } := by
  simp [lined, List.append_assoc]

/-- The next batch ends, its arm awaited so far. -/
theorem State.Winding.ends {k : Fin 4} {b : Batch} (h : s.Winding t r l e) (awaits : s.Awaits t k)
    (held : (s.arm k).batch = some b) (distinct : (b.doses.map DoseRec.injector).Nodup) :
    s.Winding (t.batchEnd k e true) r (l ++ [(k, b)]) e := by
  obtain ⟨_, record, reserved, claims, delivered, closing, rfl⟩ := h.record
  have standing : (t.arm k).batch = some b := by rw [awaits.arm]; exact held
  obtain ⟨-, -, record', tables, -, uport⟩ := t.batchEnd_effects k standing record rfl distinct e
  have line : batchLine k (t.endedBatch k b) e (Vec.get t.custody.gross k) = s.lastLine e (k, b) := by
    rw [awaits.endedBatch, h.custody]
    rfl
  rw [line] at record' uport
  change _ = { t.tables with
    permits := t.chargedPermits r (litres b.delivered), vehicles := t.markedVehicles r b } at tables
  refine ⟨⟨_, record', ?_⟩, ?_, fun source => ?_, fun i => ?_, fun i => ?_, (t.batchEnd_keeps k e true).canonical h.canonical,
    ?_, ?_⟩
  · rw [lined_append]
    exact ⟨_, _, _, _, rfl⟩
  · rw [tables, h.tables]
  · rw [tables]
    exact (t.chargedPermits_of_server source _).trans (h.server source)
  · rw [tables]
    refine (t.tabGet_chargedPermits h.canonical r _ i).trans ?_
    rw [h.permit]
    by_cases charged : s.chargedEntry r i
    · rw [if_pos ((h.charged_iff i).2 charged), if_pos charged, if_pos charged]
      simp only [usedAfter, List.foldl_append, List.foldl_cons, List.foldl_nil]
    · rw [if_neg fun c => charged ((h.charged_iff i).1 c), if_neg charged, if_neg charged]
  · rw [tables]
    refine (t.tabGet_markedVehicles h.canonical r (k, b) i).trans ?_
    rw [h.vehicle]
    by_cases marks : s.markedEntry r i
    · rw [if_pos ((h.marked_iff i).2 marks), if_pos marks, if_pos marks, List.foldl_append]
      rfl
    · rw [if_neg fun c => marks ((h.marked_iff i).1 c), if_neg marks, if_neg marks]
  · refine Eq.trans ?_ h.custody
    simp
  · rw [List.map_append, List.foldl_append]
    exact uport.trans (raise_uport_congr h.uport (h.custody.trans (foldl_raise_custody _ _).symm) _)

end

end Sys2Proof.Machine
end

section
/-! SUPPORT. A session that closes with the batches that end with it: the fold over the arms, and the close (R24, R134). -/

namespace Sys2Proof.Machine

section
variable {s t u : State} {r : Session} {l : List (Fin 4 × Batch)} {e : EndReason} {k : Fin 4}

/-! ### Arm after arm -/

theorem State.dropBatch_awaits (t : State) {other : Fin 4} (apart : other ≠ k) : t.Awaits (t.dropBatch k) other :=
  .of_injectors (by rw [arm_dropBatch, if_neg apart]) (by rw [(dropBatch_stands t k).2.2.1])

theorem State.Winding.drops (h : s.Winding t r l e) (k : Fin 4) : s.Winding (t.dropBatch k) r l e := by
  obtain ⟨record, tables, -, uport⟩ := t.dropBatch_stands k
  exact h.still (fun q held => ⟨q, record.trans held, q.reserved, q.claims, q.delivered, q.closing, rfl⟩) tables
    (by simp) uport

theorem State.batchEnd_of_none (none : (t.arm k).batch = none) (e : EndReason) : t.batchEnd k e true = t.dropBatch k := by
  unfold batchEnd releaseDoses
  simp only [none]

theorem State.batchEnd_awaits {b : Batch} (held : (t.arm k).batch = some b) (record : t.session.record = some r)
    (distinct : (b.doses.map DoseRec.injector).Nodup) (e : EndReason) {other : Fin 4} (apart : other ≠ k) :
    t.Awaits (t.batchEnd k e true) other := by
  obtain ⟨-, others, -, -, additive, -⟩ := t.batchEnd_effects k held record rfl distinct e
  refine ⟨others other apart, fun j i => ?_⟩
  have inj : (t.batchEnd k e true).inj j = (t.releaseDoses k true).inj j := by rw [State.inj, additive, State.inj]
  rw [strokes, inj]
  exact releaseDoses_awaits held distinct apart j i

/-- One arm of the fold: the batches that end with it, and every other arm awaited as before. -/
def State.WindsArm (s t u : State) (r : Session) (e : EndReason) (l : List (Fin 4 × Batch)) (k : Fin 4)
    (ended : Option (Fin 4 × Batch)) : Prop :=
  s.Winding u r (l ++ ended.toList) e ∧ ∀ j, j ≠ k → t.Awaits u j

theorem State.Winding.batchEnd_winds (h : s.Winding t r l e) (awaits : s.Awaits t k)
    (distinct : ∀ b, (s.arm k).batch = some b → (b.doses.map DoseRec.injector).Nodup) :
    s.WindsArm t (t.batchEnd k e true) r e l k ((s.arm k).batch.map fun b => (k, b)) := by
  cases held : (s.arm k).batch with
  | none =>
    rw [batchEnd_of_none (by rw [awaits.arm]; exact held)]
    exact ⟨by simpa using h.drops k, fun j apart => t.dropBatch_awaits apart⟩
  | some b =>
    obtain ⟨q, record, -⟩ := h.record
    exact ⟨h.ends awaits held (distinct b held), fun j apart =>
      batchEnd_awaits (by rw [awaits.arm]; exact held) record (distinct b held) e apart⟩

theorem State.foldl_winds {f : State → Fin 4 → State} {ended : Fin 4 → Option (Fin 4 × Batch)}
    (step : ∀ t l k, s.Winding t r l e → s.Awaits t k → s.WindsArm t (f t k) r e l k (ended k)) (ks : List (Fin 4))
    (distinct : ks.Nodup) (h : s.Winding t r l e) (awaits : ∀ k ∈ ks, s.Awaits t k) :
    s.Winding (ks.foldl f t) r (l ++ ks.filterMap ended) e := by
  induction ks generalizing t l with
  | nil => simpa using h
  | cons k ks ih =>
    obtain ⟨fresh, distinct⟩ := List.nodup_cons.1 distinct
    obtain ⟨winds, others⟩ := step t l k h (awaits k (by simp))
    have rest := ih distinct winds fun j mem =>
      (awaits j (List.mem_cons_of_mem k mem)).trans (others j fun same => fresh (same ▸ mem))
    have joined : (k :: ks).filterMap ended = (ended k).toList ++ ks.filterMap ended := by
      rw [List.filterMap_cons]
      cases ended k <;> rfl
    rw [joined, ← List.append_assoc]
    exact rest

/-! ### The close (R24, R134) -/

theorem State.Winding.bay (h : s.Winding t r l e) : t.bay = s.bay := by
  rw [State.bay, h.tables, State.bay]

theorem State.Winding.noteOf {q : Session} (h : s.Winding t r l e) (alike : resembles q (s.lined r l e))
    (c : CloseReason) : t.noteOf q c = s.noteOf (s.lined r l e) c := by
  obtain ⟨_, _, _, _, rfl⟩ := alike
  simp only [State.noteOf, h.bay, h.custody]

theorem State.Winding.closedCustody {q : Session} (h : s.Winding t r l e) (alike : resembles q (s.lined r l e))
    (c : CloseReason) : t.closedCustody q c = s.closedCustody (s.lined r l e) c := by
  have note := h.noteOf alike c
  unfold State.closedCustody
  rw [note, h.custody]
  obtain ⟨_, _, _, _, rfl⟩ := alike
  rfl

theorem State.foldl_closingEvents (s : State) (r : Session) (l : List (Fin 4 × Batch)) (e : EndReason)
    (c : CloseReason) : (s.closingEvents r l e c).foldl State.raise s =
      ((l.map (s.lastEvent e)).foldl State.raise s).closeRaised (s.lined r l e) c := by
  have custody := foldl_raise_custody (l.map (s.lastEvent e)) s
  have events : s.closingEvents r l e c = l.map (s.lastEvent e) ++ (if (s.lined r l e).lines = [] then [] else
      [Event.noteReady r.number c (s.lined r l e).lines.length
        ((s.lined r l e).lines.filter fun y => anyFlag y.flags).length s.custody.places.length]) ++
      [Event.sessionClosed r.number c (s.lined r l e).lines.length] := rfl
  rw [events, List.foldl_append, List.foldl_append, closeRaised, custody]
  split_ifs <;> rfl

theorem State.Winding.closeRaised {q : Session} (h : s.Winding t r l e) (alike : resembles q (s.lined r l e))
    (c : CloseReason) : (t.closeRaised q c).uport = ((s.closingEvents r l e c).foldl State.raise s).uport := by
  rw [foldl_closingEvents, closeRaised_congr h.uport (h.custody.trans (foldl_raise_custody _ _).symm)]
  obtain ⟨_, _, _, _, rfl⟩ := alike
  rfl

theorem tabRead_of_sound {α : Type} {empty : α} {x : Tab α} {i : Nat} {y : α} (slot : tabGet empty x i = ⟨y, false⟩) :
    tabRead empty x i = y := by
  rw [tabRead, slot]
  rfl

theorem tabRead_of_slot {α : Type} {empty : α} {x y : Tab α} {i : Nat} (slot : tabGet empty y i = tabGet empty x i) :
    tabRead empty y i = tabRead empty x i := by
  rw [tabRead, slot, tabRead]

theorem tabGet_of_undamaged {α : Type} {empty : α} {x : Tab α} {i : Nat} (undamaged : (tabGet empty x i).damaged = false) :
    tabGet empty x i = ⟨(tabGet empty x i).entry, false⟩ := by
  rw [← undamaged]

/-- A state that holds the session block, the custody store and the tables of the close. -/
theorem State.Winding.closesAll (h : s.Winding t r l e) (c : CloseReason) (record : u.session.record = none)
    (custody : u.custody = (t.closeSession c).custody)
    (tables : u.tables = { s.tables with permits := u.tables.permits, vehicles := u.tables.vehicles })
    (vehicles : u.tables.vehicles = t.tables.vehicles) : s.closesAll u r l e c := by
  obtain ⟨q, held, alike⟩ := h.record
  have written : u.custody = s.closedCustody (s.lined r l e) c := by
    rw [custody, closeSession_eq _ held, ← h.closedCustody alike]
  have reads (i : Nat) : tabGet emptyVehicle u.tables.vehicles i = _ := (congrArg (tabGet _ · i) vehicles).trans (h.vehicle i)
  unfold State.closedCustody at written
  refine ⟨record, fun lines => ?_, fun lines => ?_, ?_, tables, fun undamaged => ?_, fun i other => ?_⟩
  · rw [if_neg lines] at written
    rw [noted, written]
    exact ⟨rfl, rfl⟩
  · rw [if_pos lines] at written
    rw [written]
    exact ⟨rfl, rfl⟩
  · rw [written]
    split_ifs <;> rfl
  · rw [State.vehicle, tabRead_of_sound ((reads _).trans (if_pos ⟨rfl, undamaged⟩)), State.vehicle,
      tabRead_of_sound (tabGet_of_undamaged undamaged)]
  · exact tabRead_of_slot ((reads i).trans (if_neg fun marks => other marks.1))

/-- A state that holds the permits of the close. -/
theorem State.Winding.charges (h : s.Winding t r l e) (permits : u.tables.permits = t.tables.permits) :
    s.charges u r l := by
  have reads (i : Nat) : tabGet emptyPermit u.tables.permits i = _ := (congrArg (tabGet _ · i) permits).trans (h.permit i)
  refine ⟨fun source => permits.trans (h.server source), fun p source permit undamaged => ?_, fun i other => ?_⟩
  · rw [State.permit, tabRead_of_sound ((reads p).trans (if_pos ⟨source, permit, undamaged⟩)), State.permit,
      tabRead_of_sound (tabGet_of_undamaged undamaged), usedAfter]
  · exact tabRead_of_slot ((reads i).trans (if_neg fun charged => other charged.1 charged.2.1))

end

end Sys2Proof.Machine
end

section
/-! SUPPORT. The directory, the channels and the pins as a reset and a start leave them (R30, R50, R168). -/

namespace Sys2Proof.Machine

section
variable (s : State)

/-! ### The directory (R168) -/

theorem Vec.get_freshStations (i : Fin 12) : Vec.get s.freshStations i =
    ⟨if (s.device i).address = 0 then .absent else .silent, 0, [], 0⟩ := by
  unfold State.freshStations Station.powerOn
  rw [Vec.get_ofFn]
  by_cases zero : (s.device i).address = 0 <;> simp [zero]

/-- The cursor at the first station of the directory. -/
def State.firstListed : Option (Fin 12) := deviceIxs.find? fun i => (s.device i).address != 0

theorem State.freshDirectory_eq : s.freshDirectory = { s with
    dport := { s.dport with stations := s.freshStations, round := 0, cursor := s.firstListed } } := by
  have listed (d : DPort) : (s.withDport d).firstStation 0 = s.firstListed := by
    unfold firstStation firstListed
    congr 1
    funext i
    simp [inRound, device]
  unfold freshDirectory
  dsimp only
  rw [listed]
  rfl

/-! ### The channels (R50) -/

/-- A channel as its start leaves it, with the counts it holds. -/
def State.startedMeter (k : Fin 4) : Meter :=
  (s.meter k).start (s.armEntry k) s.now (s.meter k).aCount (s.meter k).bCount (s.meter k).n

variable {s}

theorem State.meter_startChannel (k j : Fin 4) (a b n : Nat) : (s.startChannel k a b n).meter j =
    if j = k then (s.meter k).start (s.armEntry k) s.now a b n else s.meter j := s.meter_setMeter k j _

theorem State.vol_startChannel (k j : Fin 4) (a b n : Nat) : (s.startChannel k a b n).vol j =
    if j = k then (s.vol k).start (s.armEntry k) else s.vol j :=
  (s.setMeter k ((s.meter k).start (s.armEntry k) s.now a b n)).vol_setVol k j _

/-- Channel `k` is started once by a fold over distinct arms that holds it. -/
theorem State.foldl_startChannel (l : List (Fin 4)) (distinct : l.Nodup) (s : State) (k : Fin 4) :
    let u := l.foldl (fun t k => t.startChannel k (t.meter k).aCount (t.meter k).bCount (t.meter k).n) s
    u = { s with meters := u.meters, volumes := u.volumes } ∧
      u.meter k = (if k ∈ l then s.startedMeter k else s.meter k) ∧
      u.vol k = if k ∈ l then (s.vol k).start (s.armEntry k) else s.vol k := by
  induction l generalizing s with
  | nil => exact ⟨rfl, rfl, rfl⟩
  | cons a l ih =>
    obtain ⟨fresh, distinct⟩ := List.nodup_cons.1 distinct
    obtain ⟨whole, meter, vol⟩ := ih distinct (s.startChannel a (s.meter a).aCount (s.meter a).bCount (s.meter a).n)
    dsimp only at whole meter vol ⊢
    rw [List.foldl_cons]
    have meters := s.meter_startChannel a k (s.meter a).aCount (s.meter a).bCount (s.meter a).n
    have vols := s.vol_startChannel a k (s.meter a).aCount (s.meter a).bCount (s.meter a).n
    refine ⟨by rw [whole]; rfl, meter.trans ?_, vol.trans ?_⟩
    all_goals
      by_cases same : k = a
      · subst same
        rw [if_pos rfl] at meters vols
        rw [if_neg fresh, if_pos List.mem_cons_self]
        assumption
      · rw [if_neg same] at meters vols
        have member : k ∈ a :: l ↔ k ∈ l := by simp [same]
        simp only [startedMeter, member, meters, vols]
        rfl

theorem State.startChannels_starts : s.startChannels = { s with
      meters := s.startChannels.meters, volumes := s.startChannels.volumes } ∧
    (∀ k, s.startChannels.meter k = s.startedMeter k) ∧
    ∀ k, s.startChannels.vol k = (s.vol k).start (s.armEntry k) := by
  have every : ∀ k : Fin 4, k ∈ armIxs := by decide
  have fold := State.foldl_startChannel armIxs (by decide) s
  exact ⟨(fold 0).1, fun k => (fold k).2.1.trans (if_pos (every k)), fun k => (fold k).2.2.trans (if_pos (every k))⟩

/-! ### The pins (R30) -/

theorem State.watchPins_stands : s.watchPins = { s with
    safety := { s.safety with inputs := s.watchPins.safety.inputs } } := by
  have each (l : List SafetyInput) (t : State) : ∃ inputs,
      l.foldl (fun t i => if (t.input i).pin then t.seenHigh i else t) t =
        { t with safety := { t.safety with inputs := inputs } } := by
    induction l generalizing t with
    | nil => exact ⟨_, rfl⟩
    | cons i l ih =>
      rw [List.foldl_cons]
      obtain ⟨inputs, whole⟩ := ih (if (t.input i).pin then t.seenHigh i else t)
      refine ⟨inputs, whole.trans ?_⟩
      rw [t.watchPin_stands i]
  obtain ⟨inputs, whole⟩ := each inputIxs s
  change s.watchPins = _ at whole
  rw [whole]

theorem State.meter_watchPins (k : Fin 4) : s.watchPins.meter k = s.meter k := by rw [meter, watchPins_stands, meter]

theorem State.vol_watchPins (k : Fin 4) : s.watchPins.vol k = s.vol k := by rw [vol, watchPins_stands, vol]

/-- A state with its inputs, channels and volume engines set. -/
def State.begun (s : State) (inputs : Vector Input 4) (meters : Vector Meter 4) (volumes : Vector VolArm 4) : State :=
  { s with safety := { s.safety with inputs := inputs }, meters := meters, volumes := volumes }

/-- The channels started and the pins watched. -/
theorem State.watchPins_startChannels : s.startChannels.watchPins =
    s.begun s.startChannels.watchPins.safety.inputs s.startChannels.meters s.startChannels.volumes := by
  rw [watchPins_stands, s.startChannels_starts.1]
  rfl

end

end Sys2Proof.Machine
end

section
/-! SUPPORT. The blocks and the arms at a bay reset (R25, R30, R45, R62, R80, R174, R186). -/

namespace Sys2Proof.Machine

section
variable (s : State)

/-! ### Every block at its reset value (R186, step 3) -/

/-- The U port at a bay reset: the event queue and the line error counters stay (R156, R174). -/
def State.resetUport : UPort := { UPort.powerOn s.pins.straps with
  events := s.uport.events, lost := s.uport.lost, framing := s.uport.framing, check := s.uport.check
  incomplete := s.uport.incomplete, overlapping := s.uport.overlapping }

/-- The D port at a bay reset: the line error counters stay (R156, R168, R174). -/
def State.resetDport : DPort := { DPort.powerOn s.pins.straps with
  stations := s.freshStations, cursor := s.firstListed, framing := s.dport.framing, check := s.dport.check
  incomplete := s.dport.incomplete, unexpected := s.dport.unexpected, verdictDrop := s.dport.verdictDrop
  relayDrop := s.dport.relayDrop }

/-- The blocks of a bay reset before the channels start and the pins are watched. -/
def State.blocksCleared : State := { s with
  session := s.session.loseVolatile, safety := s.safety.powerOn
  meters := Vector.ofFn fun k => (s.meter k).carried, volumes := Vector.ofFn fun k => (s.vol k).reset
  arms := Vector.replicate 4 (Arm.powerOn none), additive := AdditiveBlk.powerOn
  uport := s.resetUport, dport := s.resetDport
  retention := { s.retention with correctable := 0, overflow := false, cursor := 0, passes := 0 } }

theorem State.portsReset_eq : s.portsReset = { s with uport := s.resetUport, dport := s.resetDport } := by
  unfold portsReset
  dsimp only
  rw [freshDirectory_eq]
  rfl

/-- The blocks other than the ports and the retention controller. -/
def State.unportedCleared : State := { s with
  session := s.session.loseVolatile, safety := s.safety.powerOn
  meters := Vector.ofFn fun k => (s.meter k).carried, volumes := Vector.ofFn fun k => (s.vol k).reset
  arms := Vector.replicate 4 (Arm.powerOn none), additive := AdditiveBlk.powerOn }

theorem State.resetBlocks_eq : s.resetBlocks = s.blocksCleared.startChannels.watchPins := by
  have ports : s.unportedCleared.portsReset = _ := s.unportedCleared.portsReset_eq
  have cleared : s.unportedCleared.portsReset.withRetention
      { s.retention with correctable := 0, overflow := false, cursor := 0, passes := 0 } = s.blocksCleared := by
    rw [ports]
    rfl
  rw [← cleared]
  rfl

theorem State.resetBlocks_begun : ∃ inputs meters volumes, s.resetBlocks = s.blocksCleared.begun inputs meters volumes :=
  ⟨_, _, _, s.resetBlocks_eq.trans State.watchPins_startChannels⟩

theorem State.input_blocksCleared (i : SafetyInput) : s.blocksCleared.input i = Input.powerOn (s.input i).pin := by
  change Vec.get (Vector.ofFn fun j => Input.powerOn (Vec.get s.safety.inputs j).pin) _ = _
  rw [Vec.get_ofFn]
  rfl

theorem State.input_resetBlocks (i : SafetyInput) : s.resetBlocks.input i =
    ⟨(s.input i).pin, false, if (s.input i).pin then some (s.now + s.debounceTime i) else none, 0⟩ := by
  have started (j : SafetyInput) : s.blocksCleared.startChannels.input j = Input.powerOn (s.input j).pin := by
    rw [State.startChannels_starts.1]
    exact s.input_blocksCleared j
  have now : s.blocksCleared.startChannels.now = s.now := by rw [State.startChannels_starts.1]; rfl
  have time : s.blocksCleared.startChannels.debounceTime i = s.debounceTime i := by
    rw [State.startChannels_starts.1]
    rfl
  rw [resetBlocks_eq, watchPins_input _ fun j => by rw [started]; exact ⟨rfl, rfl⟩, started, now, time]
  rfl

theorem State.meter_resetBlocks (k : Fin 4) : s.resetBlocks.meter k =
    (s.meter k).carried.start (s.armEntry k) s.now (s.meter k).aCount (s.meter k).bCount (s.meter k).n := by
  have cleared : s.blocksCleared.meter k = (s.meter k).carried := Vec.get_ofFn _ k
  rw [resetBlocks_eq, State.meter_watchPins, State.startChannels_starts.2.1, State.startedMeter, cleared]
  rfl

theorem State.vol_resetBlocks (k : Fin 4) : s.resetBlocks.vol k = (s.vol k).reset.start (s.armEntry k) := by
  have cleared : s.blocksCleared.vol k = (s.vol k).reset := Vec.get_ofFn _ k
  rw [resetBlocks_eq, State.vol_watchPins, State.startChannels_starts.2.2, cleared]
  rfl

/-! ### The session a reset closes (R25, R186, step 2) -/

variable {s} {t : State} {r : Session} {l : List (Fin 4 × Batch)} {k : Fin 4}

/-- A cancelled arm leaves the injectors, the other arms and what the close reads. -/
theorem State.Winding.cancels {e : EndReason} (h : s.Winding t r l e) (k : Fin 4) :
    s.WindsArm t (t.cancel k) r e l k none := by
  have winds := t.cancel_windsDown k
  refine ⟨by simpa using h.windsDown winds, fun j apart => .of_injectors ?_ ?_⟩
  · rw [arm_cancel, if_neg apart]
  · obtain ⟨claims, reserved, closing, idle, deadman, arms, waiting, whole⟩ := winds
    rw [whole]

/-- The batch that a reset ends with arm `k`. -/
def State.resetEnd (s : State) (k : Fin 4) : Option (Fin 4 × Batch) :=
  if (s.arm k).state.running then (s.arm k).batch.map fun b => (k, b) else none

theorem State.Winding.resetArm (h : s.Winding t r l .reset) (awaits : s.Awaits t k)
    (distinct : ∀ b, (s.arm k).batch = some b → (b.doses.map DoseRec.injector).Nodup) :
    s.WindsArm t (t.resetArm k) r .reset l k (s.resetEnd k) := by
  have ends := h.batchEnd_winds awaits distinct
  have stops := h.cancels k
  have stands : s.WindsArm t t r .reset l k none := ⟨by simpa using h, fun j _ => .refl t j⟩
  unfold State.resetArm resetEnd
  rw [awaits.arm]
  cases state : (s.arm k).state with
  | idle => exact stands
  | ready => exact stops
  | waitInjector => exact stops
  | lowStart => exact ends
  | full => exact ends
  | slowdown => exact ends
  | suspended => exact ends
  | stopping => exact ends

theorem State.resetArms_winds (record : s.session.record = some r) (canonical : s.canonical = true)
    (distinct : ∀ k b, (s.arm k).batch = some b → (b.doses.map DoseRec.injector).Nodup) :
    s.Winding (armIxs.foldl State.resetArm s) r s.runningBatches .reset := by
  have fold := State.foldl_winds (ended := s.resetEnd) (fun t l k h awaits => h.resetArm awaits (distinct k)) armIxs
    (by decide) (.refl record canonical) fun k _ => .refl s k
  exact fold

end

end Sys2Proof.Machine
end

section
/-! SUPPORT. What the ends of batches and the close of a session leave, from every state (R24, R106, R107). -/

namespace Sys2Proof.Machine

/-- Between states `s` and `t` batches may end, arms be cancelled and the session close: the record, the permits, the
vehicles, the arms, the injectors, the events and the places may change, and of the rest nothing but the deadman, the
idle timer and what a volume engine holds besides its unauthorised remainder. -/
def State.Retires (s t : State) : Prop :=
  ∃ (record : Option Session) (idle : Option Nat) (permits : Tab PermitEntry) (vehicles : Tab VehicleEntry)
    (deadman : Deadman) (arms : Vector Arm 4) (volumes : Vector VolArm 4) (additive : AdditiveBlk)
    (places : List Place) (counter : NoteCounter) (uport : UPort),
    (∀ k, (Vec.get volumes k).unauthRem = (s.vol k).unauthRem) ∧ t = { s with
      session := { s.session with record := record, idleTimer := idle }
      tables := { s.tables with permits := permits, vehicles := vehicles }
      safety := { s.safety with deadman := deadman }, arms := arms, volumes := volumes, additive := additive
      custody := { s.custody with places := places, counter := counter }, uport := uport }

namespace State.Retires

variable {s t u : State}

theorem of_written {record : Option Session} {idle : Option Nat} {permits : Tab PermitEntry} {vehicles : Tab VehicleEntry}
    {deadman : Deadman} {arms : Vector Arm 4} {additive : AdditiveBlk} {places : List Place} {counter : NoteCounter}
    {uport : UPort} (written : t = { s with
      session := { s.session with record := record, idleTimer := idle }
      tables := { s.tables with permits := permits, vehicles := vehicles }
      safety := { s.safety with deadman := deadman }, arms := arms, additive := additive
      custody := { s.custody with places := places, counter := counter }, uport := uport }) : s.Retires t :=
  ⟨record, idle, permits, vehicles, deadman, arms, s.volumes, additive, places, counter, uport, fun _ => rfl, written⟩

theorem refl (s : State) : s.Retires s := of_written rfl

theorem trans (h : s.Retires t) (g : t.Retires u) : s.Retires u := by
  obtain ⟨record, idle, permits, vehicles, deadman, arms, volumes, additive, places, counter, uport, rem, rfl⟩ := h
  obtain ⟨record', idle', permits', vehicles', deadman', arms', volumes', additive', places', counter', uport', rem',
    rfl⟩ := g
  exact ⟨record', idle', permits', vehicles', deadman', arms', volumes', additive', places', counter', uport',
    fun k => (rem' k).trans (rem k), rfl⟩

theorem foldl {α : Type} {f : State → α → State} (each : ∀ (s : State) a, s.Retires (f s a)) (l : List α) (s : State) :
    s.Retires (l.foldl f s) := by
  induction l generalizing s with
  | nil => exact refl s
  | cons a l ih => exact (each s a).trans (ih (f s a))

theorem of_windsDown (h : s.WindsDown t) : s.Retires t := by
  obtain ⟨claims, reserved, closing, idle, deadman, arms, waiting, rfl⟩ := h
  exact of_written rfl

end State.Retires

section
variable (s : State)

theorem State.raise_retires (e : Event) : s.Retires (s.raise e) := .of_written (s.raise_eq_raised e)

theorem State.updSession_retires (f : Session → Session) : s.Retires (s.updSession f) := .of_written rfl

theorem State.setPermit_retires (i : Nat) (f : PermitEntry → PermitEntry) : s.Retires (s.setPermit i f) := by
  unfold setPermit
  dsimp only
  split_ifs
  · exact .refl s
  · exact .of_written rfl

theorem State.charge_retires (l : Nat) : s.Retires (s.charge l) := by
  unfold charge
  split
  · split
    · exact s.updSession_retires _
    · exact s.setPermit_retires _ _
    · exact .refl s
  · exact .refl s

theorem State.markProduct_retires (b : Batch) : s.Retires (s.markProduct b) := by
  unfold markProduct setLastProduct
  dsimp only
  split
  · split_ifs
    · exact .refl s
    · exact .of_written rfl
    · exact .refl s
  · exact .refl s

theorem State.recordEnd_retires (k : Fin 4) (b : Batch) (e : EndReason) : s.Retires (s.recordEnd k b e) := by
  unfold recordEnd
  dsimp only
  exact ((((s.updSession_retires _).trans (charge_retires _ _)).trans (markProduct_retires _ b)).trans
    (updSession_retires _ _)).trans ((updSession_retires _ _).trans (raise_retires _ _))

theorem State.finaliseDose_retires (k : Fin 4) (gross i : Nat) : s.Retires (s.finaliseDose k gross i) := by
  unfold finaliseDose
  split
  · exact .of_written rfl
  · exact .refl s

theorem State.releaseDoses_retires (k : Fin 4) : s.Retires (s.releaseDoses k true) := by
  unfold releaseDoses
  split
  · exact .foldl (fun t i => t.finaliseDose_retires k _ i) _ s
  · exact .refl s

theorem State.setArm_retires (k : Fin 4) (a : Arm) : s.Retires (s.setArm k a) := .of_written rfl

theorem State.setVol_retires (k : Fin 4) {v : VolArm} (rem : v.unauthRem = (s.vol k).unauthRem) :
    s.Retires (s.setVol k v) := by
  refine ⟨s.session.record, s.session.idleTimer, s.tables.permits, s.tables.vehicles, s.safety.deadman, s.arms,
    Vec.set s.volumes k v, s.additive, s.custody.places, s.custody.counter, s.uport, fun j => ?_, rfl⟩
  rw [Vec.get_set]
  split_ifs with same
  · rw [same, rem]
  · rfl

theorem State.dropBatch_retires (k : Fin 4) : s.Retires (s.dropBatch k) := by
  unfold dropBatch
  dsimp only
  refine .trans ?_ (.of_windsDown (moveArm_windsDown _ k .idle))
  exact (s.setArm_retires k _).trans (setVol_retires _ k rfl)

theorem State.batchEnd_retires (k : Fin 4) (e : EndReason) : s.Retires (s.batchEnd k e true) := by
  have released := s.releaseDoses_retires k
  unfold batchEnd
  dsimp only
  split
  · exact released.trans ((recordEnd_retires _ k _ e).trans (dropBatch_retires _ k))
  · exact released.trans (dropBatch_retires _ k)

theorem State.closeSession_retires (c : CloseReason) : s.Retires (s.closeSession c) := by
  cases record : s.session.record with
  | none =>
    rw [closeSession, record]
    exact .refl s
  | some r =>
    rw [s.closeSession_eq record]
    unfold closedCustody
    split_ifs <;> exact .of_written rfl

theorem State.resetArm_retires (k : Fin 4) : s.Retires (s.resetArm k) := by
  have ends := s.batchEnd_retires k .reset
  have stops : s.Retires (s.cancel k) := .of_windsDown (s.cancel_windsDown k)
  unfold resetArm
  cases (s.arm k).state with
  | idle => exact .refl s
  | ready => exact stops
  | waitInjector => exact stops
  | lowStart => exact ends
  | full => exact ends
  | slowdown => exact ends
  | suspended => exact ends
  | stopping => exact ends

theorem State.resetSession_retires : s.Retires s.resetSession :=
  (State.Retires.foldl (fun t k => t.resetArm_retires k) armIxs s).trans (closeSession_retires _ _)

end

end Sys2Proof.Machine
end

section
/-! PROOFS. The bay reset (R19, R25, R30, R45, R50, R62, R80, R127, R135, R150, R156, R168, R174, R186, R187). -/

namespace Sys2Proof.Machine

section
variable {s : State}

/-! ### The session that closes -/

theorem State.closeSession_closed (c : CloseReason) : (s.closeSession c).session.record = none := by
  cases record : s.session.record with
  | none => rw [closeSession, record, record]
  | some r => rw [s.closeSession_eq record]

theorem State.resetSession_closed : s.resetSession.session.record = none := closeSession_closed _

/-- With no session and every arm IDLE a reset ends nothing. -/
theorem State.resetSession_of_idle (closed : s.session.record = none) (idle : ∀ k, (s.arm k).state = .idle) :
    s.resetSession = s := by
  have each (l : List (Fin 4)) : l.foldl State.resetArm s = s := by
    induction l with
    | nil => rfl
    | cons k l ih =>
      have stands : s.resetArm k = s := by rw [resetArm, idle k]
      rw [List.foldl_cons, stands, ih]
  rw [resetSession, each, closeSession, closed]

/-- Events that the queue has room for join it in their order. -/
theorem State.foldl_raise_of_room (l : List Event) (s : State) (room : s.uport.events.length + l.length ≤ 32) :
    (l.foldl State.raise s).uport =
      { s.uport with events := s.uport.events ++ l.map fun e => ⟨e, s.custody.clock⟩ } := by
  induction l generalizing s with
  | nil => simp
  | cons e l ih =>
    have inside : s.uport.events.length < 32 := by simp only [List.length_cons] at room; omega
    have raised : (s.raise e).uport = { s.uport with events := s.uport.events ++ [⟨e, s.custody.clock⟩] } := by
      rw [raise_eq_raised, UPort.raised, if_pos inside]
    have clock : (s.raise e).custody.clock = s.custody.clock := by rw [raise_eq_raised]
    rw [List.foldl_cons, ih, raised, clock]
    · simp
    · rw [raised, List.length_append]
      simp only [List.length_cons, List.length_nil] at room ⊢
      omega

theorem State.closingEvents_length (r : Session) (l : List (Fin 4 × Batch)) (e : EndReason) (c : CloseReason) :
    (s.closingEvents r l e c).length ≤ l.length + 2 := by
  unfold closingEvents
  dsimp only
  rw [List.length_append, List.length_append, List.length_map]
  split_ifs <;> simp

theorem State.runningBatches_length (s : State) : s.runningBatches.length ≤ 4 := List.length_filterMap_le _ armIxs

theorem State.closesAll.of_cutLines {p : Pins} {u : State} {r : Session} {l : List (Fin 4 × Batch)}
    {e : EndReason} {c : CloseReason} (h : State.closesAll (cutLines { s with pins := p }) u r l e c) :
    s.closesAll u r l e c :=
  ⟨h.record, h.note, h.noNote, h.custody, h.tables, h.vehicle, h.vehicles⟩

theorem State.charges.of_cutLines {p : Pins} {u : State} {r : Session} {l : List (Fin 4 × Batch)}
    (h : State.charges (cutLines { s with pins := p }) u r l) : s.charges u r l :=
  ⟨h.server, h.permit, h.permits⟩

theorem State.resetSession_closes {u : State} {r : Session} (record : s.session.record = some r)
    (canonical : s.canonical = true)
    (distinct : ∀ k b, (s.arm k).batch = some b → (b.doses.map DoseRec.injector).Nodup)
    (closed : u.session.record = none) (custody : u.custody = s.resetSession.custody)
    (tables : u.tables = s.resetSession.tables) :
    s.closesAll u r s.runningBatches .reset .reset ∧ s.charges u r s.runningBatches ∧
      s.resetSession.uport = ((s.closingEvents r s.runningBatches .reset .reset).foldl State.raise s).uport := by
  have wound := s.resetArms_winds record canonical distinct
  have written : u.tables = (armIxs.foldl State.resetArm s).tables := by
    rw [tables, resetSession]
    simp
  obtain ⟨q, open_, alike⟩ := wound.record
  refine ⟨wound.closesAll .reset closed custody (by rw [written]; exact wound.tables) (by rw [written]),
    wound.charges (by rw [written]), ?_⟩
  rw [resetSession, closeSession_eq _ open_]
  exact wound.closeRaised alike .reset

/-! ### The blocks after the close -/

/-- The blocks of a bay reset from a state `t` that its second step leaves. -/
theorem State.resetBlocks_blocks (t : State) : t.resetBlocks.pins = t.pins ∧ t.resetBlocks.tables = t.tables ∧
    t.resetBlocks.session = t.session.loseVolatile ∧ t.resetBlocks.safety.faults = t.safety.faults ∧
    t.resetBlocks.safety.deadman = Deadman.powerOn ∧ t.resetBlocks.arms = Vector.replicate 4 (Arm.powerOn none) ∧
    t.resetBlocks.additive = AdditiveBlk.powerOn ∧ t.resetBlocks.custody = t.custody ∧
    t.resetBlocks.uport = t.resetUport ∧ t.resetBlocks.dport = t.resetDport ∧ t.resetBlocks.retention =
      { t.retention with correctable := 0, overflow := false, cursor := 0, passes := 0 } := by
  obtain ⟨inputs, meters, volumes, whole⟩ := t.resetBlocks_begun
  rw [whole]
  exact ⟨rfl, rfl, rfl, rfl, rfl, rfl, rfl, rfl, rfl, rfl, rfl⟩

end

theorem exec_bayReset_pin {s : State} (live : s.live = true) : exec (.bayReset .pin) s =
    .next (if s.pins.brst then s else (s.withPins { s.pins with brst := true }).bayReset) :=
  whenPowered_of_live s live fun t => if t.pins.brst then t else (t.withPins { t.pins with brst := true }).bayReset

theorem exec_bayReset_request {s : State} (live : s.live = true) : exec (.bayReset .request) s =
    .next (if s.uport.resetDue then s.bayReset else s) :=
  whenPowered_of_live s live fun t => if t.uport.resetDue then t.bayReset else t

/-- A reset that is due runs on the state with its pins, BRST seen asserted where the pin asks. -/
theorem exec_bayReset {s : State} (live : s.live = true) {src : ResetSource}
    (due : src = .pin ∧ s.pins.brst = false ∨ src = .request ∧ s.uport.resetDue = true) :
    ∃ p : Pins, exec (.bayReset src) s = .next (State.bayReset { s with pins := p }) ∧
      (src = .pin → p = { s.pins with brst := true }) := by
  rcases due with ⟨rfl, released⟩ | ⟨rfl, asked⟩
  · exact ⟨{ s.pins with brst := true },
      (exec_bayReset_pin live).trans (congrArg Host.Outcome.next (if_neg (by simp [released]))), fun _ => rfl⟩
  · exact ⟨s.pins, (exec_bayReset_request live).trans (congrArg Host.Outcome.next (if_pos asked)), by simp⟩

/-- Settles O58: the arms end or are cancelled one after another, the session closes, and every block takes its reset
value; then the channels start and the pins are watched. -/
theorem bayReset : Obligations.BayReset := by
  intro s live
  have held (brst : s.pins.brst = true) : exec (.bayReset .pin) s = .next s := by
    rw [exec_bayReset_pin live, if_pos brst]
  have early (due : s.uport.resetDue = false) : exec (.bayReset .request) s = .next s := by
    rw [exec_bayReset_request live, if_neg (by simp [due])]
  have released : exec .brstRelease s = .next { s with pins := { s.pins with brst := false } } :=
    whenPowered_of_live s live fun t => t.withPins { t.pins with brst := false }
  refine ⟨held, early, released, fun src due => ?_⟩
  obtain ⟨p, run, pins⟩ := exec_bayReset live due
  refine ⟨_, run, ?_⟩
  have errors := State.bayReset_lineErrors { s with pins := p }
  have idle := State.resetSession_of_idle (s := State.cutLines { s with pins := p })
  have closed := State.resetSession_closed (s := State.cutLines { s with pins := p })
  have leaves := State.resetSession_retires (State.cutLines { s with pins := p })
  have closes := fun u r => State.resetSession_closes (s := State.cutLines { s with pins := p }) (u := u) (r := r)
  have parts : State.bayReset { s with pins := p } = (State.cutLines { s with pins := p }).resetSession.resetBlocks := rfl
  rw [parts] at errors ⊢
  generalize (State.cutLines { s with pins := p }).resetSession = t at *
  obtain ⟨pinsOf, tables, session, faults, deadman, arms, additive, custody, uport, dport, retention⟩ := t.resetBlocks_blocks
  have input := t.input_resetBlocks
  have meter := t.meter_resetBlocks
  have vol := t.vol_resetBlocks
  have arm (k : Fin 4) : t.resetBlocks.arm k = Arm.powerOn none := by rw [State.arm, arms, Vec.get_replicate]
  have inj (j : Fin 6) : t.resetBlocks.inj j = Injector.powerOn := by
    rw [State.inj, additive]
    exact Vec.get_replicate ..
  have station (i : Fin 12) : t.resetBlocks.station i = Vec.get t.freshStations i := by rw [State.station, dport]; rfl
  have still : t.resetBlocks.session.record = none := by rw [session]; exact closed
  generalize t.resetBlocks = u at *
  have same (unused : s.session.record = none) (allIdle : ∀ k, (s.arm k).state = .idle) := idle unused allIdle
  have ends := fun r => closes u r
  obtain ⟨_, _, permits, vehicles, _, _, volumes, _, places, counter, events, rem, rfl⟩ := leaves
  refine ⟨fun pin => pinsOf.trans (pins pin), still, by rw [session]; rfl, by rw [session]; rfl, by rw [session]; rfl,
    by rw [session]; rfl, by rw [session]; rfl, by rw [session]; rfl, faults, arm, fun k => by rw [State.valve, arm]; rfl,
    inj, by rw [additive]; rfl, input, deadman, by rw [uport]; rfl, by rw [uport]; rfl, by rw [uport]; rfl,
    by rw [uport]; rfl, by rw [uport]; rfl, errors, by rw [dport]; rfl, by rw [dport]; rfl,
    fun i => (station i).trans (Vec.get_freshStations _ i), by rw [dport]; rfl, by rw [dport]; rfl, retention,
    by rw [custody]; rfl, by rw [custody]; rfl, fun k => ?_, fun k => ?_, fun unused allIdle => ?_,
    fun r record canonical distinct => ?_⟩
  · rw [meter]
    exact ⟨rfl, rfl, fun enabled => ⟨if_pos enabled, if_pos enabled, if_pos enabled⟩⟩
  · rw [vol]
    exact ⟨rem k, rfl, rfl, rfl⟩
  · have stands := same unused allIdle
    exact ⟨tables.trans (congrArg State.tables stands :), custody.trans (congrArg State.custody stands :), by
      rw [uport]; exact (congrArg (fun x : State => x.uport.events) stands :), by
      rw [uport]; exact (congrArg (fun x : State => x.uport.lost) stands :)⟩
  · obtain ⟨all, charged, raised⟩ := ends r record canonical distinct still custody tables
    have room : (s.closingEvents r s.runningBatches .reset .reset).length ≤ 32 := by
      have few := s.closingEvents_length r s.runningBatches .reset .reset
      have arms := s.runningBatches_length
      omega
    have queue := State.foldl_raise_of_room (s.closingEvents r s.runningBatches .reset .reset)
      (State.cutLines { s with pins := p }) (by simpa [State.cutLines] using room)
    have raised' := raised.trans queue
    refine ⟨State.closesAll.of_cutLines all, State.charges.of_cutLines charged, by rw [uport]; exact
      (congrArg UPort.lost raised' :), ?_⟩
    rw [uport]
    exact (congrArg UPort.events raised' :)

end Sys2Proof.Machine
end

section
/-! SUPPORT. The state after a loss of supply, and what a start makes of the directory, the channels and the pins (R20,
R30, R50, R77, R110, R112, R168, R190). -/

namespace Sys2Proof.Machine

section
variable (s : State)

/-! ### The volatile state (R190, step 1) -/

theorem State.owedRollover_eq : s.owedRollover = { s with
    tables := { s.tables with permits := s.owedRollover.tables.permits }
    session := { s.session with
      quotaDay := if s.custody.midnight then s.custody.clock / 86400 else s.session.quotaDay }
    custody := { s.custody with midnight := false }, uport := s.owedRollover.uport } := by
  by_cases owed : s.custody.midnight = true
  · rw [if_pos owed, s.owedRollover_of_owed owed, rollover_eq]
    rfl
  · have made : s.custody.midnight = false := by simpa using owed
    rw [if_neg owed, s.owedRollover_of_made made, ← made]

theorem State.permit_owedRollover (canonical : s.canonical = true) (i : Nat) : s.owedRollover.permit i =
    { s.permit i with usedToday := if s.custody.midnight then 0 else (s.permit i).usedToday } := by
  cases owed : s.custody.midnight with
  | true =>
    rw [s.owedRollover_of_owed owed]
    exact State.permit_rollover (s := s.withCustody { s.custody with midnight := false }) canonical i
  | false => rw [s.owedRollover_of_made owed]; rfl

/-- The D port at power-on with the directory's stations (R168, Table 8-7). -/
def State.freshDport : DPort :=
  { DPort.powerOn s.pins.straps with stations := s.freshStations, cursor := s.firstListed }

theorem State.portsOn_eq : s.portsOn = { s with uport := UPort.powerOn s.pins.straps, dport := s.freshDport } := by
  unfold portsOn
  rw [freshDirectory_eq]
  rfl

/-- The volatile blocks other than the ports and the retention controller. -/
def State.unportedBlank : State := { s with
  session := s.session.loseVolatile, safety := s.safety.powerOn, meters := Vector.ofFn fun k => (s.meter k).blank
  volumes := Vector.replicate 4 VolArm.powerOn
  arms := Vector.ofFn fun k => Arm.powerOn ((s.arm k).batch.map retainedBatch), additive := AdditiveBlk.powerOn
  custody := { s.custody with midnight := false } }

/-- The blocks at their volatile power-on values. -/
def State.blank : State := { s with
  session := s.session.loseVolatile, safety := s.safety.powerOn, meters := Vector.ofFn fun k => (s.meter k).blank
  volumes := Vector.replicate 4 VolArm.powerOn
  arms := Vector.ofFn fun k => Arm.powerOn ((s.arm k).batch.map retainedBatch), additive := AdditiveBlk.powerOn
  custody := { s.custody with midnight := false }, uport := UPort.powerOn s.pins.straps, dport := s.freshDport
  retention := { s.retention with correctable := 0, overflow := false, cursor := 0, passes := 0, reads := [] } }

theorem State.blankVolatile_eq : s.blankVolatile = s.blank := by
  have cleared : s.unportedBlank.portsOn.withRetention
      { s.retention with correctable := 0, overflow := false, cursor := 0, passes := 0, reads := [] } = s.blank := by
    rw [portsOn_eq]
    rfl
  rw [← cleared]
  rfl

/-- The pins as they stand at power-on: those of the inputs and of the channels with them. -/
theorem State.readPins_eq (p : PinLevels) : ∃ inputs meters, s.readPins p = { s with
    pins := ⟨p.straps, p.brst⟩, safety := { s.safety with inputs := inputs }, meters := meters } := by
  have each (level : SafetyInput → Bool) (l : List SafetyInput) (t : State) : ∃ inputs,
      l.foldl (fun t i => t.setInput i { t.input i with pin := level i }) t =
        { t with safety := { t.safety with inputs := inputs } } := by
    induction l generalizing t with
    | nil => exact ⟨_, rfl⟩
    | cons i l ih =>
      rw [List.foldl_cons]
      obtain ⟨inputs, whole⟩ := ih (t.setInput i { t.input i with pin := level i })
      exact ⟨inputs, whole⟩
  unfold readPins
  extract_lets level s1 s2
  obtain ⟨inputs, whole⟩ := each level inputIxs s1
  change s2 = _ at whole
  clear_value s2
  subst whole
  exact ⟨inputs, _, rfl⟩

/-! ### The directory, the channels and the pins of a start -/

/-- The last step of a start: the directory, the channels, the pins. -/
def State.started : State := s.freshDirectory.startChannels.watchPins

theorem State.started_stands : s.started.powered = s.powered ∧ s.started.tables = s.tables ∧
    s.started.session = s.session ∧ s.started.safety.faults = s.safety.faults ∧ s.started.arms = s.arms ∧
    s.started.custody = s.custody ∧ s.started.uport = s.uport ∧ s.started.retention = s.retention ∧
    s.started.dport.round = 0 ∧ s.started.dport.cursor = s.firstListed := by
  obtain ⟨inputs, meters, volumes, begun⟩ : ∃ inputs meters volumes,
      s.started = s.freshDirectory.begun inputs meters volumes := ⟨_, _, _, State.watchPins_startChannels⟩
  rw [begun, freshDirectory_eq]
  exact ⟨rfl, rfl, rfl, rfl, rfl, rfl, rfl, rfl, rfl, rfl⟩

theorem State.started_running (k : Fin 4) : (s.started.meter k).running = (s.armEntry k).enabled := by
  rw [started, State.meter_watchPins, State.startChannels_starts.2.1, freshDirectory_eq]
  rfl

end

end Sys2Proof.Machine
end

section
/-! SUPPORT. The part as a start finds it, and a start with retention invalid (R190, R191). -/

namespace Sys2Proof.Machine

section
variable (s : State) (p : PinLevels)

/-- The part at power-on, before retention is looked at (R190, steps 1 and 2). -/
def State.found : State := ((s.readPins p).loseVolatile).withPowered true

theorem State.found_stands : (s.found p).powered = true ∧
    (s.found p).tables = { s.tables with permits := (s.found p).tables.permits } ∧
    (s.found p).session = { s.session.loseVolatile with
      quotaDay := if s.custody.midnight then s.custody.clock / 86400 else s.session.quotaDay } ∧
    (s.found p).safety.faults = s.safety.faults ∧
    (∀ k, (s.found p).arm k = Arm.powerOn ((s.arm k).batch.map retainedBatch)) ∧
    (∀ j, (s.found p).inj j = Injector.powerOn) ∧
    (s.found p).custody = { s.custody with midnight := false } ∧ (s.found p).uport = UPort.powerOn p.straps := by
  obtain ⟨inputs, meters, read⟩ := s.readPins_eq p
  unfold found loseVolatile
  rw [read, blankVolatile_eq]
  have whole := State.owedRollover_eq { s with
    pins := ⟨p.straps, p.brst⟩, safety := { s.safety with inputs := inputs }, meters := meters }
  generalize State.owedRollover _ = t at whole ⊢
  generalize t.tables.permits = permits, t.uport = uport at whole
  subst whole
  exact ⟨rfl, rfl, rfl, rfl, fun k => Vec.get_ofFn _ k, fun j => Vec.get_replicate .., rfl, rfl⟩

theorem State.found_tables (made : s.custody.midnight = false) : (s.found p).tables = s.tables := by
  obtain ⟨inputs, meters, read⟩ := s.readPins_eq p
  unfold found loseVolatile
  rw [read, blankVolatile_eq]
  have stands := State.owedRollover_of_made { s with
    pins := ⟨p.straps, p.brst⟩, safety := { s.safety with inputs := inputs }, meters := meters } made
  rw [stands]
  rfl

/-- A start goes on from what retention holds where it was kept and its marker stands. -/
theorem State.startUp_eq (kept : Bool) (findings : List Finding) : s.startUp p kept findings =
    State.started (if kept && s.retention.marker then (s.found p).retentionKept findings
      else (s.found p).retentionCleared) := rfl

/-- Retention cleared (R191), from a state whose event queue is empty. -/
theorem State.retentionCleared_stands (s : State) (empty : s.uport.events = []) :
    s.retentionCleared.powered = s.powered ∧ s.retentionCleared.tables = clearedTables ∧
    s.retentionCleared.custody = CustodyBlk.cleared ∧
    s.retentionCleared.session = ⟨false, 0, none, none, none, 0, none, none⟩ ∧
    s.retentionCleared.safety.faults = Vector.replicate 11 FaultRec.empty ∧
    s.retentionCleared.arms = Vector.replicate 4 (Arm.powerOn none) ∧
    s.retentionCleared.retention = RetCtl.powerOn false ∧
    s.retentionCleared.uport = { s.uport with events := [⟨.retentionLost, 0⟩] } := by
  unfold retentionCleared
  dsimp only
  rw [raise_eq_raised]
  refine ⟨rfl, rfl, rfl, rfl, rfl, rfl, rfl, ?_⟩
  change s.uport.raised 0 .retentionLost = _
  rw [UPort.raised, empty]
  rfl

theorem clearedTables_unlisted (s : State) (tables : s.tables = clearedTables) :
    s.firstListed = none ∧ ∀ k, (s.armEntry k).enabled = false := by
  have device (i : Fin 12) : s.device i = emptyDevice := by rw [State.device, tables]; rfl
  refine ⟨?_, fun k => by rw [State.armEntry, tables]; rfl⟩
  simp [State.firstListed, device, emptyDevice]

/-- With no session, no fault and the service flag clear the bay is out of service (R9). -/
theorem State.bayState_of_cleared (closed : s.session.record = none) (faults : ∀ c, s.fault c = FaultRec.empty)
    (out : s.session.inService = false) : s.bayState = .outOfService := by
  have unlatched : ¬s.stopBayLatched = true := fun latched => by
    obtain ⟨c, held⟩ := s.stopBayLatched_iff.1 latched
    rw [faults c] at held
    cases held
  rw [bayState_of_none s closed, if_neg unlatched, out]
  rfl

end

end Sys2Proof.Machine
end

section
/-! SUPPORT. A start with retention valid: the session found is closed, the batches go, the day is checked (R20, R26,
R107, R134, R180, R190). -/

namespace Sys2Proof.Machine

section
variable (s : State)

/-! ### The last steps with retention valid -/

/-- The day on the bay clock is another than the quota day. -/
def State.late : Prop := s.custody.clock / 86400 ≠ s.session.quotaDay

/-- The steps of R190 after the session's close. -/
def State.resumed : State := s.dropBatches.rolloverCheck.resumeService

variable {s} in
theorem State.resumed_eq_of_late (late : s.late) : s.resumed = s.dropBatches.rollover.resumeService :=
  congrArg State.resumeService (if_pos late)

variable {s} in
theorem State.resumed_eq_of_today (today : ¬s.late) : s.resumed = s.dropBatches.resumeService :=
  congrArg State.resumeService (if_neg today)

theorem State.resumed_stands : s.resumed.powered = s.powered ∧
    s.resumed.tables = { s.tables with permits := s.resumed.tables.permits } ∧
    s.resumed.session = { s.session with
      quotaDay := s.custody.clock / 86400, inService := s.session.inService && s.bay.resumeInService } ∧
    s.resumed.safety = s.safety ∧ s.resumed.custody = s.custody ∧ s.resumed.retention = s.retention ∧
    ∀ k, s.resumed.arm k = { s.arm k with batch := none } := by
  have dropped (k : Fin 4) : s.dropBatches.arm k = { s.arm k with batch := none } := Vec.get_ofFn _ k
  by_cases late : s.late
  · rw [resumed_eq_of_late late, rollover_eq]
    exact ⟨rfl, rfl, rfl, rfl, rfl, rfl, dropped⟩
  · rw [resumed_eq_of_today late]
    have day : s.custody.clock / 86400 = s.session.quotaDay := not_not.1 late
    exact ⟨rfl, rfl, by rw [day]; rfl, rfl, rfl, rfl, dropped⟩

theorem State.resumed_of_late (late : s.late) :
    s.resumed.tables.permits = tabMap emptyPermit unused s.tables.permits ∧
    s.resumed.uport = (s.raise (.dayRollover (s.custody.clock / 86400))).uport := by
  rw [resumed_eq_of_late late, rollover_eq, raise_eq_raised]
  exact ⟨rfl, rfl⟩

theorem State.resumed_of_today (today : ¬s.late) : s.resumed.tables = s.tables ∧ s.resumed.uport = s.uport := by
  rw [resumed_eq_of_today today]
  exact ⟨rfl, rfl⟩

/-! ### The session found -/

theorem State.powerLossArm_retires (k : Fin 4) : s.Retires (s.powerLossArm k) := by
  unfold powerLossArm
  split
  · split_ifs
    · exact s.batchEnd_retires k _
    · exact s.dropBatch_retires k
  · exact .refl s

theorem State.powerLossClose_retires : s.Retires s.powerLossClose := by
  unfold powerLossClose
  split
  · split_ifs
    · exact .of_written rfl
    · exact (State.Retires.foldl (fun t k => t.powerLossArm_retires k) armIxs s).trans (closeSession_retires _ _)
  · exact .refl s

/-- Between the two states the permits differ at most in what has been used today. -/
def State.Recharges (s t : State) : Prop :=
  s.canonical = true → t.canonical = true ∧ ∀ i, unused (t.permit i) = unused (s.permit i)

theorem State.Recharges.of_permits {s t : State} (keeps : s.Keeps t) (permits : t.tables.permits = s.tables.permits) :
    s.Recharges t := fun canonical => ⟨keeps.canonical canonical, fun i => by rw [permit, permits, ← permit]⟩

theorem State.Recharges.trans {s t u : State} (h : s.Recharges t) (g : t.Recharges u) : s.Recharges u := fun canonical =>
  have ⟨middle, first⟩ := h canonical
  have ⟨last, second⟩ := g middle
  ⟨last, fun i => (second i).trans (first i)⟩

theorem State.Recharges.foldl {α : Type} {f : State → α → State} (each : ∀ (s : State) a, s.Recharges (f s a)) (l : List α)
    (s : State) : s.Recharges (l.foldl f s) := by
  induction l generalizing s with
  | nil => exact .of_permits (.refl s) rfl
  | cons a l ih => exact (each s a).trans (ih (f s a))

variable {s} in
/-- A charge writes what has been used today, of an entry that stands. -/
theorem State.charge_recharges {l : Nat} (canonical : s.canonical = true) (i : Nat) :
    unused ((s.charge l).permit i) = unused (s.permit i) := by
  unfold charge
  split
  · split
    · rfl
    · next p _ _ =>
      cases damaged : (tabGet emptyPermit s.tables.permits p).damaged with
      | true => rw [setPermit, if_pos damaged]
      | false =>
        rw [permit_setPermit canonical damaged]
        split_ifs with same
        · rw [same]
          rfl
        · rfl
    · rfl
  · rfl

theorem State.recordEnd_permits (k : Fin 4) (b : Batch) (e : EndReason) : (s.recordEnd k b e).tables.permits =
    ((s.unreserve b.preset).charge (deliveredLitres b)).tables.permits := by
  have marks (t : State) : (t.markProduct b).tables.permits = t.tables.permits := by
    unfold markProduct setLastProduct
    dsimp only
    split
    · split_ifs <;> rfl
    · rfl
  unfold recordEnd
  dsimp only
  rw [raise_eq_raised]
  exact marks _

variable {s} in
theorem State.recordEnd_recharges (canonical : s.canonical = true) (k : Fin 4) (b : Batch) (e : EndReason) (i : Nat) :
    unused ((s.recordEnd k b e).permit i) = unused (s.permit i) := by
  rw [permit, recordEnd_permits]
  exact charge_recharges (s := s.unreserve b.preset) canonical i

theorem State.batchEnd_recharges (k : Fin 4) (e : EndReason) : s.Recharges (s.batchEnd k e true) := fun canonical => by
  refine ⟨(s.batchEnd_keeps k e true).canonical canonical, fun i => ?_⟩
  have drops (t : State) : (t.dropBatch k).permit i = t.permit i := by
    rw [permit, (dropBatch_stands t k).2.1, permit]
  have released : (s.releaseDoses k true).tables = s.tables := by simp
  unfold batchEnd
  dsimp only
  split
  · rw [drops, recordEnd_recharges ((canonical_congr released).trans canonical), permit, released, permit]
  · rw [drops, permit, released, permit]

theorem State.powerLossClose_recharges (idle : ∀ k, (s.arm k).state = .idle) : s.Recharges s.powerLossClose := by
  have drops (t : State) (k : Fin 4) : t.Recharges (t.dropBatch k) :=
    .of_permits (t.dropBatch_keeps k) (by rw [(dropBatch_stands t k).2.1])
  have each (t : State) (k : Fin 4) : t.Recharges (t.powerLossArm k) := by
    unfold powerLossArm
    split
    · split_ifs
      · exact t.batchEnd_recharges k _
      · exact drops t k
    · exact .of_permits (.refl t) rfl
  intro canonical
  refine ⟨(s.powerLossClose_keeps idle).canonical canonical, fun i => ?_⟩
  unfold powerLossClose
  split
  · split_ifs
    · rfl
    · have ends := (State.Recharges.foldl each armIxs s canonical).2 i
      have closes (t : State) : (t.closeSession .powerLoss).permit i = t.permit i := by
        rw [permit, (t.closeSession_frame _).2.2.2.1, permit]
      rw [closes, ends]
  · rfl

end

end Sys2Proof.Machine
end

section
/-! SUPPORT. A start with retention valid, from the state that the scan leaves (R20, R26, R107, R134, R190). -/

namespace Sys2Proof.Machine

section
variable {s t w : State} {r : Session} {l : List (Fin 4 × Batch)} {k : Fin 4}

/-- The batch that a start ends with arm `k`. -/
def State.lossEnd (s : State) (k : Fin 4) : Option (Fin 4 × Batch) :=
  (s.arm k).batch.bind fun b => if b.phase = .started then some (k, b) else none

theorem State.Winding.powerLossArm (h : s.Winding t r l .powerLoss) (awaits : s.Awaits t k)
    (distinct : ∀ b, (s.arm k).batch = some b → (b.doses.map DoseRec.injector).Nodup) :
    s.WindsArm t (t.powerLossArm k) r .powerLoss l k (s.lossEnd k) := by
  have ends := h.batchEnd_winds awaits distinct
  unfold State.powerLossArm lossEnd
  rw [awaits.arm]
  cases held : (s.arm k).batch with
  | none => exact ⟨by simpa using h, fun j _ => .refl t j⟩
  | some b =>
    rw [held] at ends
    dsimp only [Option.bind_some]
    by_cases started : b.phase = .started
    · rw [if_pos started, if_pos started]
      exact ends
    · rw [if_neg started, if_neg started]
      exact ⟨by simpa using h.drops k, fun j apart => t.dropBatch_awaits apart⟩

theorem State.powerLossArms_wind (record : s.session.record = some r) (canonical : s.canonical = true)
    (distinct : ∀ k b, (s.arm k).batch = some b → (b.doses.map DoseRec.injector).Nodup) :
    s.Winding (armIxs.foldl State.powerLossArm s) r s.startedBatches .powerLoss :=
  State.foldl_winds (ended := s.lossEnd) (fun _ _ k h awaits => h.powerLossArm awaits (distinct k)) armIxs (by decide)
    (.refl record canonical) fun k _ => .refl s k

/-! ### The close -/

theorem State.powerLossClose_of_open (record : w.session.record = some r) (unclosed : r.closed = false) :
    w.powerLossClose = (armIxs.foldl State.powerLossArm w).closeSession .powerLoss := by
  unfold powerLossClose
  rw [record]
  exact if_neg (by simp [unclosed])

theorem State.setRecord_of_none (record : w.session.record = none) : w.setRecord none = w := by
  rw [setRecord, ← record]
  rfl

theorem State.powerLossClose_of_shut (shut : ∀ r, w.session.record = some r → r.closed = true) :
    w.powerLossClose = w.setRecord none := by
  unfold powerLossClose
  cases record : w.session.record with
  | none => exact (setRecord_of_none record).symm
  | some r => exact if_pos (shut r record)

theorem State.powerLossClose_closed (w : State) : w.powerLossClose.session.record = none := by
  cases record : w.session.record with
  | none => rw [powerLossClose_of_shut fun r held => by rw [record] at held; cases held]; rfl
  | some r =>
    cases closed : r.closed with
    | false =>
      rw [powerLossClose_of_open record closed]
      exact closeSession_closed _
    | true =>
      rw [powerLossClose_of_shut fun r' held => by
        rw [← Option.some.inj (record.symm.trans held)]
        exact closed]
      rfl

/-! ### The start that goes on from the scan -/

/-- The end of a start from the state `w` that its scan leaves. -/
def State.concluded (w : State) : State := w.powerLossClose.resumed.started

theorem State.retentionKept_started (a : State) (findings : List Finding) : (a.retentionKept findings).started =
    (findings.foldl (State.readWord true) (a.withRetention (RetCtl.powerOn true))).concluded := rfl

/-- What the end of a start makes of the session block, and what it leaves. -/
theorem State.concluded_stands (w : State) : w.concluded.powered = w.powered ∧ w.concluded.session.record = none ∧
    w.concluded.session.inService = (w.session.inService && w.bay.resumeInService) ∧
    w.concluded.session.quotaDay = w.custody.clock / 86400 ∧ w.concluded.safety.faults = w.safety.faults ∧
    w.concluded.custody.clock = w.custody.clock ∧ w.concluded.custody.gross = w.custody.gross ∧
    w.concluded.retention = w.retention ∧ w.concluded.dport.round = 0 ∧ w.concluded.dport.cursor = w.firstListed ∧
    (w.powerLossClose.late ↔ w.late) ∧ w.concluded.tables.vehicles = w.powerLossClose.tables.vehicles ∧
    w.concluded.tables =
      { w.tables with permits := w.concluded.tables.permits, vehicles := w.concluded.tables.vehicles } ∧
    w.concluded.custody = w.powerLossClose.custody := by
  have closed := w.powerLossClose_closed
  have leaves := w.powerLossClose_retires
  unfold concluded
  generalize w.powerLossClose = x at *
  obtain ⟨powered, tables, session, safety, custody, retention, -⟩ := x.resumed_stands
  obtain ⟨powered', tables', session', faults', -, custody', -, retention', round, cursor⟩ := x.resumed.started_stands
  have listed : x.resumed.firstListed = x.firstListed := by
    unfold firstListed device
    rw [tables]
  rw [powered] at powered'
  rw [session] at session'
  rw [safety] at faults'
  rw [custody] at custody'
  rw [retention] at retention'
  rw [listed] at cursor
  rw [powered', session', faults', custody', retention', tables', tables]
  obtain ⟨_, _, permits, vehicles, _, _, volumes, _, places, counter, events, rem, rfl⟩ := leaves
  exact ⟨rfl, closed, rfl, rfl, rfl, rfl, rfl, rfl, round, cursor, .rfl, rfl, rfl, rfl⟩

theorem State.concluded_arms (w : State) (k : Fin 4) : (w.concluded.arm k).state = (w.powerLossClose.arm k).state ∧
    (w.concluded.arm k).batch = none := by
  have arms := w.powerLossClose.resumed.started_stands.2.2.2.2.1
  have dropped := w.powerLossClose.resumed_stands.2.2.2.2.2.2 k
  have arm : w.concluded.arm k = { w.powerLossClose.arm k with batch := none } := (arm_congr arms k).trans dropped
  rw [arm]
  exact ⟨rfl, rfl⟩

theorem State.concluded_of_late (late : w.late) :
    w.concluded.tables.permits = tabMap emptyPermit unused w.powerLossClose.tables.permits ∧
    w.concluded.uport = (w.powerLossClose.raise (.dayRollover (w.custody.clock / 86400))).uport := by
  obtain ⟨-, -, -, -, -, -, -, -, -, -, same, -⟩ := w.concluded_stands
  obtain ⟨-, tables, -, -, -, -, uport, -⟩ := w.powerLossClose.resumed.started_stands
  obtain ⟨permits, events⟩ := w.powerLossClose.resumed_of_late (same.2 late)
  have clock : w.powerLossClose.custody.clock = w.custody.clock := by
    obtain ⟨_, _, _, _, _, _, _, _, _, _, _, -, whole⟩ := w.powerLossClose_retires
    rw [whole]
  rw [clock] at events
  exact ⟨(congrArg Tables.permits tables).trans permits, uport.trans events⟩

theorem State.concluded_of_today (today : ¬w.late) : w.concluded.tables = w.powerLossClose.tables ∧
    w.concluded.uport = w.powerLossClose.uport := by
  obtain ⟨-, -, -, -, -, -, -, -, -, -, same, -⟩ := w.concluded_stands
  obtain ⟨-, tables, -, -, -, -, uport, -⟩ := w.powerLossClose.resumed.started_stands
  obtain ⟨stands, events⟩ := w.powerLossClose.resumed_of_today fun late => today (same.1 late)
  exact ⟨tables.trans stands, uport.trans events⟩

end

end Sys2Proof.Machine
end

section
/-! PROOFS. Loss of the main supply, and start-up (R20, R26, R45, R61, R77, R80, R107, R112, R134, R150, R168, R174, R187,
R188, R190, R191). -/

namespace Sys2Proof.Machine

section
variable {s v w : State} {r : Session}

/-! ### The arms and the session that a start closes -/

theorem State.powerLossClose_idle (idle : ∀ k, (w.arm k).state = .idle) (k : Fin 4) :
    (w.powerLossClose.arm k).state = .idle := by
  unfold powerLossClose
  split
  · split_ifs
    · exact idle k
    · rw [arm_congr (s := armIxs.foldl powerLossArm w) (by simp)]
      exact powerLossArms_idle armIxs idle k
  · exact idle k

/-- The close of the session found, in the state that the start ends in. -/
theorem State.concluded_closes (canonical : w.canonical = true) (record : w.session.record = some r)
    (unclosed : r.closed = false)
    (distinct : ∀ k b, (w.arm k).batch = some b → (b.doses.map DoseRec.injector).Nodup) :
    w.closesAll w.concluded r w.startedBatches .powerLoss .powerLoss ∧
      (¬w.late → w.charges w.concluded r w.startedBatches) ∧ w.powerLossClose.uport =
        ((w.closingEvents r w.startedBatches .powerLoss .powerLoss).foldl State.raise w).uport := by
  have wound := w.powerLossArms_wind record canonical distinct
  have shut := powerLossClose_of_open record unclosed
  have written : w.powerLossClose.tables = (armIxs.foldl State.powerLossArm w).tables := by rw [shut]; simp
  obtain ⟨-, closed, -, -, -, -, -, -, -, -, -, vehicles, tables, custody⟩ := w.concluded_stands
  refine ⟨wound.closesAll .powerLoss closed (by rw [custody, shut]) tables (by rw [vehicles, written]), fun today =>
    wound.charges (by rw [(concluded_of_today today).1, written]), ?_⟩
  obtain ⟨q, open_, alike⟩ := wound.record
  rw [shut, closeSession_eq _ open_]
  exact wound.closeRaised alike .powerLoss

theorem State.raise_uport_of_clock {t : State} (uport : t.uport = s.uport) (clock : t.custody.clock = s.custody.clock)
    (e : Event) : (t.raise e).uport = (s.raise e).uport := by
  rw [raise_eq_raised, raise_eq_raised, uport, clock]

open Classical in
/-- The event queue at the end of a start, from a state `c` that holds the close's events. -/
theorem State.concluded_uport {c : State} (uport : w.powerLossClose.uport = c.uport)
    (clock : c.custody.clock = w.custody.clock) : w.concluded.uport =
      (if w.late then c.raise (.dayRollover (w.custody.clock / 86400)) else c).uport := by
  split_ifs with late
  · refine (concluded_of_late late).2.trans (raise_uport_of_clock uport ?_ _)
    obtain ⟨_, _, _, _, _, _, _, _, _, _, _, -, whole⟩ := w.powerLossClose_retires
    rw [whole, clock]
  · exact (concluded_of_today late).2.trans uport

theorem State.permit_concluded (canonical : w.canonical = true) (idle : ∀ k, (w.arm k).state = .idle) (late : w.late)
    (i : Nat) : w.concluded.permit i = { w.permit i with usedToday := 0 } := by
  obtain ⟨kept, same⟩ := w.powerLossClose_recharges idle canonical
  rw [permit, (concluded_of_late late).1, tabRead_tabMap unused rfl _ ((canonical_iff _).1 kept).1 i]
  exact same i

/-! ### The scan -/

theorem State.readWords_scan (l : List Finding) (v : State) : v.Keeps (l.foldl (State.readWord true) v) :=
  .foldl (fun t f => t.readWord_keeps true f) l v

theorem State.readWords_scan_idle (l : List Finding) (idle : ∀ k, (v.arm k).state = .idle) (k : Fin 4) :
    ((l.foldl (State.readWord true) v).arm k).state = .idle :=
  (foldl_frame (p := fun t : State => (t.arm k).state) (fun t f => t.readWord_scan_state f k) l v).trans (idle k)

/-- The part as the scan finds it. -/
def State.scanned (s : State) (p : PinLevels) : State := (s.found p).withRetention (RetCtl.powerOn true)

theorem exec_powerOn_of_kept (marker : s.retention.marker = true) (p : PinLevels) (l : List Finding) :
    exec (.powerOn p true l) s = .next (l.foldl (State.readWord true) (s.scanned p)).concluded := by
  change Host.Outcome.next (s.startUp p true l) = _
  rw [State.startUp_eq, marker, State.scanned, ← State.retentionKept_started]
  rfl

theorem exec_powerOn_of_lost {kept : Bool} (lost : kept = false ∨ s.retention.marker = false) (p : PinLevels)
    (l : List Finding) : exec (.powerOn p kept l) s = .next (s.found p).retentionCleared.started := by
  have invalid : (kept && s.retention.marker) = false := by
    rcases lost with none | none <;> simp [none]
  change Host.Outcome.next (s.startUp p kept l) = _
  rw [State.startUp_eq, invalid]
  rfl

theorem State.scanned_stands (s : State) (p : PinLevels) : (s.scanned p).powered = true ∧
    (s.scanned p).tables = { s.tables with permits := (s.scanned p).tables.permits } ∧
    (s.scanned p).session = { s.session.loseVolatile with
      quotaDay := if s.custody.midnight then s.custody.clock / 86400 else s.session.quotaDay } ∧
    (s.scanned p).safety.faults = s.safety.faults ∧
    (∀ k, (s.scanned p).arm k = Arm.powerOn ((s.arm k).batch.map retainedBatch)) ∧
    (∀ j, (s.scanned p).inj j = Injector.powerOn) ∧
    (s.scanned p).custody = { s.custody with midnight := false } ∧ (s.scanned p).uport = UPort.powerOn p.straps ∧
    (s.scanned p).retention = RetCtl.powerOn true := by
  obtain ⟨powered, tables, session, faults, arm, inj, custody, uport⟩ := s.found_stands p
  unfold scanned
  generalize s.found p = f at *
  exact ⟨powered, tables, session, faults, arm, inj, custody, uport, rfl⟩

theorem State.scanned_idle (s : State) (p : PinLevels) (k : Fin 4) : ((s.scanned p).arm k).state = .idle := by
  obtain ⟨-, -, -, -, arm, -⟩ := s.scanned_stands p
  rw [arm]
  rfl

end

end Sys2Proof.Machine
end

section
/-! PROOFS. O59, part by part: the loss of supply, the start with retention invalid, the start with retention valid, and
the words that its scan reads. -/

namespace Sys2Proof.Machine

section
variable {s : State}

/-! ### The part as the scan finds it -/

theorem State.firstListed_congr {t : State} (devices : t.tables.devices = s.tables.devices) :
    t.firstListed = s.firstListed := by
  unfold firstListed device
  rw [devices]

/-- The batch record found after a loss of supply: its volatile fields are gone, and no other (R107). -/
theorem retainedBatch_retains (b : Batch) : (retainedBatch b).overrun = none ∧
    { retainedBatch b with source := b.source, cause := b.cause, overrun := b.overrun, doses := b.doses } = b ∧
    (retainedBatch b).doses.map retainedDose = b.doses.map retainedDose :=
  ⟨rfl, rfl, List.map_map.trans rfl⟩

open Classical in
/-- A start that finds no session open, or one marked closed, makes no note. -/
theorem State.concluded_of_shut {w : State} (shut : ∀ r, w.session.record = some r → r.closed = true) :
    w.concluded.custody = w.custody ∧ w.concluded.tables.vehicles = w.tables.vehicles ∧
    (¬w.late → w.concluded.tables = w.tables) ∧ w.concluded.uport =
      (if w.late then w.raise (.dayRollover (w.custody.clock / 86400)) else w).uport := by
  have dropped := powerLossClose_of_shut shut
  obtain ⟨-, -, -, -, -, -, -, -, -, -, -, vehicles, -, custody⟩ := w.concluded_stands
  refine ⟨by rw [custody, dropped]; rfl, by rw [vehicles, dropped]; rfl, fun today => ?_,
    concluded_uport (by rw [dropped]; rfl) rfl⟩
  rw [(concluded_of_today today).1, dropped]
  rfl

/-! ### The loss of supply -/

/-- The state without supply, from the state `t` that the rollover still owed leaves. -/
theorem State.blank_blocks (t : State) : (∀ k, t.blank.arm k = Arm.powerOn ((t.arm k).batch.map retainedBatch)) ∧
    (∀ i, t.blank.input i = Input.powerOn (t.input i).pin) ∧ (∀ k, t.blank.meter k = (t.meter k).blank) ∧
    (∀ k, t.blank.vol k = VolArm.powerOn) ∧ ∀ i, t.blank.station i =
      ⟨if (t.device i).address = 0 then .absent else .silent, 0, [], 0⟩ :=
  ⟨fun k => Vec.get_ofFn _ k, fun _ => Vec.get_ofFn _ _, fun k => Vec.get_ofFn _ k, fun _ => Vec.get_replicate ..,
    fun i => Vec.get_freshStations t i⟩

theorem State.powerLost_eq (s : State) : s.powerLost = s.owedRollover.blank.withPowered false := by
  rw [powerLost, loseVolatile, blankVolatile_eq]

theorem exec_powerFail (live : s.live = true) : exec .powerFail s = .next s.powerLost :=
  whenPowered_of_live s live State.powerLost

theorem State.reads_of_live (live : s.live = true) : s.retention.reads = [] := by
  simp only [State.live, Bool.and_eq_true, List.isEmpty_iff] at live
  exact live.2

end

/-- Settles O59: the volatile blocks fall to their power-on values, and a start goes on from what retention holds. -/
theorem supplyLossAndStart : Obligations.SupplyLossAndStart := by
  refine ⟨fun s live canonical => ?_, fun s p kept l lost => ?_, fun s p marker => ?_,
    fun s p marker canonical made => ?_, fun s item _ => ?_⟩
  · refine ⟨s.powerLost, exec_powerFail live, ?_⟩
    have reads := State.reads_of_live live
    have permits := s.permit_owedRollover canonical
    have stands := s.owedRollover_of_made
    have whole := s.owedRollover_eq
    obtain ⟨arm, input, meter, vol, station⟩ := s.owedRollover.blank_blocks
    rw [State.powerLost_eq]
    generalize s.owedRollover = t at *
    generalize t.tables.permits = entries, t.uport = events at whole
    subst whole
    refine ⟨rfl, rfl, permits, fun made => (congrArg State.tables (stands made) :), rfl, rfl, rfl, rfl, rfl, rfl,
      fun k => ⟨congrArg Arm.state (arm k), rfl, ?_⟩, fun k => ⟨_, arm k⟩, rfl, rfl, rfl, rfl, rfl, rfl, input, meter, vol,
      rfl, rfl, station, rfl, rfl, ?_⟩
    · refine (congrArg (fun a : Arm => a.batch.map Batch.gross) (arm k)).trans ?_
      exact (Option.map_map ..).trans rfl
    · exact congrArg (fun x => { s.retention with
        correctable := 0, overflow := false, cursor := 0, passes := 0, reads := x }) reads.symm
  · obtain ⟨-, -, -, -, -, -, -, uport⟩ := s.found_stands p
    have powered : (s.found p).powered = true := (s.found_stands p).1
    refine ⟨_, exec_powerOn_of_lost lost p l, ?_⟩
    have cleared := State.retentionCleared_stands (s.found p) (by rw [uport]; rfl)
    generalize (s.found p).retentionCleared = b at *
    obtain ⟨powered', tables, custody, session, faults, arms, retention, queue⟩ := cleared
    obtain ⟨unlisted, disabled⟩ := clearedTables_unlisted b tables
    obtain ⟨supply, tables', session', faults', arms', custody', uport', retention', -, cursor⟩ := b.started_stands
    have running := b.started_running
    generalize b.started = u at *
    have fault (c : FaultClass) : u.fault c = FaultRec.empty := by
      rw [State.fault, faults', faults]
      exact Vec.get_replicate ..
    have arm (k : Fin 4) : (u.arm k).state = .idle := by
      rw [State.arm, arms', arms, Vec.get_replicate]
      rfl
    rw [session] at session'
    rw [retention] at retention'
    rw [queue, uport] at uport'
    exact ⟨supply.trans (powered'.trans powered), tables'.trans tables, custody'.trans custody, by rw [session'],
      by rw [session'], by rw [session'], fault, by rw [retention']; rfl, by rw [retention']; rfl, by rw [uport'],
      State.bayState_of_cleared u (by rw [session']) fault (by rw [session']),
      fun k => ⟨arm k, (running k).trans (disabled k)⟩, by rw [uport']; rfl, cursor.trans unlisted⟩
  · have run : exec (.powerOn p true []) s = .next (s.scanned p).concluded := exec_powerOn_of_kept marker p []
    refine ⟨_, run, ?_⟩
    have idle := s.scanned_idle p
    have plain (made : s.custody.midnight = false) : (s.scanned p).tables = s.tables := s.found_tables p made
    obtain ⟨powered, tables, session, faults, -, -, custody, uport, retention⟩ := s.scanned_stands p
    generalize s.scanned p = v at *
    have bay : v.bay = s.bay := by rw [State.bay, tables, State.bay]
    have listed : v.firstListed = s.firstListed := State.firstListed_congr (by rw [tables])
    obtain ⟨supply, closed, service, day, faults', clock, gross, retention', round, cursor, -, -, -,
      stores⟩ := v.concluded_stands
    have arms := v.concluded_arms
    have ended := State.powerLossClose_idle idle
    have shut := State.concluded_of_shut (w := v)
    generalize v.concluded = u at *
    clear stores
    refine ⟨supply.trans powered, closed, fun k => ⟨(arms k).1.trans (ended k), (arms k).2⟩, faults'.trans faults,
      clock.trans (by rw [custody]), gross.trans (by rw [custody]), by rw [retention', retention]; rfl,
      service.trans (by rw [session, bay]; rfl), day.trans (by rw [custody]), round, cursor.trans listed,
      fun unused same made => ?_⟩
    have current : ¬v.late := fun late => late (by rw [custody, session]; simpa [made] using same)
    obtain ⟨stores, -, kept, queue⟩ := shut fun r held => by
      rw [session] at held
      exact absurd (unused.symm.trans held) (by simp)
    rw [if_neg current] at queue
    exact ⟨(kept current).trans (plain made), stores.trans custody, by rw [queue, uport]; rfl⟩
  · obtain ⟨-, -, session, faults, arm, inj, custody, uport, -⟩ := s.scanned_stands p
    have tables : (s.scanned p).tables = s.tables := s.found_tables p made
    have sound : (s.scanned p).canonical = true := (State.canonical_congr tables).trans canonical
    have idle := s.scanned_idle p
    refine ⟨s.scanned p, tables, ?_, faults, ?_, uport, fun k => ?_, inj, fun l => ⟨_, exec_powerOn_of_kept marker p l, ?_⟩⟩
    · rw [session, if_neg (by simp [made])]
      rfl
    · rw [custody, ← made]
    · rw [arm k]
      refine ⟨rfl, fun empty => by rw [empty]; rfl, fun b held => ⟨retainedBatch b, by rw [held]; rfl, ?_⟩⟩
      exact retainedBatch_retains b
    · have scans := (State.readWords_scan l (s.scanned p)).canonical sound
      have still := State.readWords_scan_idle l idle
      generalize l.foldl (State.readWord true) (s.scanned p) = w at *
      obtain ⟨-, closed, service, day, faults', -⟩ := w.concluded_stands
      intro _ late
      refine ⟨closed, faults', service, day, State.permit_concluded scans still, fun shut => ?_,
        fun r record unclosed distinct => ?_⟩
      · obtain ⟨stores, vehicles, today, queue⟩ := State.concluded_of_shut shut
        refine ⟨stores, vehicles, today, queue.trans ?_⟩
        congr
      · intro c
        obtain ⟨all, charged, raised⟩ := State.concluded_closes scans record unclosed distinct
        have queue := State.concluded_uport (c := c) raised
          (congrArg CustodyBlk.clock (State.foldl_raise_custody _ w))
        refine ⟨all, charged, queue.trans ?_⟩
        congr
  · refine ⟨fun e live => exec_scrubVisit live _, rfl, rfl, fun quiet => State.uncorrectable_of_quiet quiet,
      fun strikes => ⟨s.reworded item, State.rewords_reworded item, State.readWord_scan_strikes strikes⟩⟩

end Sys2Proof.Machine
end
